-- ==== Sys2Proof/Word.lean ====
section
/-!
DEFINITION. Sys2Proof/Word.lean: the word types of the device (R8, R74, R79, R80) and nothing else.
-/

namespace Sys2Proof

/-- A byte. -/
abbrev Byte := BitVec 8

/-- A 24-bit word: one D or A register (R74). -/
abbrev W24 := BitVec 24

/-- A 32-bit word: a register of a page (R32), a syllable (R97), a physical address (R27). -/
abbrev W32 := BitVec 32

/-- A P register's 48 bits (R80). -/
abbrev W48 := BitVec 48

/-- An X register's 56 bits (R79). -/
abbrev W56 := BitVec 56

/-- The 64 data bits of a bank word (R8). -/
abbrev W64 := BitVec 64

end Sys2Proof
end

