-- ==== Sys2Proof/Syntax.lean ====
section
/-!
DEFINITION. Sys2Proof/Syntax.lean: the commands the block takes, one constructor of `Instr` per row of
spec/opcode_table.json, and the operands they carry.
-/

namespace Sys2Proof

/-- A hardware thread: core 0–31 is Hewer 0–31, core 32–34 is Overman A–C (R12, R74). An Overman has threads 0 and 1. -/
structure Hart where
  core : Fin 35
  thread : Fin 4
  deriving DecidableEq, Repr

/-- What a syllable carries beside its operands (R97): the thread that issues it, its STOP bit, and the LIMM of an EXT
syllable that directly follows it (R106); with an EXT, `stop` is the EXT's STOP bit. -/
structure Issue where
  hart : Hart
  stop : Bool
  ext : Option (BitVec 22)
  deriving DecidableEq, Repr

/-- Operand format DDD (R100). -/
structure FDdd where
  dd : BitVec 5
  ds1 : BitVec 5
  ds2 : BitVec 5
  fn : BitVec 7
  deriving DecidableEq, Repr

/-- Operand format DDI (R100). -/
structure FDdi where
  dd : BitVec 5
  ds1 : BitVec 5
  imm : BitVec 12
  deriving DecidableEq, Repr

/-- Operand format MEM (R100). -/
structure FMem where
  dt : BitVec 5
  sg : BitVec 3
  ab : BitVec 4
  am : BitVec 2
  disp : BitVec 8
  deriving DecidableEq, Repr

/-- Operand format MUL (R100). -/
structure FMul where
  dst : BitVec 3
  rsv : BitVec 2
  ds1 : BitVec 5
  ds2 : BitVec 5
  fn : BitVec 7
  deriving DecidableEq, Repr

/-- Operand format VEC (R100). -/
structure FVec where
  g1 : BitVec 2
  g2 : BitVec 2
  ds : BitVec 5
  fn : BitVec 13
  deriving DecidableEq, Repr

/-- Operand format BR (R100). -/
structure FBr where
  dc : BitVec 5
  disp : BitVec 17
  deriving DecidableEq, Repr

/-- The issuer of a bus transaction: its master ID (R24) and its privilege attribute (R333). -/
structure Requester where
  master : Byte
  priv : Bool
  deriving DecidableEq, Repr

/-- What a TDM port finds on its pins in a frame (R210, R212): the levels of DIN at the rising and at the falling edge of each BCLK period, and
the sample period of the shift that FSYNC falls in, which a clock slave goes by. -/
structure TdmIn where
  din : List (Bool × Bool)
  period : Nat
  deriving DecidableEq, Repr

/-- A transmit stream whose packed frame comes to its time (R361), with the ns since each port last brought its credits up to date (R362). -/
structure Eligible where
  stream : Fin 128
  elapsed : List Nat
  deriving DecidableEq, Repr

/-- An excursion: the limit of R403 that is exceeded, and VDD_CORE in mV, which CORE_LOW and CORE_HIGH compare (R471). -/
structure Excursion where
  limit : Fin 8
  core : Nat
  deriving DecidableEq, Repr

/-- The ports that the bandwidth monitors count at (R439). -/
inductive BwPort where
  | stope | adit | face
  deriving DecidableEq, Repr

/-- What the flash controller finds at a read of the status byte (R462 steps 4 and 5): the byte, what the flash sent for DIR READ, and the flash
bytes that the command's opcode has changed. -/
structure FlashStatus where
  byte : Byte
  sent : List Byte
  changed : List (Nat × Byte)
  deriving DecidableEq, Repr

/-- What the Lamp room finds of a domain's use in a period: its activity counts, and the temperature of its on-die sensor (R376). -/
structure DomainUse where
  counts : List Nat
  temp : Int
  deriving DecidableEq, Repr

/-- What the boundary finds outside the block: the phase error of the media clock's source in 10 ns units and the correction its
servo asks for, in thirds of 0.001 ppm (R207, R208); whether a source newly selected is valid; the bits on the 32 PDM data pins (R215) and on the 96 sense pins
(R223) in the shift that ends, each at the rising and at the falling edge of a clock period; the use of the 64 domains; and the grid shift number of
the shift that begins (R350). -/
structure BoundaryIn where
  phaseErr : Int
  corr : Int
  sourceValid : Bool
  pdm : List (List (Bool × Bool))
  sense : List (List (Bool × Bool))
  use : List DomainUse
  grid : Int
  deriving DecidableEq, Repr

/-- What a boot finds outside the block (R442–R456): the straps; the panels whose parity update the reset stopped, by bank and panel
(R328); the bank that fails the memory test, with 0, or the self-test, with its step, if any (R327, R451); whether the flash offers 8D-8D-8D, with its command extension, read-status
opcode and size (R446, R462); the number of segments written before a read of the flash fails, if one does (R453); and the gauges
of the islands that a survey reads (R452). -/
structure BootIn where
  mode : BitVec 2
  refsel : Bool
  xspi1s : Bool
  inFlight : List (Nat × Nat)
  badBank : Option (Nat × Nat)
  octal : Bool
  ext : Bool
  rdsr : Byte
  sizeLog2 : Nat
  flashFails : Option Nat
  gauges : List (List Int)
  deriving DecidableEq, Repr

/-- A frame as it arrives at a port's MAC: its bytes from the destination address to the end of the payload, whether its FCS is
good, and its receipt timestamp in ns of gPTP time (R347, R353). -/
structure RxFrame where
  bytes : List Byte
  fcsOk : Bool
  time : Int
  deriving DecidableEq, Repr

/-- What a gPTP message carries (R345): an Announce's system identity as a number, the lowest being the best master; the origin time of a
Sync in ns with its correction, none where a Follow_Up brings it (two-step); and the times of a peer delay exchange. Numbers `seq` are sequence
numbers. -/
inductive PtpBody where
  | announce (identity : Nat)
  | sync (seq : BitVec 16) (origin : Option Int)
  | followUp (seq : BitVec 16) (origin : Int)
  | pdelayReq (seq : BitVec 16)
  | pdelayResp (seq : BitVec 16) (received : Int)
  | pdelayRespFollowUp (seq : BitVec 16) (sent : Int)
  deriving DecidableEq, Repr

/-- A gPTP message as a port receives it: its domain number, its receipt timestamp in ns of gPTP time, and what it carries (R345, R348). -/
structure PtpMsg where
  domain : Byte
  time : Int
  body : PtpBody
  deriving DecidableEq, Repr

/-- The gPTP messages the engine sends (R345): two-step Sync and Follow_Up, Announce, and those of peer delay. -/
inductive PtpKind where
  | sync | followUp | announce
  | pdelayReq (seq : BitVec 16)
  | pdelayResp (seq : BitVec 16)
  | pdelayRespFollowUp (seq : BitVec 16)
  deriving DecidableEq, Repr


/-- The commands: one constructor per row of spec/opcode_table.json, in the table's order. -/
inductive Instr where
  /-- SHIFT_BOUNDARY (R46). -/
  | shiftBoundary (inp : BoundaryIn)
  /-- INTAKE_END (R46). -/
  | intakeEnd
  /-- PRIMARY_END (R46). -/
  | primaryEnd
  /-- SHADOW_END (R46). -/
  | shadowEnd
  /-- VERDICT_END (R46). -/
  | verdictEnd
  /-- DRAIN_DEADLINE (R46). -/
  | drainDeadline
  /-- ADIT_COPY_CUTOFF (R48). -/
  | aditCopyCutoff
  /-- CROSSING_DELIVERY (R19). -/
  | crossingDelivery (src dst : Fin 48) (offered : List W64)
  /-- REGISTER_WRITE (R34). -/
  | registerWrite (q : Requester) (addr : W32) (size : Nat) (data : W32)
  /-- BLK_LOCK_WRITE (R40). -/
  | blkLockWrite (q : Requester) (page : Nat) (data : W32)
  /-- BLK_OWNER_WRITE (R38). -/
  | blkOwnerWrite (q : Requester) (page : Nat) (data : W32)
  /-- OWNER_DRAIN_DONE (R294). -/
  | ownerDrainDone (bank : Fin 52)
  /-- BLK_PWR_WRITE (R39). -/
  | blkPwrWrite (q : Requester) (page : Nat) (data : W32)
  /-- BLK_ERR_CODE_CLR (R35). -/
  | blkErrCodeClr (q : Requester) (page : Nat)
  /-- BLK_EVT_CLEAR (R37). -/
  | blkEvtClear (q : Requester) (page : Nat) (data : W32)
  /-- BLK_EVT_SET_WRITE (R35). -/
  | blkEvtSetWrite (q : Requester) (page : Nat) (data : W32)
  /-- ROSTER_SWITCH (R55). -/
  | rosterSwitch (q : Requester) (cancel : Bool)
  /-- ROSTER_CANCEL (R56). -/
  | rosterCancel (q : Requester)
  /-- ROSTER_VALIDATION_DONE (R55). -/
  | rosterValidationDone
  /-- TASK_DISPATCH (R60). -/
  | taskDispatch (h : Hart)
  /-- TASK_PASS_COMPLETE (R62). -/
  | taskPassComplete (h : Hart)
  /-- CUT_LOG_READ (R71). -/
  | cutLogRead (q : Requester)
  /-- NOP (R98). -/
  | nop (i : Issue) (inC : Bool) (f : BitVec 22)
  /-- LDB (R111). -/
  | ldb (i : Issue) (f : FMem)
  /-- LDBU (R111). -/
  | ldbu (i : Issue) (f : FMem)
  /-- LDH (R111). -/
  | ldh (i : Issue) (f : FMem)
  /-- LDHU (R111). -/
  | ldhu (i : Issue) (f : FMem)
  /-- LDS (R111). -/
  | lds (i : Issue) (f : FMem)
  /-- LDC (R111). -/
  | ldc (i : Issue) (f : FMem)
  /-- LDA (R111). -/
  | lda (i : Issue) (f : FMem)
  /-- LDX (R111). -/
  | ldx (i : Issue) (f : FMem)
  /-- STB (R111). -/
  | stb (i : Issue) (f : FMem)
  /-- STH (R111). -/
  | sth (i : Issue) (f : FMem)
  /-- STS (R111). -/
  | sts (i : Issue) (f : FMem)
  /-- STC (R111). -/
  | stc (i : Issue) (f : FMem)
  /-- STA (R111). -/
  | sta (i : Issue) (f : FMem)
  /-- STX (R111). -/
  | stx (i : Issue) (f : FMem)
  /-- VLDS (R113). -/
  | vlds (i : Issue) (f : FMem)
  /-- VLDC (R113). -/
  | vldc (i : Issue) (f : FMem)
  /-- VSTS (R113). -/
  | vsts (i : Issue) (f : FMem)
  /-- VSTC (R113). -/
  | vstc (i : Issue) (f : FMem)
  /-- LDR (R114). -/
  | ldr (i : Issue) (f : FMem)
  /-- STR (R114). -/
  | str (i : Issue) (f : FMem)
  /-- LDSEG (R115). -/
  | ldseg (i : Issue) (f : FMem)
  /-- STSEG (R115). -/
  | stseg (i : Issue) (f : FMem)
  /-- LDK (R134). -/
  | ldk (i : Issue) (f : FMem)
  /-- STK (R134). -/
  | stk (i : Issue) (f : FMem)
  /-- XCHG (R137). -/
  | xchg (i : Issue) (f : FMem)
  /-- FADD (R137). -/
  | fadd (i : Issue) (f : FMem)
  /-- ADD (R116). -/
  | add (i : Issue) (f : FDdd)
  /-- SUB (R116). -/
  | sub (i : Issue) (f : FDdd)
  /-- ADDS (R116). -/
  | adds (i : Issue) (f : FDdd)
  /-- SUBS (R116). -/
  | subs (i : Issue) (f : FDdd)
  /-- NEG (R116). -/
  | neg (i : Issue) (f : FDdd)
  /-- ABS (R116). -/
  | abs (i : Issue) (f : FDdd)
  /-- AND (R116). -/
  | and (i : Issue) (f : FDdd)
  /-- OR (R116). -/
  | or (i : Issue) (f : FDdd)
  /-- XOR (R116). -/
  | xor (i : Issue) (f : FDdd)
  /-- MIN (R116). -/
  | min (i : Issue) (f : FDdd)
  /-- MAX (R116). -/
  | max (i : Issue) (f : FDdd)
  /-- ADDI (R116). -/
  | addi (i : Issue) (f : FDdi)
  /-- ANDI (R116). -/
  | andi (i : Issue) (f : FDdi)
  /-- ORI (R116). -/
  | ori (i : Issue) (f : FDdi)
  /-- XORI (R116). -/
  | xori (i : Issue) (f : FDdi)
  /-- AADD (R116). -/
  | aadd (i : Issue) (f : FDdd)
  /-- ASUB (R116). -/
  | asub (i : Issue) (f : FDdd)
  /-- AADDI (R116). -/
  | aaddi (i : Issue) (f : FDdi)
  /-- ACIRC (R116). -/
  | acirc (i : Issue) (f : FDdi)
  /-- AMOVI (R116). -/
  | amovi (i : Issue) (f : FDdi)
  /-- CEQ (R117). -/
  | ceq (i : Issue) (f : FDdd)
  /-- CNE (R117). -/
  | cne (i : Issue) (f : FDdd)
  /-- CLT (R117). -/
  | clt (i : Issue) (f : FDdd)
  /-- CLE (R117). -/
  | cle (i : Issue) (f : FDdd)
  /-- CLTU (R117). -/
  | cltu (i : Issue) (f : FDdd)
  /-- CLEU (R117). -/
  | cleu (i : Issue) (f : FDdd)
  /-- CEQI (R117). -/
  | ceqi (i : Issue) (f : FDdi)
  /-- CLTI (R117). -/
  | clti (i : Issue) (f : FDdi)
  /-- CGTI (R117). -/
  | cgti (i : Issue) (f : FDdi)
  /-- SHL (R118). -/
  | shl (i : Issue) (f : FDdd)
  /-- SHRA (R118). -/
  | shra (i : Issue) (f : FDdd)
  /-- SHRL (R118). -/
  | shrl (i : Issue) (f : FDdd)
  /-- SHLI (R118). -/
  | shli (i : Issue) (f : FDdi)
  /-- SHRAI (R118). -/
  | shrai (i : Issue) (f : FDdi)
  /-- SHRLI (R118). -/
  | shrli (i : Issue) (f : FDdi)
  /-- BFEXT (R118). -/
  | bfext (i : Issue) (f : FDdi)
  /-- BFEXTS (R118). -/
  | bfexts (i : Issue) (f : FDdi)
  /-- BFINS (R118). -/
  | bfins (i : Issue) (f : FDdi)
  /-- BFEXTR (R118). -/
  | bfextr (i : Issue) (f : FDdd)
  /-- BFINSR (R118). -/
  | bfinsr (i : Issue) (f : FDdd)
  /-- CLZ (R118). -/
  | clz (i : Issue) (f : FDdd)
  /-- CLS (R118). -/
  | cls (i : Issue) (f : FDdd)
  /-- BPERM (R119). -/
  | bperm (i : Issue) (f : FDdd)
  /-- BPERMI (R119). -/
  | bpermi (i : Issue) (f : FDdi)
  /-- SCLAMP (R118). -/
  | sclamp (i : Issue) (f : FDdd)
  /-- MOVI (R120). -/
  | movi (i : Issue) (f : FDdi)
  /-- MOVIU (R120). -/
  | moviu (i : Issue) (f : FDdi)
  /-- MOV (R120). -/
  | mov (i : Issue) (f : FDdd)
  /-- MOVAD (R120). -/
  | movad (i : Issue) (f : FDdd)
  /-- MOVDA (R120). -/
  | movda (i : Issue) (f : FDdd)
  /-- MFS (R120). -/
  | mfs (i : Issue) (f : FDdd)
  /-- MTS (R120). -/
  | mts (i : Issue) (f : FDdd)
  /-- PTST (R96). -/
  | ptst (i : Issue) (f : FDdd)
  /-- XOP (R141). -/
  | xop (i : Issue) (k : BitVec 4) (f : FDdd)
  /-- MUL (R121). -/
  | mul (i : Issue) (f : FMul)
  /-- MAC (R121). -/
  | mac (i : Issue) (f : FMul)
  /-- MSU (R121). -/
  | msu (i : Issue) (f : FMul)
  /-- MACP (R121). -/
  | macp (i : Issue) (f : FMul)
  /-- MOVPX (R121). -/
  | movpx (i : Issue) (f : FMul)
  /-- XCLR (R121). -/
  | xclr (i : Issue) (f : FMul)
  /-- XADD (R121). -/
  | xadd (i : Issue) (f : FMul)
  /-- XSHA (R121). -/
  | xsha (i : Issue) (f : FMul)
  /-- XMOVD (R121). -/
  | xmovd (i : Issue) (f : FMul)
  /-- XTR (R122). -/
  | xtr (i : Issue) (f : FDdd)
  /-- XTRV (R122). -/
  | xtrv (i : Issue) (f : FVec)
  /-- VMUL (R123). -/
  | vmul (i : Issue) (f : FVec)
  /-- VMAC (R123). -/
  | vmac (i : Issue) (f : FVec)
  /-- VMSU (R123). -/
  | vmsu (i : Issue) (f : FVec)
  /-- VMACS (R123). -/
  | vmacs (i : Issue) (f : FVec)
  /-- VMSUS (R123). -/
  | vmsus (i : Issue) (f : FVec)
  /-- BZ (R124). -/
  | bz (i : Issue) (f : FBr)
  /-- BNZ (R124). -/
  | bnz (i : Issue) (f : FBr)
  /-- BRA (R124). -/
  | bra (i : Issue) (f : FBr)
  /-- CALL (R124). -/
  | call (i : Issue) (f : FBr)
  /-- JMP (R124). -/
  | jmp (i : Issue) (f : BitVec 22)
  /-- CALLR (R124). -/
  | callr (i : Issue) (f : BitVec 22)
  /-- TDONE (R125). -/
  | tdone (i : Issue) (f : BitVec 22)
  /-- RETX (R161). -/
  | retx (i : Issue) (f : BitVec 22)
  /-- IFLUSH (R153). -/
  | iflush (i : Issue) (f : BitVec 22)
  /-- CHECK (R260). -/
  | check (i : Issue) (f : BitVec 22)
  /-- AGREE (R138). -/
  | agree (i : Issue) (f : BitVec 22)
  /-- LOCK (R134). -/
  | lock (i : Issue) (f : BitVec 22)
  /-- UNLOCK (R134). -/
  | unlock (i : Issue) (f : BitVec 22)
  /-- TRAP (R125). -/
  | trap (i : Issue) (f : BitVec 22)
  /-- WAIT (R125). -/
  | wait (i : Issue) (f : BitVec 22)
  /-- REP (R126). -/
  | rep (i : Issue) (f : BitVec 22)
  /-- REPI (R127). -/
  | repi (i : Issue) (f : BitVec 22)
  /-- REPIR (R127). -/
  | repir (i : Issue) (f : BitVec 22)
  /-- BMOV (R131). -/
  | bmov (i : Issue) (f : BitVec 22)
  /-- BFILL (R131). -/
  | bfill (i : Issue) (f : BitVec 22)
  /-- BSCAN (R131). -/
  | bscan (i : Issue) (f : BitVec 22)
  /-- BXFORM (R131). -/
  | bxform (i : Issue) (f : BitVec 22)
  /-- INTERRUPT_ACCEPT (R154). -/
  | interruptAccept (h : Hart)
  /-- WAIT_RESUME (R125). -/
  | waitResume (h : Hart)
  /-- LINE_FILL (R151). -/
  | lineFill (h : Hart)
  /-- ACCESS_RESPONSE (R148). -/
  | accessResponse (h : Hart)
  /-- STORE_BUFFER_PERFORM (R149). -/
  | storeBufferPerform (core : Fin 32)
  /-- MM_LOG_READ (R186). -/
  | mmLogRead (q : Requester) (hewer : Fin 32)
  /-- TIPPLE_STAGE_DATA_WRITE (R202). -/
  | tippleStageDataWrite (q : Requester) (data : W32)
  /-- TIPPLE_COLUMN_COMPARE (R199). -/
  | tippleColumnCompare (column : Fin 256)
  /-- FAIL_LOG_READ (R205). -/
  | failLogRead (q : Requester)
  /-- MCLK_SOURCE_VALID (R208). -/
  | mclkSourceValid
  /-- MCLK_SOURCE_INVALID (R208). -/
  | mclkSourceInvalid
  /-- MCLK_LOCKED (R208). -/
  | mclkLocked
  /-- TDM_FRAME (R212). -/
  | tdmFrame (port : Fin 8) (rx : TdmIn) (misplaced : Bool)
  /-- TDM_BCLK_LOSS (R212). -/
  | tdmBclkLoss (port : Fin 8)
  /-- PDM_WARMUP_END (R216). -/
  | pdmWarmupEnd (group : Fin 8)
  /-- MIC_STUCK (R216). -/
  | micStuck (mic : Fin 64)
  /-- PWM_STATE_WRITE (R220). -/
  | pwmStateWrite (q : Requester) (chan : Fin 96) (data : W32)
  /-- SENSE_STUCK (R224). -/
  | senseStuck (chan : Fin 96) (current : Bool)
  /-- REFUGE_ARM_WRITE (R227). -/
  | refugeArmWrite (q : Requester) (data : W32)
  /-- REFUGE_REQ_PRESENT (R229). -/
  | refugeReqPresent
  /-- REFUGE_REQ_ABSENT (R229). -/
  | refugeReqAbsent
  /-- REFUGE_LEVEL_RAMP_DONE (R229). -/
  | refugeLevelRampDone
  /-- REFUGE_DEACTIVATE (R230). -/
  | refugeDeactivate
  /-- REFUGE_SOURCE_LOST (R228). -/
  | refugeSourceLost
  /-- REFUGE_SOURCE_RETURN (R228). -/
  | refugeSourceReturn
  /-- REFUGE_TONE_SEGMENT_END (R228). -/
  | refugeToneSegmentEnd
  /-- INTERVAL_DONE (R241). -/
  | intervalDone (pair : Fin 24)
  /-- DEP_NOP (R248). -/
  | depNop (pair : Fin 24)
  /-- DEP_MOVI (R248). -/
  | depMovi (pair : Fin 24) (d : Fin 8) (imm : Byte)
  /-- DEP_ADDI (R248). -/
  | depAddi (pair : Fin 24) (d : Fin 8) (imm : Byte)
  /-- DEP_ANDI (R248). -/
  | depAndi (pair : Fin 24) (d : Fin 8) (imm : Byte)
  /-- DEP_ORI (R248). -/
  | depOri (pair : Fin 24) (d : Fin 8) (imm : Byte)
  /-- DEP_XORI (R248). -/
  | depXori (pair : Fin 24) (d : Fin 8) (imm : Byte)
  /-- DEP_CEQI (R248). -/
  | depCeqi (pair : Fin 24) (d : Fin 8) (imm : Byte)
  /-- DEP_CLTUI (R248). -/
  | depCltui (pair : Fin 24) (d : Fin 8) (imm : Byte)
  /-- DEP_ALU_MOV (R249). -/
  | depAluMov (pair : Fin 24) (d r : Fin 8)
  /-- DEP_ALU_ADD (R249). -/
  | depAluAdd (pair : Fin 24) (d r : Fin 8)
  /-- DEP_ALU_SUB (R249). -/
  | depAluSub (pair : Fin 24) (d r : Fin 8)
  /-- DEP_ALU_AND (R249). -/
  | depAluAnd (pair : Fin 24) (d r : Fin 8)
  /-- DEP_ALU_OR (R249). -/
  | depAluOr (pair : Fin 24) (d r : Fin 8)
  /-- DEP_ALU_XOR (R249). -/
  | depAluXor (pair : Fin 24) (d r : Fin 8)
  /-- DEP_ALU_SHL (R249). -/
  | depAluShl (pair : Fin 24) (d r : Fin 8)
  /-- DEP_ALU_SHR (R249). -/
  | depAluShr (pair : Fin 24) (d r : Fin 8)
  /-- DEP_ALU_SAR (R249). -/
  | depAluSar (pair : Fin 24) (d r : Fin 8)
  /-- DEP_ALU_CEQ (R249). -/
  | depAluCeq (pair : Fin 24) (d r : Fin 8)
  /-- DEP_ALU_CNE (R249). -/
  | depAluCne (pair : Fin 24) (d r : Fin 8)
  /-- DEP_ALU_CLTU (R249). -/
  | depAluCltu (pair : Fin 24) (d r : Fin 8)
  /-- DEP_ALU_CLT (R249). -/
  | depAluClt (pair : Fin 24) (d r : Fin 8)
  /-- DEP_ALU_CLEU (R249). -/
  | depAluCleu (pair : Fin 24) (d r : Fin 8)
  /-- DEP_ALU_CLE (R249). -/
  | depAluCle (pair : Fin 24) (d r : Fin 8)
  /-- DEP_ALU_NOT (R249). -/
  | depAluNot (pair : Fin 24) (d r : Fin 8)
  /-- DEP_ALU_ADDW (R249). -/
  | depAluAddw (pair : Fin 24) (d r : Fin 8)
  /-- DEP_ALU_SUBW (R249). -/
  | depAluSubw (pair : Fin 24) (d r : Fin 8)
  /-- DEP_ALU_CEQW (R249). -/
  | depAluCeqw (pair : Fin 24) (d r : Fin 8)
  /-- DEP_ALU_CLTUW (R249). -/
  | depAluCltuw (pair : Fin 24) (d r : Fin 8)
  /-- DEP_ALU_MULU (R249). -/
  | depAluMulu (pair : Fin 24) (d r : Fin 8)
  /-- DEP_ALU_CARRY (R249). -/
  | depAluCarry (pair : Fin 24) (d r : Fin 8)
  /-- DEP_LD (R248). -/
  | depLd (pair : Fin 24) (d : Fin 8) (y : Fin 2) (u : BitVec 7)
  /-- DEP_ST (R248). -/
  | depSt (pair : Fin 24) (d : Fin 8) (y : Fin 2) (u : BitVec 7)
  /-- DEP_LDP (R248). -/
  | depLdp (pair : Fin 24) (d : Fin 8) (y : Fin 2) (u : BitVec 7)
  /-- DEP_STP (R248). -/
  | depStp (pair : Fin 24) (d : Fin 8) (y : Fin 2) (u : BitVec 7)
  /-- DEP_LDQ (R248). -/
  | depLdq (pair : Fin 24) (d : Fin 8) (y : Fin 2) (u : BitVec 7)
  /-- DEP_STQ (R248). -/
  | depStq (pair : Fin 24) (d : Fin 8) (y : Fin 2) (u : BitVec 7)
  /-- DEP_LDY (R248). -/
  | depLdy (pair : Fin 24) (y : Fin 2) (imm : BitVec 16)
  /-- DEP_YADDI (R248). -/
  | depYaddi (pair : Fin 24) (y : Fin 2) (imm : Byte)
  /-- DEP_MOVYG (R248). -/
  | depMovyg (pair : Fin 24) (y : Fin 2) (d : Fin 8)
  /-- DEP_MOVGY (R248). -/
  | depMovgy (pair : Fin 24) (y : Fin 2) (d : Fin 8)
  /-- DEP_BZ (R248). -/
  | depBz (pair : Fin 24) (d : Fin 8) (disp : Byte)
  /-- DEP_BNZ (R248). -/
  | depBnz (pair : Fin 24) (d : Fin 8) (disp : Byte)
  /-- DEP_JMP (R248). -/
  | depJmp (pair : Fin 24) (target : BitVec 16)
  /-- DEP_CALL (R248). -/
  | depCall (pair : Fin 24) (target : BitVec 16)
  /-- DEP_RET (R248). -/
  | depRet (pair : Fin 24)
  /-- DEP_RETI (R248). -/
  | depReti (pair : Fin 24)
  /-- DEP_SETIE (R248). -/
  | depSetie (pair : Fin 24) (on : Bool)
  /-- DEP_WAITE (R248). -/
  | depWaite (pair : Fin 24)
  /-- DEP_WAITE_RESUME (R248). -/
  | depWaiteResume (pair : Fin 24)
  /-- DEP_INTERRUPT_ACCEPT (R250). -/
  | depInterruptAccept (pair : Fin 24)
  /-- DEP_LOCKSTEP_MISMATCH (R252). -/
  | depLockstepMismatch (pair : Fin 24)
  /-- DEP_RESTART_RELEASE (R252). -/
  | depRestartRelease (pair : Fin 24)
  /-- DEP_HEARTBEAT_TIMEOUT (R255). -/
  | depHeartbeatTimeout (pair : Fin 24)
  /-- DEP_KICK_WRITE (R255). -/
  | depKickWrite (q : Requester) (pair : Fin 24) (data : W32)
  /-- DEP_LINE_WRITE (R256). -/
  | depLineWrite (q : Requester) (pair : Fin 24) (k : Fin 4) (data : W32)
  /-- CONTACT_SAMPLE (R257). -/
  | contactSample (pair : Fin 24) (levels : BitVec 4)
  /-- CHECKPOINT_VOTE (R266). -/
  | checkpointVote
  /-- CHECKPOINT_TARGET_TIMEOUT (R262). -/
  | checkpointTargetTimeout
  /-- AGREE_MATCH (R270). -/
  | agreeMatch (thread : Fin 2)
  /-- AGREE_TIMEOUT (R271). -/
  | agreeTimeout (thread : Fin 2)
  /-- RESYNC_COPY_DONE (R276). -/
  | resyncCopyDone
  /-- CAN_REQ_WRITE (R284). -/
  | canReqWrite (q : Requester) (data : W32)
  /-- ZONE_CTL_WRITE (R285). -/
  | zoneCtlWrite (q : Requester) (zone : Fin 128) (data : W32)
  /-- GAT_GERR_CLR (R287). -/
  | gatGerrClr (q : Requester)
  /-- GAT_SAFE_SAFE (R404). -/
  | gatSafeSafe (q : Requester)
  /-- GAT_SAFE_RESET (R442). -/
  | gatSafeReset (q : Requester)
  /-- BANK_INVALIDATE_GO (R300). -/
  | bankInvalidateGo (q : Requester) (bank : Fin 52) (words : BitVec 19)
  /-- INV_DONE (R300). -/
  | invDone (bank : Fin 52)
  /-- WINDER_START (R307). -/
  | winderStart (q : Requester) (district : Fin 4) (chan : Fin 16) (data : W32)
  /-- WINDER_STOP (R309). -/
  | winderStop (q : Requester) (district : Fin 4) (chan : Fin 16) (data : W32)
  /-- WINDER_RESUME (R309). -/
  | winderResume (q : Requester) (district : Fin 4) (chan : Fin 16) (data : W32)
  /-- WINDER_ENTRY (R307). -/
  | winderEntry (district : Fin 4) (chan : Fin 16) (elements : Nat)
  /-- PANEL_DECODE (R318). -/
  | panelDecode (group : Fin 10)
  /-- ECC_RETIRE_WRITE (R324). -/
  | eccRetireWrite (q : Requester) (group : Fin 10) (w : Fin 64) (data : W32)
  /-- ECC_CLR_ALL (R329). -/
  | eccClrAll (q : Requester) (group : Fin 10)
  /-- ECC_CLR_COUNTS (R329). -/
  | eccClrCounts (q : Requester) (group : Fin 10)
  /-- ECC_CLR_ONE (R329). -/
  | eccClrOne (q : Requester) (group : Fin 10) (index : Fin 64)
  /-- SCRUB_GO (R326). -/
  | scrubGo (q : Requester) (group : Fin 10)
  /-- SCRUB_STOP (R326). -/
  | scrubStop (q : Requester) (group : Fin 10)
  /-- SCRUB_DONE (R326). -/
  | scrubDone (group : Fin 10)
  /-- ECC_SELFTEST_GO (R327). -/
  | eccSelftestGo (q : Requester) (group : Fin 10)
  /-- ECC_SELFTEST_DONE (R327). -/
  | eccSelftestDone (group : Fin 10) (fail : Option (Nat × Fin 9))
  /-- FRAME_RECEIVE (R352). -/
  | frameReceive (port : Fin 4) (frame : RxFrame)
  /-- PTP_MESSAGE_RECEIVE (R348). -/
  | ptpMessageReceive (port : Fin 4) (msg : PtpMsg)
  /-- PTP_MESSAGE_SEND (R348). -/
  | ptpMessageSend (port : Fin 4) (kind : PtpKind)
  /-- PTP_SYNC_TIMEOUT (R349). -/
  | ptpSyncTimeout
  /-- LINK_DOWN (R347). -/
  | linkDown (port : Fin 4)
  /-- LINK_UP (R347). -/
  | linkUp (port : Fin 4)
  /-- TALLY_GRANT (R368). -/
  | tallyGrant (pool : Fin 4)
  /-- FRAME_COPY_DONE (R354). -/
  | frameCopyDone (port : Fin 4)
  /-- TX_FRAME_ELIGIBLE (R361). -/
  | txFrameEligible (frame : Eligible)
  /-- TX_FIFO_COPY (R361). -/
  | txFifoCopy (port : Fin 4) (elapsed : Nat)
  /-- TX_FRAME_DONE (R361). -/
  | txFrameDone (port : Fin 4) (time : Int)
  /-- TX_FRAME_STALE (R361). -/
  | txFrameStale (port : Fin 4)
  /-- ELIMINATION_RESET (R358). -/
  | eliminationReset (stream : Fin 256)
  /-- LAMP_ROOM_PERIOD (R375). -/
  | lampRoomPeriod (use : List DomainUse)
  /-- PMON_READ (R379). -/
  | pmonRead (value : Option Nat)
  /-- LRM_STATE_WRITE (R384). -/
  | lrmStateWrite (q : Requester) (data : W32)
  /-- WAKE_PIN (R387). -/
  | wakePin
  /-- WAKE_TIMER (R387). -/
  | wakeTimer
  /-- CRG_FREQ_WRITE (R388). -/
  | crgFreqWrite (q : Requester) (island : Fin 48) (data : W32)
  /-- SURVEY_GO (R391). -/
  | surveyGo (q : Requester) (island : Fin 48)
  /-- SURVEY_DONE (R391). -/
  | surveyDone (island : Fin 48) (gauges : List Int)
  /-- OPHOURS_TICK (R393). -/
  | ophoursTick
  /-- LRM_WEAR_WRITE (R392). -/
  | lrmWearWrite (q : Requester) (island : Fin 48) (data : W32)
  /-- WDG_KICK (R411). -/
  | wdgKick (q : Requester) (data : W32) (elapsed : Nat)
  /-- WDG_TIMEOUT (R411). -/
  | wdgTimeout
  /-- WDG_RESET (R412). -/
  | wdgReset
  /-- WDG_ALIVE (R408). -/
  | wdgAlive (q : Requester) (data : W32)
  /-- BEL_SWI_SET (R417). -/
  | belSwiSet (q : Requester) (data : W32)
  /-- BEL_SWI_CLR (R417). -/
  | belSwiClr (q : Requester) (data : W32)
  /-- MONITOR_EXCURSION (R403). -/
  | monitorExcursion (x : Excursion)
  /-- DREAD (R420). -/
  | dread (off : BitVec 12)
  /-- DWRITE (R420). -/
  | dwrite (off : BitVec 12) (data : W32)
  /-- MREAD (R422). -/
  | mread (addr : W32) (size : BitVec 2) (late : Bool)
  /-- MWRITE (R422). -/
  | mwrite (addr : W32) (size : BitVec 2) (data : W32) (late : Bool)
  /-- POLL (R422). -/
  | poll
  /-- BREAK (R418). -/
  | wireBreak
  /-- DEBUG_ACCESS_DONE (R422). -/
  | debugAccessDone
  /-- DBG_AUTH_REQUEST (R424). -/
  | dbgAuthRequest (level : BitVec 2)
  /-- DBG_RESPONSE_COMPARE (R424). -/
  | dbgResponseCompare (data : W32)
  /-- HALT_REQUEST (R426). -/
  | haltRequest
  /-- HALT_COMPLETE (R427). -/
  | haltComplete (elapsed : Nat)
  /-- RESUME (R431). -/
  | resume (long : Bool)
  /-- FEED_GO (R430). -/
  | feedGo
  /-- TXD_WRITE (R433). -/
  | txdWrite (q : Requester) (data : W32)
  /-- TX_ACK (R433). -/
  | txAck
  /-- RXD_WRITE (R433). -/
  | rxdWrite (data : W32)
  /-- RX_ACK (R433). -/
  | rxAck (q : Requester)
  /-- TRACE_READ (R434). -/
  | traceRead (q : Requester)
  /-- PMC_COUNTER_WRITE (R437). -/
  | pmcCounterWrite (q : Requester) (page : Nat) (k : Fin 8) (data : W32)
  /-- PMC_SNAP (R438). -/
  | pmcSnap (q : Requester)
  /-- PMC_COUNTER_WRAP (R437). -/
  | pmcCounterWrap (page : Nat) (k : Fin 8)
  /-- BW_WINDOW_END (R439). -/
  | bwWindowEnd (port : BwPort) (n : Fin 32)
  /-- POWER_ON_RESET_CAUSE (R484). -/
  | powerOnResetCause
  /-- REFERENCE_COUNT_DONE (R484). -/
  | referenceCountDone
  /-- WARM_RESET_PIN (R418). -/
  | warmResetPin
  /-- RESET_RELEASE (R442). -/
  | resetRelease (inp : BootIn)
  /-- BOOT_TIMEOUT (R448). -/
  | bootTimeout
  /-- BOOT_RETRY (R449). -/
  | bootRetry
  /-- BOOT_HANDOVER (R455). -/
  | bootHandover (micros : Nat) (inp : BoundaryIn)
  /-- XSP_CMD_GO (R462). -/
  | xspCmdGo (q : Requester) (data : W32)
  /-- XSP_STATUS_POLL (R462). -/
  | xspStatusPoll (status : FlashStatus)
  /-- XSP_POLL_TIMEOUT (R462). -/
  | xspPollTimeout
  /-- XSP_CMD_DONE (R462). -/
  | xspCmdDone (read : List Byte) (changed : List (Nat × Byte))
  /-- PCIE_CONFIG_REQUEST (R464). -/
  | pcieConfigRequest (write : Bool) (off : BitVec 12) (data : W32)
  /-- PCIE_BAR_READ (R342). -/
  | pcieBarRead (bar : Fin 6) (off : Nat) (len : Nat) (enabled : Bool)
  /-- PCIE_BAR_WRITE (R342). -/
  | pcieBarWrite (bar : Fin 6) (off : Nat) (bytes : List Byte) (enabled : Bool)
  /-- PCIE_PERST (R481). -/
  | pciePerst (level : Bool)
  /-- PCI_H2D_WRITE (R465). -/
  | pciH2dWrite (q : Requester) (data : W32)
  /-- PCI_H2D_ACK (R465). -/
  | pciH2dAck (q : Requester)
  /-- PCI_D2H_WRITE (R465). -/
  | pciD2hWrite (q : Requester) (data : W32)
  /-- PCI_D2H_ACK (R465). -/
  | pciD2hAck (q : Requester)
  /-- PCI_MSI_SEND (R465). -/
  | pciMsiSend (q : Requester) (vector : BitVec 5)
  /-- MSI_PENDING_SEND (R465). -/
  | msiPendingSend (vector : Fin 32)
  /-- ILLEGAL_OPCODE (R98). -/
  | illegalOpcode (i : Issue) (slot : BitVec 2) (opc : BitVec 7) (f : BitVec 22)
  /-- DEP_ILLEGAL (R248). -/
  | depIllegal (pair : Fin 24)
  /-- SENSE_CLIP (R224). -/
  | senseClip (chan : Fin 96) (current : Bool)
  /-- MODULATOR_CLIP (R219). -/
  | modulatorClip (chan : Fin 96)
  /-- EXCURSION_END (R403). -/
  | excursionEnd (limit : Fin 8)
  /-- WARM_RESET_PIN_END (R442). -/
  | warmResetPinEnd
  /-- SUPPLY_RETURN (R484). -/
  | supplyReturn
  /-- PCIE_LINK_CHANGE (R466). -/
  | pcieLinkChange (link : Option (BitVec 2 × BitVec 2))
  /-- ANNOUNCE_RECEIPT_TIMEOUT (R348). -/
  | announceReceiptTimeout
  deriving DecidableEq, Repr

end Sys2Proof
end

