-- ==== Sys2Proof/Decode.lean ====
section
/-!
DEFINITION. Sys2Proof/Decode.lean: the table of commands gives no row any bits, so no word spells a command.
-/

namespace Sys2Proof

/-- The command that a word of the table spells: none, for a table without bits. -/
def decodeTableWord (_nbits _w : Nat) : Option Instr := none

end Sys2Proof
end

