-- ==== Sys2Proof/Config.lean ====
section
/-!
DEFINITION. Sys2Proof/Config.lean: what one device fixes and the free values: constants without a body, of which no
proof can see a value. Each stands for a value the manual leaves open; notes/assumptions says which.
-/

namespace Sys2Proof.Config

/-- The silicon revision of BLK_ID.REV on the first release (R35, R487). -/
def revision : Nat := 0x001

/-- The way of a full instruction cache set that a fill replaces (R151 names no replacement rule; log 12). -/
opaque cacheVictim : Nat → Nat

/-- The longest peer delay, in ns, with which a port is asCapable (R349 names asCapable, and no rule its test; log 29). -/
opaque propDelayThresh : Int

/-- The depth of a crossing FIFO, by 48 × source island + destination island (R19 gives none; log 71). -/
opaque crossingDepth : Nat → Nat

/-- The bytes of the boot ROM (R27; fused by mask; log 30). -/
opaque romByte : Nat → Byte

/-- The number of replaced columns of a bank, BNK_INFO.COL_REPAIRED (R303; fused; log 33). -/
opaque colRepaired : Nat → Byte

/-- The fused start code VSTART of an island's VDD_CORE record (R389, R392; fused; log 33). -/
opaque vStart : Nat → Nat

/-- The KIND of the ledger entry that a retired panel's hit makes (R323 names the event and R329 no code for it; log 34). -/
opaque retiredKind : Nat

/-- How many words of an invalidation are cleared at once, the rest being cleared when it completes (R300 leaves the cycle
of each word open; log 35). -/
opaque clearedAtGo : Nat → Nat

/-- Whether a mean correction that is no whole number of units is shown as the next one up (R208 states no rounding; log 36). -/
opaque meanUp : Int → Nat → Bool

/-- Whether a quotient with a remainder is rounded up, where the manual states units and no rounding (log 37): the place, and
the dividend. -/
opaque roundUp : Nat → Nat → Bool

/-- The fused slowdown per supply step, DSTEP, of an island, minus one (R391, R397; fused; log 33). -/
opaque dStep : Nat → Nat

/-- The trim that a read of the power monitor leaves when no energy was modelled (R379 divides by it; log 38). -/
opaque trimWithoutEnergy : Nat → Nat

/-- The deviation of a correlator's arithmetic in a bin over the interval's samples, in 1/200,000, of cvi's two parts, cvv and cii (R235 bounds the
precision by R238 and leaves it open; log 39). -/
opaque spectrumError : Nat → List (BitVec 24 × BitVec 24) → Nat → Int

/-- The next sample out of a microphone's high-pass filter, from the rate, the last samples in and out and the sample in (R215 gives the filter's
order and its corner, not its arithmetic; log 39). -/
opaque highPass : Bool → BitVec 24 → BitVec 24 → BitVec 24 → BitVec 24

/-- A microphone's decimator: from the rate, its state and the bits of one sample, the next state and the sample (R215 gives the ratio and the group
delay, not the filter; log 84). -/
opaque pdmDecimator : Bool → Nat → List Bool → Nat × BitVec 24

/-- A sense decimator, likewise (R224; log 84). -/
opaque senseDecimator : Nat → List Bool → Nat × BitVec 24

/-- The fused coefficient of a domain's k-th activity count, in 2^-16 µJ at 0.72 V (R376; log 38). -/
opaque activityCoeff : Nat → Nat → Nat

/-- The leakage in a period, in 2^-16 µJ, of a domain's logic (at its number) or of a bank array (at 64 + bank), in retention or not, at a supply
code and a temperature (R376; log 38). -/
opaque leakage : Nat → Bool → Nat → Int → Nat

/-- The pilot's phase in 1/51,200 of a cycle at the first step of a shift, by channel (R236 says that it runs on, and not where it begins; log 72). -/
opaque pilotPhase : Nat → Nat

/-- What the interpolation and the fourth-order noise shaper of a modulator add to q, by channel, FILT, the blocks it carries and the carrier period
(R219 gives the filters' order and not their coefficients; log 72). -/
opaque shaped : Nat → Bool → List (BitVec 24) × List (BitVec 24) → Nat → Int

/-- The same of the Refuge route's second-order shaper, by carrier period (R226; log 72). -/
opaque refugeShaped : Nat → Int

/-- The amplitude of the Refuge tone in units of a sample, and its phase in 1/384,000 of a cycle at the start of a segment (R228 states neither; log 72). -/
opaque toneAmplitude : Int
opaque tonePhase : Nat → Nat

/-- LEVEL of a bin whose level exceeds 1.0, by the amount that the rounded logarithm is below 0 (R235 gives the field no value
for it; log 39). -/
opaque levelAboveOne : Nat → Nat

/-- PHASE of a bin whose cvi is 0 (R235 takes the argument of 0; log 39). -/
opaque phaseOfZero : Nat → Nat

/-- MAG of a bin whose magnitude rounds to 4096 Ω and lies below it (R237 has no bits for it; log 39). -/
opaque magAtTop : Nat → Nat

/-- COH and LEVEL of a masked bin, which is not computed (R237; log 39): channel, bin, interval. -/
opaque maskedQuality : Nat → Nat → Nat → Nat

/-- How many words a scrub has read when STOP ends it (R326 leaves the time of each word open; log 41). -/
opaque scrubbedAtStop : Nat → Nat

/-- The clock quality and identity that the device's own Announce carries between PRIORITY1 and PRIORITY2 and after it (R348
names BMCA and not these; log 43). -/
opaque clockQuality : Nat
opaque clockIdentity : Nat

/-- A value that nothing constrains, by how many have been drawn (log 2). -/
opaque freeValue : Nat → Nat

/-- The fused 256-bit debug key (R424; log 33). -/
opaque debugKey : Nat → Byte

/-- The fused digest of the image-signing key (R447, R487; log 33). -/
opaque keyHash : Nat → Byte

/-- The fuses SAFETY, bit 0, and NO_FULL, bit 1, of FUS_VARIANT (R460, R487; log 33). -/
opaque variantFuses : Nat

/-- The PCI vendor ID (R464, R487; log 33). -/
opaque pciVendor : Nat

/-- How far above 0x40 in configuration space the power management, MSI and PCI Express capabilities lie, in bytes (R464 names them and no place;
log 46). -/
opaque pmOffset : Nat
opaque msiOffset : Nat
opaque expressOffset : Nat

/-- What the configuration registers that the manual does not describe read, by offset (R464; log 46). -/
opaque pciConstant : Nat → BitVec 32

/-- The UDP source port of transmitted AES67 frames (R359 states none; log 44). -/
opaque udpSourcePort : Nat

end Sys2Proof.Config
end

