-- ==== Sys2Proof/Machine/Bits.lean ====
section
/-!
DEFINITION. Sys2Proof/Machine/Bits.lean: fields of words, sign extension, bytes and the CRCs of R44 and R175.
-/

namespace Sys2Proof.Machine

/-- The field of `w` bits at bit `lo` of a register, as a number. -/
def fld {n : Nat} (v : BitVec n) (lo w : Nat) : Nat := (v.toNat >>> lo) % 2 ^ w

/-- Bit `i` of a register. -/
def bit {n : Nat} (v : BitVec n) (i : Nat) : Bool := v.getLsbD i

/-- The register with `x` (its low `w` bits) in the field of `w` bits at bit `lo`. -/
def putFld {n : Nat} (v : BitVec n) (lo w x : Nat) : BitVec n :=
  let m : BitVec n := BitVec.ofNat n ((2 ^ w - 1) <<< lo)
  (v &&& ~~~m) ||| (BitVec.ofNat n ((x % 2 ^ w) <<< lo))

/-- The register with bit `i` made `b`. -/
def putBit {n : Nat} (v : BitVec n) (i : Nat) (b : Bool) : BitVec n := putFld v i 1 (if b then 1 else 0)

/-- A 32-bit register from a number. -/
def w32 (x : Nat) : W32 := BitVec.ofNat 32 x

/-- `x + 1`, or `top` once `top` is reached. -/
def satInc (top x : Nat) : Nat := if x < top then x + 1 else top

/-- A number as a truth value's bit. -/
def b2n (b : Bool) : Nat := if b then 1 else 0

/-- The low `n` bytes of a number, least significant first (R112). -/
def bytesOf : Nat → Nat → List Byte
  | 0, _ => []
  | n + 1, x => BitVec.ofNat 8 x :: bytesOf n (x / 256)

/-- The number that a list of bytes spells, least significant first (R112). -/
def numOf : List Byte → Nat
  | [] => 0
  | b :: rest => b.toNat + 256 * numOf rest

/-- A number's low `n` bits read as two's complement. -/
def sgn (n x : Nat) : Int := if x % 2 ^ n < 2 ^ (n - 1) then ((x % 2 ^ n : Nat) : Int) else ((x % 2 ^ n : Nat) : Int) - (2 ^ n : Nat)

/-- An integer modulo `2 ^ n`. -/
def wrap (n : Nat) (x : Int) : BitVec n := BitVec.ofInt n x

/-- One bit step of the reflected CRC-32 of R44. -/
def crc32Bit (c : W32) : W32 := if c.getLsbD 0 then (c >>> 1) ^^^ 0xEDB88320#32 else c >>> 1

/-- One byte of the reflected CRC-32 of R44. -/
def crc32Byte (c : W32) (b : Byte) : W32 :=
  let c := c ^^^ b.zeroExtend 32
  crc32Bit (crc32Bit (crc32Bit (crc32Bit (crc32Bit (crc32Bit (crc32Bit (crc32Bit c)))))))

/-- The CRC-32 register after a list of bytes. -/
def crc32Run : W32 → List Byte → W32
  | c, [] => c
  | c, b :: rest => crc32Run (crc32Byte c b) rest

/-- The CRC-32 of R44: polynomial 0x04C1_1DB7, reflected, initial value and final XOR all ones. -/
def crc32 (bs : List Byte) : W32 := crc32Run 0xFFFFFFFF#32 bs ^^^ 0xFFFFFFFF#32

/-- One bit step of the CRC-64 of R175. -/
def crc64Bit (c : W64) : W64 := if c.getLsbD 63 then (c <<< 1) ^^^ 0x42F0E1EBA9EA3693#64 else c <<< 1

/-- One byte of the CRC-64 of R175. -/
def crc64Byte (c : W64) (b : Byte) : W64 :=
  let c := c ^^^ (b.zeroExtend 64 <<< 56)
  crc64Bit (crc64Bit (crc64Bit (crc64Bit (crc64Bit (crc64Bit (crc64Bit (crc64Bit c)))))))

/-- The CRC-64 register after a list of bytes. -/
def crc64Run : W64 → List Byte → W64
  | c, [] => c
  | c, b :: rest => crc64Run (crc64Byte c b) rest

end Sys2Proof.Machine
end

