-- ==== Sys2Proof/Machine/RegSpec.lean ====
section
/-!
DEFINITION. Sys2Proof/Machine/RegSpec.lean: the register pages of R30 and, for every register the chapters define,
its place, its reset value and the bits of each access code of R10, as the chapters' tables give them.
-/

namespace Sys2Proof.Machine

/-- The kinds of register page: the prefixes of R30, split where one prefix carries different registers
on different instances (ADT_, OVM_, PMC_). -/
inductive PageKind where
  | hwr | wnd | bnk | mpu | ecc | scb | ons | tpl | gat | can | bel | lrm | wdg | fus | aon | dbg | rfg | xsp | pci | pdm
  | tdm | tly | adtPort | adtParser | adtPtp | adtShaper | adtCb | adtRx | adtTx | ovmRep | ovmZone | dep | pwm | sns | cor
  | crg | pmcGlobal | pmcHewer | pmcUnit | pmcBw
  deriving DecidableEq, Repr

/-- A family of registers: `n1` times `n2` registers at `base + i * s1 + j * s2`, all with one reset value and one set of
access masks (R10). A bit in none of the masks is read-only, write-only or reserved. -/
structure RegDesc where
  base : Nat
  n1 : Nat
  s1 : Nat
  n2 : Nat
  s2 : Nat
  reset : Nat
  rw : Nat
  rwl : Nat
  w1c : Nat
  w1s : Nat
  deriving DecidableEq, Repr

/-- The page table of R30: the kind and the instance of a page index, none where R30 lists no page (R31). -/
def pageKind (p : Nat) : Option (PageKind × Nat) :=
  if p < 0x020 then some (.hwr, p)
  else if p < 0x024 then some (.wnd, p - 0x020)
  else if 0x040 ≤ p ∧ p < 0x074 then some (.bnk, p - 0x040)
  else if 0x080 ≤ p ∧ p < 0x0CE then some (.mpu, p - 0x080)
  else if 0x0E0 ≤ p ∧ p < 0x0EA then some (.ecc, p - 0x0E0)
  else if 0x0F0 ≤ p ∧ p < 0x0FA then some (.scb, p - 0x0F0)
  else if p = 0x100 then some (.ons, 0)
  else if p = 0x101 then some (.tpl, 0)
  else if p = 0x102 then some (.gat, 0)
  else if p = 0x103 then some (.can, 0)
  else if p = 0x104 then some (.bel, 0)
  else if p = 0x105 then some (.lrm, 0)
  else if p = 0x106 then some (.wdg, 0)
  else if p = 0x107 then some (.fus, 0)
  else if p = 0x108 then some (.aon, 0)
  else if p = 0x109 then some (.dbg, 0)
  else if p = 0x10A then some (.rfg, 0)
  else if p = 0x10B then some (.xsp, 0)
  else if p = 0x10C then some (.pci, 0)
  else if p = 0x10D then some (.pdm, 0)
  else if 0x110 ≤ p ∧ p < 0x118 then some (.tdm, p - 0x110)
  else if 0x120 ≤ p ∧ p < 0x124 then some (.tly, p - 0x120)
  else if 0x140 ≤ p ∧ p < 0x144 then some (.adtPort, p - 0x140)
  else if p = 0x144 then some (.adtParser, 4)
  else if p = 0x145 then some (.adtPtp, 5)
  else if p = 0x146 then some (.adtShaper, 6)
  else if p = 0x147 then some (.adtCb, 7)
  else if 0x148 ≤ p ∧ p < 0x150 then some (.adtRx, p - 0x140)
  else if 0x150 ≤ p ∧ p < 0x154 then some (.adtTx, p - 0x140)
  else if 0x160 ≤ p ∧ p < 0x163 then some (.ovmRep, p - 0x160)
  else if 0x168 ≤ p ∧ p < 0x170 then some (.ovmZone, p - 0x160)
  else if 0x180 ≤ p ∧ p < 0x198 then some (.dep, p - 0x180)
  else if 0x200 ≤ p ∧ p < 0x260 then some (.pwm, p - 0x200)
  else if 0x260 ≤ p ∧ p < 0x2C0 then some (.sns, p - 0x260)
  else if 0x2C0 ≤ p ∧ p < 0x320 then some (.cor, p - 0x2C0)
  else if 0x320 ≤ p ∧ p < 0x350 then some (.crg, p - 0x320)
  else if p = 0x360 then some (.pmcGlobal, 0)
  else if 0x361 ≤ p ∧ p < 0x381 then some (.pmcHewer, p - 0x360)
  else if 0x381 ≤ p ∧ p < 0x385 then some (.pmcUnit, p - 0x360)
  else if p = 0x385 then some (.pmcBw, 37)
  else none

/-- BLK_ID.TYPE of a page kind (R30). -/
def typeCode : PageKind → Nat
  | .hwr => 0x001 | .wnd => 0x002 | .bnk => 0x003 | .mpu => 0x004 | .ecc => 0x005 | .scb => 0x006 | .ons => 0x007
  | .tpl => 0x008 | .gat => 0x009 | .can => 0x00A | .bel => 0x00B | .lrm => 0x00C | .wdg => 0x00D | .fus => 0x00E
  | .aon => 0x00F | .dbg => 0x010 | .rfg => 0x011 | .xsp => 0x012 | .pci => 0x013 | .pdm => 0x014 | .tdm => 0x015
  | .tly => 0x016
  | .adtPort => 0x017 | .adtParser => 0x017 | .adtPtp => 0x017 | .adtShaper => 0x017 | .adtCb => 0x017
  | .adtRx => 0x017 | .adtTx => 0x017 | .ovmRep => 0x018 | .ovmZone => 0x018 | .dep => 0x019 | .pwm => 0x01A
  | .sns => 0x01B | .cor => 0x01C | .crg => 0x01D
  | .pmcGlobal => 0x01E | .pmcHewer => 0x01E | .pmcUnit => 0x01E | .pmcBw => 0x01E

/-- The registers of the hwr page kind, below the common header. -/
def regsHwr : List RegDesc := [
  ⟨0x40, 1, 0x0, 1, 0x0, 0x0, 0x0, 0xFFFFFC, 0x0, 0x0⟩, -- HWR_VEC_EXC (R163)
  ⟨0x44, 1, 0x0, 1, 0x0, 0x0, 0x0, 0xFFFFFC, 0x0, 0x0⟩, -- HWR_VEC_INT (R163)
  ⟨0x48, 1, 0x0, 1, 0x0, 0x0, 0x0, 0x0, 0x0, 0x0⟩, -- HWR_LOCKUP (R163)
  ⟨0x50, 4, 0x4, 1, 0x0, 0x0, 0x0, 0x0, 0x0, 0x0⟩, -- HWR_FAULT_ADDRt (R163)
  ⟨0x60, 4, 0x4, 1, 0x0, 0x0, 0x0, 0x0, 0x0, 0x0⟩, -- HWR_DISPATCHt (R186)
  ⟨0x70, 1, 0x0, 1, 0x0, 0x0, 0x0, 0x0, 0x0, 0x0⟩, -- HWR_VERDICT (R186)
  ⟨0x74, 1, 0x0, 1, 0x0, 0x0, 0x0, 0x0, 0x0, 0x0⟩, -- HWR_MM_LOG (R186)
  ⟨0x80, 1, 0x0, 1, 0x0, 0x0, 0x0, 0x0, 0x0, 0x0⟩, -- HWR_MM_SIG_P_LO (R186)
  ⟨0x84, 1, 0x0, 1, 0x0, 0x0, 0x0, 0x0, 0x0, 0x0⟩, -- HWR_MM_SIG_P_HI (R186)
  ⟨0x88, 1, 0x0, 1, 0x0, 0x0, 0x0, 0x0, 0x0, 0x0⟩, -- HWR_MM_SIG_S_LO (R186)
  ⟨0x8C, 1, 0x0, 1, 0x0, 0x0, 0x0, 0x0, 0x0, 0x0⟩, -- HWR_MM_SIG_S_HI (R186)
  ⟨0x100, 16, 0x4, 1, 0x0, 0x0, 0x0, 0x8000FFFF, 0x0, 0x0⟩] -- HWR_XOPk (R139)

/-- The registers of the wnd page kind, below the common header. -/
def regsWnd : List RegDesc := [
  ⟨0x40, 1, 0x0, 1, 0x0, 0x44444444, 0x0, 0x0, 0x0, 0x0⟩, -- WND_CRED0 (R312)
  ⟨0x44, 1, 0x0, 1, 0x0, 0x44444444, 0x0, 0x0, 0x0, 0x0⟩, -- WND_CRED1 (R312)
  ⟨0x48, 1, 0x0, 1, 0x0, 0x0, 0x0, 0x0, 0xFFFFFFFF, 0x0⟩, -- WND_CHEVT (R312)
  ⟨0x100, 16, 0x20, 1, 0x0, 0x0, 0x0, 0xFE000000, 0x0, 0x1⟩, -- WND_CTRLc (R312)
  ⟨0x104, 16, 0x20, 1, 0x0, 0x0, 0xFFFFFFFF, 0x0, 0x0, 0x0⟩, -- WND_SRCc (R312)
  ⟨0x108, 16, 0x20, 1, 0x0, 0x0, 0xFFFFFFFF, 0x0, 0x0, 0x0⟩, -- WND_DSTc (R312)
  ⟨0x10C, 16, 0x20, 1, 0x0, 0x0, 0xFFFF, 0x0, 0x0, 0x0⟩, -- WND_CNTc (R312)
  ⟨0x110, 16, 0x20, 1, 0x0, 0x0, 0x0, 0xFFFFFFFF, 0x0, 0x0⟩, -- WND_AUXc (R312)
  ⟨0x114, 16, 0x20, 1, 0x0, 0x0, 0x0, 0xFF, 0x0, 0x0⟩, -- WND_REPc (R312)
  ⟨0x118, 16, 0x20, 1, 0x0, 0x0, 0x0, 0x0, 0x0, 0x0⟩, -- WND_STATc (R312)
  ⟨0x700, 1, 0x0, 1, 0x0, 0x0, 0x1, 0x2, 0x0, 0x0⟩, -- WND_USTORE_CTRL (R144)
  ⟨0x704, 1, 0x0, 1, 0x0, 0x0, 0x0, 0xFFFFFFFF, 0x0, 0x0⟩, -- WND_USTORE_SIG (R144)
  ⟨0x708, 1, 0x0, 1, 0x0, 0x0, 0x0, 0x0, 0x0, 0x0⟩] -- WND_USTORE_CALC (R144)

/-- The registers of the bnk page kind, below the common header. -/
def regsBnk : List RegDesc := [
  ⟨0x40, 1, 0x0, 1, 0x0, 0x3, 0x0, 0xF, 0x0, 0x0⟩, -- BNK_STEAL (R304)
  ⟨0x44, 1, 0x0, 1, 0x0, 0x0, 0xFFFFF8, 0x0, 0x0, 0x0⟩, -- BNK_INV_BASE (R304)
  ⟨0x48, 1, 0x0, 1, 0x0, 0x0, 0x7FFFF, 0x0, 0x0, 0x80000000⟩, -- BNK_INV_CTRL (R304)
  ⟨0x4C, 1, 0x0, 1, 0x0, 0x0, 0x0, 0x0, 0x0, 0x0⟩] -- BNK_INFO (R304)

/-- The registers of the mpu page kind, below the common header. -/
def regsMpu : List RegDesc := [
  ⟨0x40, 1, 0x0, 1, 0x0, 0x0, 0x0, 0x1, 0x0, 0x0⟩, -- MPU_CFG (R344)
  ⟨0x44, 1, 0x0, 1, 0x0, 0x0, 0x0, 0x0, 0x0, 0x0⟩, -- MPU_DENY (R344)
  ⟨0x48, 1, 0x0, 1, 0x0, 0x0, 0x0, 0x0, 0x0, 0x0⟩, -- MPU_COUNT (R344)
  ⟨0x100, 32, 0x10, 1, 0x0, 0x0, 0x0, 0xFFFFFFC0, 0x0, 0x0⟩, -- MPU_RGNn_BASE (R344)
  ⟨0x104, 32, 0x10, 1, 0x0, 0x0, 0x0, 0xFFFFFFC0, 0x0, 0x0⟩, -- MPU_RGNn_END (R344)
  ⟨0x108, 32, 0x10, 1, 0x0, 0x0, 0x0, 0xFFF801FF, 0x0, 0x0⟩, -- MPU_RGNn_ATTR (R344)
  ⟨0x10C, 32, 0x10, 1, 0x0, 0x0, 0x0, 0xFFFFFFFF, 0x0, 0x0⟩] -- MPU_RGNn_IDS (R344)

/-- The registers of the ecc page kind, below the common header. -/
def regsEcc : List RegDesc := [
  ⟨0x40, 1, 0x0, 1, 0x0, 0x0, 0x0, 0x0, 0x0, 0x0⟩, -- ECC_CNT (R329)
  ⟨0x44, 1, 0x0, 1, 0x0, 0x0, 0x0, 0x0, 0x0, 0x0⟩, -- ECC_CLR (R329)
  ⟨0x48, 1, 0x0, 1, 0x0, 0x0, 0x0, 0x0, 0x0, 0x0⟩, -- ECC_LEDGER_STAT (R329)
  ⟨0x4C, 1, 0x0, 1, 0x0, 0x0, 0x0, 0x0, 0x0, 0x1⟩, -- ECC_ST_CTRL (R329)
  ⟨0x50, 1, 0x0, 1, 0x0, 0x0, 0x0, 0x0, 0x0, 0x0⟩, -- ECC_ST_STAT (R329)
  ⟨0x54, 1, 0x0, 1, 0x0, 0x0, 0x0, 0x0, 0x0, 0x0⟩, -- ECC_REBUILT (R329)
  ⟨0x200, 64, 0x8, 1, 0x0, 0x0, 0x0, 0x0, 0x0, 0x0⟩, -- ECC_LEDGi_ADDR (R329)
  ⟨0x204, 64, 0x8, 1, 0x0, 0x0, 0x0, 0x0, 0x0, 0x0⟩, -- ECC_LEDGi_INFO (R329)
  ⟨0x400, 64, 0x4, 1, 0x0, 0x0, 0x0, 0x0, 0x0, 0xFFFFFFFF⟩] -- ECC_RETIREw (R329)

/-- The registers of the scb page kind, below the common header. -/
def regsScb : List RegDesc := [
  ⟨0x40, 1, 0x0, 1, 0x0, 0x0, 0xFFFFFFF8, 0x0, 0x0, 0x0⟩, -- SCB_START (R330)
  ⟨0x44, 1, 0x0, 1, 0x0, 0x0, 0x1FFFFF, 0x0, 0x0, 0x0⟩, -- SCB_LEN (R330)
  ⟨0x48, 1, 0x0, 1, 0x0, 0x100, 0x100, 0x0, 0x0, 0x1⟩, -- SCB_CTRL (R330)
  ⟨0x4C, 1, 0x0, 1, 0x0, 0x0, 0x0, 0x0, 0x0, 0x0⟩, -- SCB_STAT (R330)
  ⟨0x50, 1, 0x0, 1, 0x0, 0x0, 0x0, 0x0, 0x0, 0x0⟩, -- SCB_WORDS (R330)
  ⟨0x54, 1, 0x0, 1, 0x0, 0x0, 0x0, 0x0, 0x0, 0x0⟩, -- SCB_CORR (R330)
  ⟨0x58, 1, 0x0, 1, 0x0, 0x0, 0x0, 0x0, 0x0, 0x0⟩, -- SCB_PANEL (R330)
  ⟨0x5C, 1, 0x0, 1, 0x0, 0x0, 0x0, 0x0, 0x0, 0x0⟩, -- SCB_UNCORR (R330)
  ⟨0x60, 1, 0x0, 1, 0x0, 0x0, 0x0, 0x0, 0x0, 0x0⟩, -- SCB_FIRST (R330)
  ⟨0x64, 1, 0x0, 1, 0x0, 0x0, 0x0, 0x0, 0x0, 0x0⟩] -- SCB_LAST (R330)

/-- The registers of the ons page kind, below the common header. -/
def regsOns : List RegDesc := [
  ⟨0x40, 1, 0x0, 1, 0x0, 0x0, 0x0, 0x0, 0x0, 0x2⟩, -- ONS_ROSTER_CTRL (R71)
  ⟨0x44, 1, 0x0, 1, 0x0, 0x0, 0x0, 0x0, 0x0, 0x0⟩, -- ONS_ROSTER_STAT (R71)
  ⟨0x48, 1, 0x0, 1, 0x0, 0x0, 0x0, 0x0, 0x0, 0x0⟩, -- ONS_ROSTER_SIG (R71)
  ⟨0x4C, 1, 0x0, 1, 0x0, 0x0, 0x0, 0x0, 0x0, 0x0⟩, -- ONS_SHIFT_NO (R71)
  ⟨0x50, 1, 0x0, 1, 0x0, 0x0, 0x0, 0x0, 0x0, 0x0⟩, -- ONS_PHASE (R71)
  ⟨0x54, 1, 0x0, 1, 0x0, 0x0, 0x0, 0x9F9F9F9F, 0x0, 0x0⟩, -- ONS_SPARE (R71)
  ⟨0x58, 1, 0x0, 1, 0x0, 0x0, 0x0, 0x0, 0x0, 0x0⟩, -- ONS_QUAR (R71)
  ⟨0x5C, 1, 0x0, 1, 0x0, 0x0, 0x0, 0x0, 0x0, 0x0⟩, -- ONS_LAST_ADMIT (R71)
  ⟨0x60, 1, 0x0, 1, 0x0, 0x0, 0x0, 0x0, 0x0, 0x0⟩, -- ONS_LAST_LOSS (R71)
  ⟨0x64, 1, 0x0, 1, 0x0, 0x0, 0x0, 0x0, 0x0, 0x0⟩, -- ONS_CUT_LOG (R71)
  ⟨0x100, 2, 0x80, 16, 0x8, 0x0, 0xFFFFFFFF, 0x0, 0x0, 0x0⟩, -- ONS_PLANb_A_k (R71)
  ⟨0x104, 2, 0x80, 16, 0x8, 0x0, 0x800000FF, 0x0, 0x0, 0x0⟩] -- ONS_PLANb_B_k (R71)

/-- The registers of the tpl page kind, below the common header. -/
def regsTpl : List RegDesc := [
  ⟨0x40, 1, 0x0, 1, 0x0, 0x0, 0xE001FFFF, 0x0, 0x0, 0x0⟩, -- TPL_STAGE_ADDR (R205)
  ⟨0x44, 1, 0x0, 1, 0x0, 0x0, 0x0, 0x0, 0x0, 0x0⟩, -- TPL_STAGE_DATA (R205)
  ⟨0x48, 1, 0x0, 1, 0x0, 0x0, 0x0, 0x0, 0x0, 0x0⟩, -- TPL_STAGE_STAT (R205)
  ⟨0x4C, 1, 0x0, 1, 0x0, 0x0, 0xC001FFFF, 0x0, 0x0, 0x0⟩, -- TPL_READ_ADDR (R205)
  ⟨0x50, 1, 0x0, 1, 0x0, 0x0, 0x0, 0x0, 0x0, 0x0⟩, -- TPL_READ_DATA (R205)
  ⟨0x54, 1, 0x0, 1, 0x0, 0x0, 0x0, 0x0, 0x0, 0x0⟩, -- TPL_LIVE (R205)
  ⟨0x58, 1, 0x0, 1, 0x0, 0x0, 0x0, 0x0, 0x0, 0x0⟩, -- TPL_TAB_SIG (R205)
  ⟨0x5C, 1, 0x0, 1, 0x0, 0x0, 0x0, 0x0, 0x0, 0x0⟩, -- TPL_VERDICT (R205)
  ⟨0x60, 8, 0x4, 1, 0x0, 0x0, 0x0, 0x0, 0x0, 0x0⟩, -- TPL_COL_FAILw (R205)
  ⟨0x80, 1, 0x0, 1, 0x0, 0x0, 0x0, 0x0, 0x0, 0x0⟩, -- TPL_FAIL_LOG (R205)
  ⟨0xA0, 16, 0x4, 1, 0x0, 0x0, 0x0, 0x0, 0x0, 0x0⟩] -- TPL_IN_FAILw (R205)

/-- The registers of the gat page kind, below the common header. -/
def regsGat : List RegDesc := [
  ⟨0x40, 1, 0x0, 1, 0x0, 0x0, 0x0, 0x0, 0x0, 0x0⟩, -- GAT_MODE (R287)
  ⟨0x44, 1, 0x0, 1, 0x0, 0x2000, 0x0, 0xFFFF, 0x0, 0x0⟩, -- GAT_CFG (R287)
  ⟨0x48, 1, 0x0, 1, 0x0, 0x0, 0x0, 0x0, 0x0, 0x0⟩, -- GAT_CKPT (R287)
  ⟨0x4C, 1, 0x0, 1, 0x0, 0x0, 0x0, 0x0, 0x0, 0x0⟩, -- GAT_VOTE (R287)
  ⟨0x50, 1, 0x0, 1, 0x0, 0x0, 0x0, 0x0, 0x0, 0x0⟩, -- GAT_RESYNC (R287)
  ⟨0x58, 1, 0x0, 1, 0x0, 0x0, 0x0, 0x0, 0x0, 0x0⟩, -- GAT_SAFE (R287)
  ⟨0x60, 1, 0x0, 1, 0x0, 0x0, 0x0, 0x0, 0x0, 0x0⟩, -- GAT_GERR (R287)
  ⟨0x64, 1, 0x0, 1, 0x0, 0x0, 0x0, 0x0, 0x0, 0x0⟩, -- GAT_GERR_ADDR (R287)
  ⟨0x80, 3, 0x8, 1, 0x0, 0x0, 0x0, 0x0, 0x0, 0x0⟩, -- GAT_SIG_r_LO (R287)
  ⟨0x84, 3, 0x8, 1, 0x0, 0x0, 0x0, 0x0, 0x0, 0x0⟩] -- GAT_SIG_r_HI (R287)

/-- The registers of the can page kind, below the common header. -/
def regsCan : List RegDesc := [
  ⟨0x40, 1, 0x0, 1, 0x0, 0x1000001, 0x0, 0xFFFF0001, 0x0, 0x0⟩, -- CAN_CTRL (R289)
  ⟨0x44, 1, 0x0, 1, 0x0, 0xFFFFFFFF, 0x0, 0xFFFFFFFF, 0x0, 0x0⟩, -- CAN_EN0 (R289)
  ⟨0x48, 1, 0x0, 1, 0x0, 0xFFFFFFF, 0x0, 0xFFFFFFF, 0x0, 0x0⟩, -- CAN_EN1 (R289)
  ⟨0x4C, 1, 0x0, 1, 0x0, 0x0, 0x0, 0x0, 0x0, 0x0⟩, -- CAN_REQ (R289)
  ⟨0x50, 1, 0x0, 1, 0x0, 0x0, 0x0, 0x0, 0x0, 0x0⟩, -- CAN_LAST0 (R289)
  ⟨0x54, 1, 0x0, 1, 0x0, 0x0, 0x0, 0x0, 0x0, 0x0⟩, -- CAN_LAST1 (R289)
  ⟨0x58, 1, 0x0, 1, 0x0, 0x0, 0x0, 0x0, 0xFFFFFFFF, 0x0⟩, -- CAN_MISS0 (R289)
  ⟨0x5C, 1, 0x0, 1, 0x0, 0x0, 0x0, 0x0, 0xFFFFFFFF, 0x0⟩] -- CAN_MISS1 (R289)

/-- The registers of the bel page kind, below the common header. -/
def regsBel : List RegDesc := [
  ⟨0x40, 10, 0x4, 1, 0x0, 0x0, 0x0, 0x0, 0x0, 0x0⟩, -- BEL_STATw (R417)
  ⟨0x68, 1, 0x0, 1, 0x0, 0x0, 0x0, 0x0, 0x0, 0xFFFF⟩, -- BEL_SWI (R417)
  ⟨0x6C, 1, 0x0, 1, 0x0, 0x0, 0x0, 0x0, 0x0, 0x0⟩, -- BEL_SWI_CLR (R417)
  ⟨0x70, 1, 0x0, 1, 0x0, 0x0, 0x0, 0x0, 0x0, 0x0⟩, -- BEL_MON (R417)
  ⟨0x74, 1, 0x0, 1, 0x0, 0x0, 0x0, 0x0, 0x0, 0x0⟩, -- BEL_SAFE (R417)
  ⟨0x78, 1, 0x0, 1, 0x0, 0x0, 0x0, 0x0, 0x0, 0x0⟩, -- BEL_SAFE_SHIFT (R417)
  ⟨0x7C, 1, 0x0, 1, 0x0, 0x0, 0x0, 0x0, 0x80000000, 0x0⟩, -- BEL_UNDEL (R417)
  ⟨0x100, 320, 0x4, 1, 0x0, 0x0, 0x0, 0x8F03007F, 0x0, 0x0⟩] -- BEL_ROUTEe (R417)

/-- The registers of the lrm page kind, below the common header. -/
def regsLrm : List RegDesc := [
  ⟨0x40, 1, 0x0, 1, 0x0, 0x0, 0x3, 0x0, 0x0, 0x0⟩, -- LRM_STATE (R396)
  ⟨0x44, 1, 0x0, 1, 0x0, 0xFFFFF, 0xFFFFF, 0x0, 0x0, 0x0⟩, -- LRM_TOTAL (R396)
  ⟨0x48, 1, 0x0, 1, 0x0, 0x0, 0x0, 0x0, 0x0, 0x0⟩, -- LRM_FIX (R396)
  ⟨0x4C, 1, 0x0, 1, 0x0, 0x0, 0x0, 0x0, 0x0, 0x0⟩, -- LRM_DEV_LAST (R396)
  ⟨0x50, 1, 0x0, 1, 0x0, 0x0, 0x0, 0x0, 0x0, 0x0⟩, -- LRM_OVER (R396)
  ⟨0x60, 4, 0x4, 1, 0x0, 0xFFFFF, 0xFFFFF, 0x0, 0x0, 0x0⟩, -- LRM_BUDGETc (R396)
  ⟨0x70, 4, 0x4, 1, 0x0, 0x0, 0x0, 0x0, 0x0, 0x0⟩, -- LRM_CLASSc (R396)
  ⟨0x80, 1, 0x0, 1, 0x0, 0x0, 0x0, 0xFFFFFFFF, 0x0, 0x0⟩, -- LRM_PMON_CFG (R396)
  ⟨0x84, 1, 0x0, 1, 0x0, 0x4000, 0x0, 0x0, 0x0, 0x0⟩, -- LRM_TRIM (R396)
  ⟨0x88, 1, 0x0, 1, 0x0, 0x0, 0x0, 0xC000FFFF, 0x0, 0x0⟩, -- LRM_WAKE (R396)
  ⟨0x8C, 1, 0x0, 1, 0x0, 0x0, 0xFFFFFFFF, 0x0, 0x0, 0x0⟩, -- LRM_OPHOURS (R396)
  ⟨0x200, 64, 0x8, 1, 0x0, 0x0, 0x0, 0x0, 0x0, 0x0⟩, -- LRM_Ed_LO (R396)
  ⟨0x204, 64, 0x8, 1, 0x0, 0x0, 0x0, 0x0, 0x0, 0x0⟩, -- LRM_Ed_HI (R396)
  ⟨0x400, 64, 0x4, 1, 0x0, 0x0, 0x0, 0x0, 0x0, 0x0⟩, -- LRM_LASTd (R396)
  ⟨0x600, 48, 0x4, 1, 0x0, 0x0, 0xFFFFFFC0, 0x0, 0x0, 0x0⟩] -- LRM_WEARi (R396)

/-- The registers of the wdg page kind, below the common header. -/
def regsWdg : List RegDesc := [
  ⟨0x40, 1, 0x0, 1, 0x0, 0x2710, 0x0, 0xFFFFF, 0x0, 0x0⟩, -- WDG_TIMEOUT (R413)
  ⟨0x44, 1, 0x0, 1, 0x0, 0x0, 0x0, 0xFFFFF, 0x0, 0x0⟩, -- WDG_OPEN (R413)
  ⟨0x48, 1, 0x0, 1, 0x0, 0x3E8, 0x0, 0xFFFFF, 0x0, 0x0⟩, -- WDG_GRACE (R413)
  ⟨0x4C, 1, 0x0, 1, 0x0, 0x0, 0x0, 0x0, 0x0, 0x0⟩, -- WDG_KICK (R413)
  ⟨0x50, 1, 0x0, 1, 0x0, 0x0, 0x0, 0x0, 0x0, 0x0⟩, -- WDG_STAT (R413)
  ⟨0x54, 1, 0x0, 1, 0x0, 0x0, 0x0, 0x0, 0x0, 0x0⟩] -- WDG_ALIVE (R413)

/-- The registers of the fus page kind, below the common header. -/
def regsFus : List RegDesc := [
  ⟨0x40, 1, 0x0, 1, 0x0, 0x0, 0x0, 0x0, 0x0, 0x0⟩, -- FUS_COMPAT (R398)
  ⟨0x44, 1, 0x0, 1, 0x0, 0x0, 0x0, 0x0, 0x0, 0x0⟩, -- FUS_FEATURES (R398)
  ⟨0x48, 1, 0x0, 1, 0x0, 0x0, 0x0, 0x0, 0x0, 0x0⟩, -- FUS_VARIANT (R460)
  ⟨0x60, 8, 0x4, 1, 0x0, 0x0, 0x0, 0x0, 0x0, 0x0⟩] -- FUS_KEYHASHi (R460)

/-- The registers of the aon page kind, below the common header. -/
def regsAon : List RegDesc := [
  ⟨0x40, 1, 0x0, 1, 0x0, 0x0, 0x0, 0x0, 0x0, 0x0⟩, -- AON_RESET_CAUSE (R459)
  ⟨0x44, 1, 0x0, 1, 0x0, 0x0, 0x0, 0x0, 0x0, 0x0⟩, -- AON_BOOT (R459)
  ⟨0x48, 1, 0x0, 1, 0x0, 0x0, 0x0, 0x0, 0x0, 0x0⟩, -- AON_STRAPS (R459)
  ⟨0x4C, 1, 0x0, 1, 0x0, 0x0, 0x0, 0x0, 0x0, 0x0⟩, -- AON_BOOT_TIME (R459)
  ⟨0x50, 1, 0x0, 1, 0x0, 0x0, 0x0, 0x0, 0x0, 0x0⟩, -- AON_IMAGE (R459)
  ⟨0x80, 16, 0x4, 1, 0x0, 0x0, 0x0, 0x0, 0x0, 0x0⟩, -- AON_PARi (R459)
  ⟨0xC0, 3, 0x4, 1, 0x0, 0x0, 0x0, 0x0, 0x0, 0x0⟩, -- AON_PAR_OVFw (R459)
  ⟨0x100, 1, 0x0, 1, 0x0, 0x0, 0x0, 0x3, 0x0, 0x0⟩, -- AON_MCLK_CTRL (R209)
  ⟨0x104, 1, 0x0, 1, 0x0, 0x0, 0x0, 0x1FFFFF, 0x0, 0x0⟩, -- AON_MCLK_OFFSET (R209)
  ⟨0x108, 1, 0x0, 1, 0x0, 0x0, 0x0, 0x0, 0x0, 0x0⟩, -- AON_MCLK_STAT (R209)
  ⟨0x10C, 1, 0x0, 1, 0x0, 0x0, 0x0, 0x0, 0x0, 0x0⟩] -- AON_MCLK_CORR (R209)

/-- The registers of the dbg page kind, below the common header. -/
def regsDbg : List RegDesc := [
  ⟨0x40, 1, 0x0, 1, 0x0, 0x0, 0x0, 0x0, 0x0, 0x0⟩, -- DBG_STAT (R435)
  ⟨0x44, 1, 0x0, 1, 0x0, 0x0, 0x3, 0x0, 0x0, 0x0⟩, -- DBG_AUTH (R435)
  ⟨0x48, 4, 0x4, 1, 0x0, 0x0, 0x0, 0x0, 0x0, 0x0⟩, -- DBG_NONCEi (R435)
  ⟨0x60, 8, 0x4, 1, 0x0, 0x0, 0x0, 0x0, 0x0, 0x0⟩, -- DBG_RESPi (R435)
  ⟨0x80, 1, 0x0, 1, 0x0, 0x0, 0x70, 0x0, 0x0, 0x1⟩, -- DBG_CTRL (R435)
  ⟨0x84, 1, 0x0, 1, 0x0, 0x0, 0xFF, 0x0, 0x0, 0x0⟩, -- DBG_FEED_SEL (R435)
  ⟨0x88, 5, 0x4, 1, 0x0, 0x0, 0xFFFFFFFF, 0x0, 0x0, 0x0⟩, -- DBG_FEEDk (R435)
  ⟨0x9C, 1, 0x0, 1, 0x0, 0x0, 0x0, 0x0, 0x0, 0x80000000⟩, -- DBG_FEED_STAT (R435)
  ⟨0xA0, 1, 0x0, 1, 0x0, 0x0, 0xFFFFFFFF, 0x0, 0x0, 0x0⟩, -- DBG_TXD (R435)
  ⟨0xA4, 1, 0x0, 1, 0x0, 0x0, 0xFFFFFFFF, 0x0, 0x0, 0x0⟩, -- DBG_RXD (R435)
  ⟨0xA8, 1, 0x0, 1, 0x0, 0x0, 0x0, 0x0, 0x0, 0x0⟩, -- DBG_TERM (R435)
  ⟨0xB0, 1, 0x0, 1, 0x0, 0x0, 0x0, 0x0, 0x0, 0x0⟩, -- DBG_TRACE (R435)
  ⟨0xB4, 1, 0x0, 1, 0x0, 0x0, 0xFFFFE000, 0x0, 0x0, 0x0⟩] -- DBG_TRACE_CTRL (R435)

/-- The registers of the rfg page kind, below the common header. -/
def regsRfg : List RegDesc := [
  ⟨0x40, 1, 0x0, 1, 0x0, 0x0, 0x0, 0xFFFFFFFF, 0x0, 0x0⟩, -- RFG_CFG (R231)
  ⟨0x44, 3, 0x4, 1, 0x0, 0x0, 0x0, 0xFFFFFFFF, 0x0, 0x0⟩, -- RFG_CHANw (R231)
  ⟨0x50, 8, 0x4, 1, 0x0, 0x0, 0x0, 0xFFFFF, 0x0, 0x0⟩, -- RFG_TONEk (R231)
  ⟨0x70, 1, 0x0, 1, 0x0, 0x0, 0x1, 0x0, 0x0, 0x0⟩, -- RFG_ARM (R231)
  ⟨0x74, 1, 0x0, 1, 0x0, 0x0, 0x0, 0x0, 0x0, 0x0⟩] -- RFG_STAT (R231)

/-- The registers of the xsp page kind, below the common header. -/
def regsXsp : List RegDesc := [
  ⟨0x40, 1, 0x0, 1, 0x0, 0xFF050000, 0x0, 0xFFFF0002, 0x0, 0x0⟩, -- XSP_CFG (R463)
  ⟨0x44, 1, 0x0, 1, 0x0, 0x1C, 0x0, 0x1F, 0x0, 0x0⟩, -- XSP_SIZE (R463)
  ⟨0x48, 1, 0x0, 1, 0x0, 0x0, 0x781F00FF, 0x0, 0x0, 0x80000000⟩, -- XSP_CMD (R463)
  ⟨0x4C, 1, 0x0, 1, 0x0, 0x0, 0xFFFFFFFF, 0x0, 0x0, 0x0⟩, -- XSP_ADDR (R463)
  ⟨0x50, 1, 0x0, 1, 0x0, 0x0, 0x1FF, 0x0, 0x0, 0x0⟩, -- XSP_LEN (R463)
  ⟨0x54, 1, 0x0, 1, 0x0, 0x0, 0x0, 0x0, 0x0, 0x0⟩, -- XSP_STAT (R463)
  ⟨0x100, 64, 0x4, 1, 0x0, 0x0, 0xFFFFFFFF, 0x0, 0x0, 0x0⟩] -- XSP_BUFk (R463)

/-- The registers of the pci page kind, below the common header. -/
def regsPci : List RegDesc := [
  ⟨0x40, 1, 0x0, 1, 0x0, 0x0, 0x0, 0x0, 0x0, 0x0⟩, -- PCI_IDENT (R466)
  ⟨0x44, 1, 0x0, 1, 0x0, 0x0, 0x0, 0xFFFFFFFF, 0x0, 0x0⟩, -- PCI_SUBSYS (R466)
  ⟨0x48, 1, 0x0, 1, 0x0, 0x0, 0x0, 0x1, 0x0, 0x0⟩, -- PCI_CTRL (R466)
  ⟨0x4C, 1, 0x0, 1, 0x0, 0x0, 0x0, 0x0, 0x0, 0x0⟩, -- PCI_STAT (R466)
  ⟨0x50, 4, 0x4, 1, 0x0, 0x0, 0xFFFFFFFF, 0x0, 0x0, 0x0⟩, -- PCI_H2Dk (R466)
  ⟨0x60, 1, 0x0, 1, 0x0, 0x0, 0x0, 0x0, 0x0, 0x0⟩, -- PCI_H2D_ACK (R466)
  ⟨0x70, 4, 0x4, 1, 0x0, 0x0, 0xFFFFFFFF, 0x0, 0x0, 0x0⟩, -- PCI_D2Hk (R466)
  ⟨0x80, 1, 0x0, 1, 0x0, 0x0, 0x0, 0x0, 0x0, 0x0⟩, -- PCI_D2H_ACK (R466)
  ⟨0x84, 1, 0x0, 1, 0x0, 0x0, 0x0, 0x0, 0x0, 0x0⟩, -- PCI_MSI_SEND (R466)
  ⟨0x88, 1, 0x0, 1, 0x0, 0x0, 0x0, 0x0, 0x0, 0x0⟩] -- PCI_MSI_PEND (R466)

/-- The registers of the pdm page kind, below the common header. -/
def regsPdm : List RegDesc := [
  ⟨0x40, 1, 0x0, 1, 0x0, 0x0, 0x0, 0x1FF, 0x0, 0x0⟩, -- PDM_CTRL (R217)
  ⟨0x44, 2, 0x4, 1, 0x0, 0x0, 0x0, 0x0, 0x0, 0x0⟩] -- PDM_STUCKw (R217)

/-- The registers of the tdm page kind, below the common header. -/
def regsTdm : List RegDesc := [
  ⟨0x40, 1, 0x0, 1, 0x0, 0x0, 0x0, 0x1F7F, 0x0, 0x0⟩, -- TDM_CFG (R214)
  ⟨0x44, 1, 0x0, 1, 0x0, 0x0, 0x0, 0xFFFFFFFF, 0x0, 0x0⟩, -- TDM_RX_EN (R214)
  ⟨0x48, 1, 0x0, 1, 0x0, 0x0, 0x0, 0xFFFFFFFF, 0x0, 0x0⟩, -- TDM_TX_EN (R214)
  ⟨0x4C, 1, 0x0, 1, 0x0, 0x0, 0x0, 0x0, 0x0, 0x0⟩] -- TDM_STAT (R214)

/-- The registers of the tly page kind, below the common header. -/
def regsTly : List RegDesc := [
  ⟨0x40, 1, 0x0, 1, 0x0, 0x0, 0x0, 0xFFFFFFFF, 0x0, 0x0⟩, -- TLY_CFG (R374)
  ⟨0x44, 1, 0x0, 1, 0x0, 0x0, 0x0, 0x0, 0x0, 0x0⟩, -- TLY_STAT (R374)
  ⟨0x48, 1, 0x0, 1, 0x0, 0x0, 0x0, 0x0, 0x0, 0x0⟩, -- TLY_SHORT (R374)
  ⟨0x4C, 1, 0x0, 1, 0x0, 0x0, 0x0, 0x0, 0x0, 0x0⟩] -- TLY_LAMP (R374)

/-- The registers of the adtPort page kind, below the common header. -/
def regsAdtPort : List RegDesc := [
  ⟨0x40, 1, 0x0, 1, 0x0, 0x0, 0x0, 0xFFFF, 0x0, 0x0⟩, -- ADT_PORT_MACH (R373)
  ⟨0x44, 1, 0x0, 1, 0x0, 0x0, 0x0, 0xFFFFFFFF, 0x0, 0x0⟩, -- ADT_PORT_MACL (R373)
  ⟨0x48, 1, 0x0, 1, 0x0, 0x0, 0x0, 0xFFFFFFFF, 0x0, 0x0⟩, -- ADT_PORT_IP (R373)
  ⟨0x4C, 1, 0x0, 1, 0x0, 0x2240, 0x0, 0x3FFF, 0x0, 0x0⟩, -- ADT_PORT_IPCFG (R373)
  ⟨0x50, 1, 0x0, 1, 0x0, 0x0, 0x0, 0x0, 0x0, 0x0⟩] -- ADT_PORT_STAT (R373)

/-- The registers of the adtParser page kind, below the common header. -/
def regsAdtParser : List RegDesc := [
  ⟨0x40, 1, 0x0, 1, 0x0, 0x0, 0x0, 0x0, 0x0, 0x0⟩] -- ADT_UNMATCHED (R373)

/-- The registers of the adtPtp page kind, below the common header. -/
def regsAdtPtp : List RegDesc := [
  ⟨0x40, 1, 0x0, 1, 0x0, 0xFFF80000, 0x0, 0xFFFF0F10, 0x0, 0x0⟩, -- ADT_PTP_CFG (R373)
  ⟨0x44, 1, 0x0, 1, 0x0, 0x0, 0x0, 0x0, 0x0, 0x0⟩] -- ADT_PTP_STAT (R373)

/-- The registers of the adtShaper page kind, below the common header. -/
def regsAdtShaper : List RegDesc := [
  ⟨0x40, 1, 0x0, 1, 0x0, 0x1A, 0x0, 0x3F, 0x0, 0x0⟩, -- ADT_CBS_CFG (R373)
  ⟨0x80, 4, 0x8, 2, 0x4, 0x0, 0x0, 0xFFFFFF, 0x0, 0x0⟩] -- ADT_CBS_IDLEp_c (R373)

/-- The registers of the adtCb page kind, below the common header. -/
def regsAdtCb : List RegDesc := [
  ⟨0x40, 1, 0x0, 1, 0x0, 0x64, 0x0, 0xFFFF, 0x0, 0x0⟩] -- ADT_CB_CFG (R373)

/-- The registers of the adtRx page kind, below the common header. -/
def regsAdtRx : List RegDesc := [
  ⟨0x100, 32, 0x30, 1, 0x0, 0x0, 0x0, 0xFFFFFFFF, 0x0, 0x0⟩, -- ADT_RXSi+0x00 (R373)
  ⟨0x104, 32, 0x30, 1, 0x0, 0x0, 0x0, 0xFFFFFFFF, 0x0, 0x0⟩, -- ADT_RXSi+0x04 (R373)
  ⟨0x108, 32, 0x30, 1, 0x0, 0x0, 0x0, 0xFFFFFFFF, 0x0, 0x0⟩, -- ADT_RXSi+0x08 (R373)
  ⟨0x10C, 32, 0x30, 1, 0x0, 0x0, 0x0, 0xFFFFFFFF, 0x0, 0x0⟩, -- ADT_RXSi+0x0C (R373)
  ⟨0x110, 32, 0x30, 1, 0x0, 0x0, 0x0, 0xFFFFFFFF, 0x0, 0x0⟩, -- ADT_RXSi+0x10 (R373)
  ⟨0x114, 32, 0x30, 1, 0x0, 0x0, 0x0, 0xFFFFFFFF, 0x0, 0x0⟩, -- ADT_RXSi+0x14 (R373)
  ⟨0x118, 32, 0x30, 1, 0x0, 0x0, 0x0, 0x0, 0x0, 0x0⟩, -- ADT_RXSi+0x18 (R373)
  ⟨0x11C, 32, 0x30, 1, 0x0, 0x0, 0x0, 0x0, 0x0, 0x0⟩, -- ADT_RXSi+0x1C (R373)
  ⟨0x120, 32, 0x30, 1, 0x0, 0x0, 0x0, 0x0, 0x0, 0x0⟩, -- ADT_RXSi+0x20 (R373)
  ⟨0x124, 32, 0x30, 1, 0x0, 0x0, 0x0, 0x0, 0x0, 0x0⟩] -- ADT_RXSi+0x24 (R373)

/-- The registers of the adtTx page kind, below the common header. -/
def regsAdtTx : List RegDesc := [
  ⟨0x100, 32, 0x30, 1, 0x0, 0x0, 0x0, 0xFFFFFEFF, 0x0, 0x0⟩, -- ADT_TXSi+0x00 (R373)
  ⟨0x104, 32, 0x30, 1, 0x0, 0x0, 0x0, 0xFFFFFFF, 0x0, 0x0⟩, -- ADT_TXSi+0x04 (R373)
  ⟨0x108, 32, 0x30, 1, 0x0, 0x0, 0x0, 0xFFFFFFFF, 0x0, 0x0⟩, -- ADT_TXSi+0x08 (R373)
  ⟨0x10C, 32, 0x30, 1, 0x0, 0x0, 0x0, 0xFFFFFFFF, 0x0, 0x0⟩, -- ADT_TXSi+0x0C (R373)
  ⟨0x110, 32, 0x30, 1, 0x0, 0x0, 0x0, 0xFF7FFFFF, 0x0, 0x0⟩, -- ADT_TXSi+0x10 (R373)
  ⟨0x114, 32, 0x30, 1, 0x0, 0x0, 0x0, 0xFFFFFFFF, 0x0, 0x0⟩, -- ADT_TXSi+0x14 (R373)
  ⟨0x118, 32, 0x30, 1, 0x0, 0x0, 0x0, 0xFFFFFFFF, 0x0, 0x0⟩, -- ADT_TXSi+0x18 (R373)
  ⟨0x11C, 32, 0x30, 1, 0x0, 0x0, 0x0, 0xFFFFFFFF, 0x0, 0x0⟩, -- ADT_TXSi+0x1C (R373)
  ⟨0x120, 32, 0x30, 1, 0x0, 0x0, 0x0, 0x0, 0x0, 0x0⟩, -- ADT_TXSi+0x20 (R373)
  ⟨0x124, 32, 0x30, 1, 0x0, 0x0, 0x0, 0x0, 0x0, 0x0⟩, -- ADT_TXSi+0x24 (R373)
  ⟨0x128, 32, 0x30, 1, 0x0, 0x0, 0x0, 0x0, 0x0, 0x0⟩] -- ADT_TXSi+0x28 (R373)

/-- The registers of the ovmRep page kind, below the common header. -/
def regsOvmRep : List RegDesc := [
  ⟨0x40, 1, 0x0, 1, 0x0, 0x0, 0x0, 0xFFFFFC, 0x0, 0x0⟩, -- OVM_VEC_EXC (R288)
  ⟨0x44, 1, 0x0, 1, 0x0, 0x0, 0x0, 0xFFFFFC, 0x0, 0x0⟩, -- OVM_VEC_INT (R288)
  ⟨0x48, 1, 0x0, 1, 0x0, 0x0, 0x0, 0x0, 0x0, 0x0⟩, -- OVM_LOCKUP (R288)
  ⟨0x50, 2, 0x4, 1, 0x0, 0x0, 0x0, 0x0, 0x0, 0x0⟩, -- OVM_FAULT_ADDRt (R288)
  ⟨0x58, 1, 0x0, 1, 0x0, 0x0, 0x0, 0x0, 0x0, 0x0⟩] -- OVM_STAT (R288)

/-- The registers of the ovmZone page kind, below the common header. -/
def regsOvmZone : List RegDesc := [
  ⟨0x100, 16, 0x10, 3, 0x4, 0x0, 0xFFFFFFFF, 0x0, 0x0, 0x0⟩, -- OVM_ZMEMj_w (R285)
  ⟨0x10C, 16, 0x10, 1, 0x0, 0x0, 0xFF03, 0x0, 0x0, 0x0⟩] -- OVM_ZCTLj (R285)

/-- The registers of the dep page kind, below the common header. -/
def regsDep : List RegDesc := [
  ⟨0x40, 1, 0x0, 1, 0x0, 0x1000, 0x0, 0xFF00, 0x0, 0x0⟩, -- DEP_CTRL (R258)
  ⟨0x44, 1, 0x0, 1, 0x0, 0x0, 0x0, 0x0, 0x8, 0x0⟩, -- DEP_STAT (R258)
  ⟨0x48, 1, 0x0, 1, 0x0, 0x0, 0x0, 0x0, 0x0, 0x0⟩, -- DEP_KICK (R258)
  ⟨0x4C, 1, 0x0, 1, 0x0, 0x0, 0x0, 0x0, 0x0, 0x0⟩, -- DEP_TIME (R258)
  ⟨0x50, 4, 0x4, 1, 0x0, 0x0, 0xFFFFFF07, 0x0, 0x0, 0x0⟩, -- DEP_LINEk (R258)
  ⟨0x60, 1, 0x0, 1, 0x0, 0x0, 0xF0000, 0x0, 0xF, 0x0⟩, -- DEP_IRQ (R258)
  ⟨0x64, 1, 0x0, 1, 0x0, 0x0, 0x0, 0x0, 0x0, 0x0⟩, -- DEP_BELL_NO (R258)
  ⟨0x70, 1, 0x0, 1, 0x0, 0x0, 0x0, 0x0, 0xF0000, 0x0⟩, -- DEP_CONTACT (R258)
  ⟨0x74, 1, 0x0, 1, 0x0, 0x18, 0x0, 0xFFF, 0x0, 0x0⟩] -- DEP_DBNC (R258)

/-- The registers of the pwm page kind, below the common header. -/
def regsPwm : List RegDesc := [
  ⟨0x40, 1, 0x0, 1, 0x0, 0x0, 0x3, 0x4, 0x0, 0x0⟩, -- PWM_CTRL (R222)
  ⟨0x44, 1, 0x0, 1, 0x0, 0x0, 0x0, 0x0, 0x0, 0x0⟩] -- PWM_STAT (R222)

/-- The registers of the sns page kind, below the common header. -/
def regsSns : List RegDesc := [
  ⟨0x40, 1, 0x0, 1, 0x0, 0x0, 0x0, 0x1, 0x0, 0x0⟩, -- SNS_CTRL (R225)
  ⟨0x44, 1, 0x0, 1, 0x0, 0x0, 0x0, 0x0, 0x0, 0x0⟩, -- SNS_STAT (R225)
  ⟨0x48, 1, 0x0, 1, 0x0, 0x0, 0x0, 0x0, 0x0, 0x0⟩] -- SNS_PEAK (R225)

/-- The registers of the cor page kind, below the common header. -/
def regsCor : List RegDesc := [
  ⟨0x40, 1, 0x0, 1, 0x0, 0x0, 0x0, 0x10F, 0x0, 0x0⟩, -- COR_CTRL (R244)
  ⟨0x44, 1, 0x0, 1, 0x0, 0xE62828, 0x0, 0xFFFFFF, 0x0, 0x0⟩, -- COR_THR (R244)
  ⟨0x48, 1, 0x0, 1, 0x0, 0x0, 0x0, 0xFFFFFFFF, 0x0, 0x0⟩, -- COR_KZ (R244)
  ⟨0x4C, 1, 0x0, 1, 0x0, 0x1FFFFFF, 0x0, 0x1FFFFFF, 0x0, 0x0⟩, -- COR_MASK (R244)
  ⟨0x50, 1, 0x0, 1, 0x0, 0x1010, 0x0, 0x3F3F, 0x0, 0x0⟩, -- COR_LIMIT (R244)
  ⟨0x54, 1, 0x0, 1, 0x0, 0x0, 0x0, 0x0, 0x0, 0x0⟩, -- COR_LAST (R244)
  ⟨0x80, 25, 0x4, 1, 0x0, 0x0, 0x0, 0xFFFFF, 0x0, 0x0⟩] -- COR_ZREFk (R244)

/-- The registers of the crg page kind, below the common header. -/
def regsCrg : List RegDesc := [
  ⟨0x40, 1, 0x0, 1, 0x0, 0x0, 0x1FFFFF, 0x0, 0x0, 0x0⟩, -- CRG_FREQ (R397)
  ⟨0x44, 1, 0x0, 1, 0x0, 0x0, 0x0, 0x0, 0x0, 0x0⟩, -- CRG_NOW (R397)
  ⟨0x48, 1, 0x0, 1, 0x0, 0x2, 0x0, 0x2, 0x0, 0x1⟩, -- CRG_CTRL (R397)
  ⟨0x4C, 1, 0x0, 1, 0x0, 0x0, 0x0, 0x0, 0x0, 0x0⟩, -- CRG_SURVEY (R397)
  ⟨0x50, 4, 0x4, 1, 0x0, 0x0, 0x0, 0x0, 0x0, 0x0⟩, -- CRG_GAUGEk (R397)
  ⟨0x60, 1, 0x0, 1, 0x0, 0x0, 0x0, 0x0, 0x0, 0x0⟩] -- CRG_CAL (R397)

/-- The registers of the pmcGlobal page kind, below the common header. -/
def regsPmcGlobal : List RegDesc := [
  ⟨0x40, 1, 0x0, 1, 0x0, 0x0, 0x31, 0x0, 0x0, 0x2⟩] -- PMC_GLOBAL (R441)

/-- The registers of the pmcHewer page kind, below the common header. -/
def regsPmcHewer : List RegDesc := [
  ⟨0x40, 1, 0x0, 1, 0x0, 0x0, 0x0, 0x0, 0x0, 0x0⟩, -- PMC_CYC_LO (R440)
  ⟨0x44, 1, 0x0, 1, 0x0, 0x0, 0x0, 0x0, 0x0, 0x0⟩, -- PMC_CYC_HI (R440)
  ⟨0x60, 8, 0x4, 1, 0x0, 0x0, 0x8F03FFFF, 0x0, 0x0, 0x0⟩, -- PMC_SELk (R440)
  ⟨0x80, 8, 0x8, 1, 0x0, 0x0, 0xFFFFFFFF, 0x0, 0x0, 0x0⟩, -- PMC_CNTk_LO (R440)
  ⟨0x84, 8, 0x8, 1, 0x0, 0x0, 0xFFFF, 0x0, 0x0, 0x0⟩, -- PMC_CNTk_HI (R440)
  ⟨0x100, 1, 0x0, 1, 0x0, 0x0, 0x0, 0x0, 0x0, 0x0⟩, -- PMC_SCYC_LO (R440)
  ⟨0x104, 1, 0x0, 1, 0x0, 0x0, 0x0, 0x0, 0x0, 0x0⟩, -- PMC_SCYC_HI (R440)
  ⟨0x110, 8, 0x8, 1, 0x0, 0x0, 0x0, 0x0, 0x0, 0x0⟩, -- PMC_SCNTk_LO (R440)
  ⟨0x114, 8, 0x8, 1, 0x0, 0x0, 0x0, 0x0, 0x0, 0x0⟩] -- PMC_SCNTk_HI (R440)

/-- The registers of the pmcUnit page kind, below the common header. -/
def regsPmcUnit : List RegDesc := [
  ⟨0x40, 1, 0x0, 1, 0x0, 0x0, 0x0, 0x0, 0x0, 0x0⟩, -- PMC_CYC_LO (R440)
  ⟨0x44, 1, 0x0, 1, 0x0, 0x0, 0x0, 0x0, 0x0, 0x0⟩, -- PMC_CYC_HI (R440)
  ⟨0x60, 4, 0x4, 1, 0x0, 0x0, 0x8F03FFFF, 0x0, 0x0, 0x0⟩, -- PMC_SELk (R440)
  ⟨0x80, 4, 0x8, 1, 0x0, 0x0, 0xFFFFFFFF, 0x0, 0x0, 0x0⟩, -- PMC_CNTk_LO (R440)
  ⟨0x84, 4, 0x8, 1, 0x0, 0x0, 0xFFFF, 0x0, 0x0, 0x0⟩, -- PMC_CNTk_HI (R440)
  ⟨0x100, 1, 0x0, 1, 0x0, 0x0, 0x0, 0x0, 0x0, 0x0⟩, -- PMC_SCYC_LO (R440)
  ⟨0x104, 1, 0x0, 1, 0x0, 0x0, 0x0, 0x0, 0x0, 0x0⟩, -- PMC_SCYC_HI (R440)
  ⟨0x110, 4, 0x8, 1, 0x0, 0x0, 0x0, 0x0, 0x0, 0x0⟩, -- PMC_SCNTk_LO (R440)
  ⟨0x114, 4, 0x8, 1, 0x0, 0x0, 0x0, 0x0, 0x0, 0x0⟩] -- PMC_SCNTk_HI (R440)

/-- The registers of the pmcBw page kind, below the common header. -/
def regsPmcBw : List RegDesc := [
  ⟨0x40, 1, 0x0, 1, 0x0, 0x0, 0x0, 0x0, 0xFFFFFFFF, 0x0⟩, -- PMC_BW_ALERT0 (R441)
  ⟨0x44, 1, 0x0, 1, 0x0, 0x0, 0x0, 0x0, 0xFFFFF, 0x0⟩, -- PMC_BW_ALERT1 (R441)
  ⟨0x100, 52, 0x8, 1, 0x0, 0x0, 0xFFFFFFFF, 0x0, 0x0, 0x0⟩, -- PMC_BWm_CFG (R441)
  ⟨0x104, 52, 0x8, 1, 0x0, 0x0, 0x0, 0x0, 0x0, 0x0⟩] -- PMC_BWm_LAST (R441)

/-- The registers of a page kind at offsets 0x040 and above. -/
def kindRegs : PageKind → List RegDesc
  | .hwr => regsHwr
  | .wnd => regsWnd
  | .bnk => regsBnk
  | .mpu => regsMpu
  | .ecc => regsEcc
  | .scb => regsScb
  | .ons => regsOns
  | .tpl => regsTpl
  | .gat => regsGat
  | .can => regsCan
  | .bel => regsBel
  | .lrm => regsLrm
  | .wdg => regsWdg
  | .fus => regsFus
  | .aon => regsAon
  | .dbg => regsDbg
  | .rfg => regsRfg
  | .xsp => regsXsp
  | .pci => regsPci
  | .pdm => regsPdm
  | .tdm => regsTdm
  | .tly => regsTly
  | .adtPort => regsAdtPort
  | .adtParser => regsAdtParser
  | .adtPtp => regsAdtPtp
  | .adtShaper => regsAdtShaper
  | .adtCb => regsAdtCb
  | .adtRx => regsAdtRx
  | .adtTx => regsAdtTx
  | .ovmRep => regsOvmRep
  | .ovmZone => regsOvmZone
  | .dep => regsDep
  | .pwm => regsPwm
  | .sns => regsSns
  | .cor => regsCor
  | .crg => regsCrg
  | .pmcGlobal => regsPmcGlobal
  | .pmcHewer => regsPmcHewer
  | .pmcUnit => regsPmcUnit
  | .pmcBw => regsPmcBw

/-- Whether a family holds the register at offset `off`. -/
def descHolds (d : RegDesc) (off : Nat) : Bool :=
  decide (d.base ≤ off) &&
  (let r := off - d.base
   let q := r % d.s1
   decide (r / d.s1 < d.n1) && decide (q % d.s2 = 0) && decide (q / d.s2 < d.n2))

/-- The family that holds offset `off` of a page kind, if the kind's chapter defines that offset (R32). -/
def findDesc (k : PageKind) (off : Nat) : Option RegDesc := (kindRegs k).find? (fun d => descHolds d off)

/-- The events that a page kind's BLK_EVT holds beside ERR_EVT, by bit (R35: block-specific, and reserved where the chapter is silent;
R71, R163, R186, R205, R209, R214, R217, R222, R225, R231, R244, R258, R287–R289, R304, R312, R329, R330, R344, R373, R374, R396, R397,
R401, R413, R417, R440, R441, R459, R462, R466). -/
def eventNos : PageKind → List Nat
  | .hwr => [1, 2, 3, 4, 5, 6, 7]
  | .wnd => [1, 2, 3, 31]
  | .bnk => [1, 2, 3]
  | .mpu => [1]
  | .ecc => [1, 2, 3, 4, 5, 6, 7]
  | .scb => [1]
  | .ons => [1, 2, 3, 4, 5, 6, 7, 8]
  | .tpl => [1, 2, 3, 4, 5, 6, 7, 8, 9]
  | .gat => [1, 2, 3, 4, 5, 6, 7, 8]
  | .can => [1]
  | .bel => [1, 2, 3, 4, 5]
  | .lrm => [1, 2, 3, 4]
  | .wdg => [1, 2, 3, 4]
  | .fus => []
  | .aon => [1, 8, 9]
  | .dbg => [1, 2, 3, 4]
  | .rfg => [1, 2, 3]
  | .xsp => [1, 2]
  | .pci => [1, 2, 3, 4]
  | .pdm => [1]
  | .tdm => [1, 2]
  | .tly => [1, 2]
  | .adtPort => [1, 2]
  | .adtParser => [1, 2]
  | .adtPtp => [1, 2]
  | .adtShaper => [1, 2]
  | .adtCb => [1]
  | .adtRx => [1, 2, 3, 4]
  | .adtTx => [1, 2]
  | .ovmRep => [1]
  | .ovmZone => []
  | .dep => [1, 2, 3, 4, 5]
  | .pwm => [1]
  | .sns => [1, 2]
  | .cor => [1, 2]
  | .crg => [1, 2]
  | .pmcGlobal => []
  | .pmcHewer => [1, 2, 3, 4, 5, 6, 7, 8]
  | .pmcUnit => [1, 2, 3, 4]
  | .pmcBw => [1]

/-- The bits of BLK_EVT that a page kind has, ERR_EVT among them. -/
def eventBits (k : PageKind) : Nat := (eventNos k).foldl (fun m i => m + 2 ^ i) 1

/-- The header registers with stored fields (R35): BLK_CTRL with its block-specific RATE96 (R71) and RST_EN (R413),
BLK_EVT, BLK_EVT_EN, BLK_OWNER and BLK_PWR. The rest of the header is computed or write-only. -/
def headerDesc (k : PageKind) (off : Nat) : Option RegDesc :=
  if off = 0x004 then
    some ⟨0x004, 1, 0, 1, 0, 0, 0, (match k with | .ons | .wdg => 0x10001 | _ => 0x1), 0, 0⟩
  else if off = 0x00C then some ⟨0x00C, 1, 0, 1, 0, 0, 0, 0, eventBits k, 0⟩
  else if off = 0x010 then some ⟨0x010, 1, 0, 1, 0, 0, 0, 0xFFFFFFFF, 0, 0⟩
  else none

/-- The register at offset `off` of a page kind: header or chapter. -/
def regDesc (k : PageKind) (off : Nat) : Option RegDesc :=
  if off < 0x040 then headerDesc k off else findDesc k off

end Sys2Proof.Machine
end

