-- ==== Sys2Proof/Machine/Sparse.lean ====
section
/-!
DEFINITION. Sys2Proof/Machine/Sparse.lean: finite maps as plain lists of key and value, in one canonical form:
keys strictly rising, and no entry equal to what an unlisted key reads as.
-/

namespace Sys2Proof.Machine

/-- A finite map with a default: a list of pairs, keys strictly rising, no pair holding the default. -/
abbrev Sparse (α : Type) := List (Nat × α)

/-- The value at `k`: the listed one, else the default. -/
def sparseGet {α : Type} (dflt : α) : Sparse α → Nat → α
  | [], _ => dflt
  | (k', v) :: rest, k => if k' = k then v else sparseGet dflt rest k

/-- The map without the pairs at `k`. -/
def sparseErase {α : Type} : Sparse α → Nat → Sparse α
  | [], _ => []
  | (k', v) :: rest, k => if k' = k then sparseErase rest k else (k', v) :: sparseErase rest k

/-- The map with a pair put in its place before the first greater key. -/
def sparseInsert {α : Type} : Sparse α → Nat → α → Sparse α
  | [], k, v => [(k, v)]
  | (k', v') :: rest, k, v =>
    if k < k' then (k, v) :: (k', v') :: rest else (k', v') :: sparseInsert rest k v

/-- The map that reads `v` at `k` and as before elsewhere, in canonical form. -/
def sparseSet {α : Type} [DecidableEq α] (dflt : α) (m : Sparse α) (k : Nat) (v : α) : Sparse α :=
  if v = dflt then sparseErase m k else sparseInsert (sparseErase m k) k v

/-- The canonical form above the key bound `lo`: keys at least `lo`, strictly rising, no default listed. -/
def sparseFrom {α : Type} [DecidableEq α] (dflt : α) : Nat → Sparse α → Bool
  | _, [] => true
  | lo, (k, v) :: rest => decide (lo ≤ k) && decide (v ≠ dflt) && sparseFrom dflt (k + 1) rest

/-- The canonical form. -/
def sparseWf {α : Type} [DecidableEq α] (dflt : α) (m : Sparse α) : Bool := sparseFrom dflt 0 m

/-- The map without the pairs whose key satisfies `p`. -/
def sparseDrop {α : Type} (p : Nat → Bool) : Sparse α → Sparse α
  | [] => []
  | (k, v) :: rest => if p k then sparseDrop p rest else (k, v) :: sparseDrop p rest

end Sys2Proof.Machine
end

