-- ==== Sys2Proof/Machine/State.lean ====
section
/-!
DEFINITION. Sys2Proof/Machine/State.lean: everything the manual gives the device to remember, as plain data, and the
state after a reset.
-/

namespace Sys2Proof.Machine

/-- The reasons a step can stop with a fault: none, every command of the block has an effect. -/
inductive Fault where
  deriving DecidableEq, Repr

/-- The reasons a step can refuse a command. -/
inductive Refusal where
  /-- Raised by an arm of `exec` whose command has no meaning yet; safe, since nothing can be proved of such a step. -/
  | notModelled (mnemonic : String)
  deriving DecidableEq, Repr

/-- The state of a power domain or bank array (R23, R35 BLK_PWR, R301). -/
inductive Power where
  | off | retain | on
  deriving DecidableEq, Repr

/-- The lock of a page (R40): not begun, armed by a master, locked. -/
inductive PageLock where
  | unlocked
  | armed (master : Byte)
  | locked
  deriving DecidableEq, Repr

/-- What a bank keeps beside its 64 data bits for each word: both valid maps (R298) and the check byte (R313). -/
structure WordMeta where
  validA : Bool
  validB : Bool
  check : Byte
  deriving DecidableEq, Repr

/-- The memories of R27. Bank bytes default to 0 and words to invalid (R298, R328, R444); panel parity bytes to 0 (R328). -/
structure Mem where
  /-- the bytes of the banks, by physical address -/
  data : List Host.Cell
  /-- per bank word, by physical address div 8 -/
  words : Sparse WordMeta
  /-- parity words, by 16 * panel + word, a panel being a physical address div 4096: data in bits 63:0, check byte above -/
  parity : Sparse (BitVec 72)
  /-- the xSPI flash array, by flash address -/
  flash : List Host.Cell
  /-- the micro-stores, by District * 0x4000 + offset -/
  ustore : List Host.Cell
  deriving DecidableEq, Repr

/-- What a bank port keeps beside its page (R38, R294, R300, R65). -/
structure Bank where
  /-- the owner in effect -/
  owner : Byte
  /-- a hand-over drains -/
  draining : Bool
  /-- the next owner the Onsetter applies when the drain completes -/
  next : Option Byte
  /-- a running invalidation: the words, by physical address div 8, of its first, of the first still to clear, and of its end (R300) -/
  inv : Option (Nat × Nat × Nat)
  deriving DecidableEq, Repr

/-- A segment register: words 0 to 2 of its descriptor (R87). -/
structure Seg where
  base : W32
  attr : W32
  owner : W32
  deriving DecidableEq, Repr

/-- A value with its poison flag (R74, R93). -/
structure Val (n : Nat) where
  bits : BitVec n
  poison : Bool
  deriving DecidableEq, Repr

/-- A product in the product latch (R147): its P register and its value. -/
structure Product where
  reg : Nat
  val : Val 48
  deriving DecidableEq, Repr

/-- Why a thread issues nothing (R148, R125, R270, R62). -/
inductive Hold where
  | none
  /-- its bundle lies in a line that neither the line buffer nor the cache holds (R151) -/
  | lineFill
  /-- its bundle waits for a bank or fabric response (R148), on a store or not (R154) -/
  | access (store : Bool)
  /-- its bundle waits for the panel decoder to repair a panel, by physical address div 4096 (R314), on a store or not -/
  | panel (panel : Nat) (store : Bool)
  /-- its store waits for two free store-buffer entries (R148) -/
  | storeBuffer
  /-- WAIT has retired and no event routed to the thread is pending (R125) -/
  | wait
  /-- AGREE has been offered (R270) -/
  | agree
  /-- TDONE has retired and the pass has not completed (R62) -/
  | passEnd
  deriving DecidableEq, Repr

/-- The kinds of repeat (R126, R127). -/
inductive RepKind where
  | rep | repi
  deriving DecidableEq, Repr

/-- A repeat that runs, or whose prefix has issued (R126–R129). -/
structure Repeat where
  kind : RepKind
  /-- iterations not retired, under REP -/
  left : Nat
  /-- the prefix has issued and the repeated bundle has not been checked with it (R128): PC stays at the prefix -/
  fresh : Bool
  /-- a cause of the prefix that ranks behind ILLEGAL_REPEAT (R128, R158) -/
  fault : Option Nat
  /-- RC at the prefix, which reads return under REP, and the write REP defers -/
  rcAtPrefix : W24
  rcDeferred : Option W24
  deriving DecidableEq, Repr

/-- A store a locked sequence has buffered (R134): address, value and the record it will feed. -/
structure LockStore where
  addr : Nat
  val : Val 24
  seg : BitVec 3
  off : W24
  deriving DecidableEq, Repr

/-- A locked sequence (R134–R136). -/
structure LockSeq where
  /-- bundles so far, LOCK included -/
  bundles : Nat
  /-- reserved words, by physical address div 8 -/
  words : List Nat
  stores : List LockStore
  broken : Bool
  deriving DecidableEq, Repr

/-- A record of a pass signature (R174): its canonical value, offset, kind, segment, size, and whether the element carried poison. -/
structure SigRec where
  value : Nat
  off : Int
  ek : Nat
  sg : Nat
  size : Nat
  poison : Bool
  deriving DecidableEq, Repr

/-- A block instruction in progress (R132): its KIND of R133, BSCAN's peak, and the records of the elements of the present group of
eight, which feed the signature in ascending canonical offset (R173). -/
structure BlockRun where
  kind : Nat
  peak : Val 24
  records : List SigRec
  deriving DecidableEq, Repr

/-- An entry in progress (R159, R162): XCAUSE.CAUSE, and whether the pinned vector line serves it. -/
structure Entering where
  cause : Nat
  served : Bool
  deriving DecidableEq, Repr

/-- A pass signature (R173): its 64 bits, its check bits and its poison flag. -/
structure Sig where
  bits : W64
  check : Byte
  poison : Bool
  deriving DecidableEq, Repr

/-- One hardware thread (R74). -/
structure Thread where
  a : Sparse W24
  d : Sparse (Val 24)
  x : Sparse (Val 56)
  p : Sparse (Val 48)
  s : Sparse Seg
  pc : W24
  rc : W24
  bn : W24
  sr : W32
  xsr : W32
  xpc : W24
  xcause : W32
  xinfo : W32
  /-- the product of the last bundle: the one before has landed, as no other bundle reads P in between (R80, R147) -/
  latch : List Product
  /-- syllables of the bundle being issued, first first, an EXT with its own word (R97) -/
  buf : List W32
  hold : Hold
  rep : Option Repeat
  /-- the banks whose ports took the access in `hold` from their owner in effect (R294) -/
  accepted : List Nat
  /-- a block instruction between two of its elements (R130–R132) -/
  block : Option BlockRun
  lock : LockSeq
  /-- the value that an AGREE held in `buf` has received (R138, R270) -/
  agreed : Option W24
  /-- an entry has been made and its first handler bundle has not issued (R156, R162) -/
  entering : Option Entering
  /-- the resume latch: XINFO as RETX moved it (R133) -/
  resume : Option W32
  /-- RETX was the thread's last bundle (R154) -/
  afterRetx : Bool
  sig : Sig
  /-- dispatched and not idle (R63); on an Overman, started (R455) -/
  running : Bool
  /-- bundles retired since the last checkpoint (R259) -/
  retired : Nat
  /-- the lines in the line buffer, by physical address div 64, with their poisoned words (R151) -/
  lineBuf : List (Nat × Byte)
  /-- the signature records that block instructions left by an entry hold back until they go on, the last one left first (R132, R173) -/
  parked : List (List SigRec)
  deriving DecidableEq, Repr

/-- An entry of the store buffer (R149): the issuing thread, the first byte's physical address, the bytes with their poison
attributes, and whether the entry is performed together with the next one (R150). -/
structure SbEntry where
  thread : Fin 4
  addr : Nat
  bytes : List (Byte × Bool)
  paired : Bool
  deriving DecidableEq, Repr

/-- A line of the instruction cache (R151): absent, present with the mask of its poisoned words, or present with a parity error: a physical
condition, which no command brings about (log 69). -/
inductive Line where
  | absent
  | present (poison : Byte)
  | broken
  deriving DecidableEq, Repr

/-- A pinned vector line (R159): the line's physical address div 64, its poisoned words, and the cause of a failed load. -/
structure Pin where
  line : Nat
  poison : Byte
  failed : Option Byte
  deriving DecidableEq, Repr

/-- What the threads of a core share (R75, R149, R151, R159, R162, R186). -/
structure Core where
  lockup : Bool
  stores : List SbEntry
  cache : Sparse Line
  pinExc : Option Pin
  pinInt : Option Pin
  /-- a Hewer's vector lines have been loaded since the reset or domain switch (R159) -/
  pinned : Bool
  /-- a write to the vector offset of exceptions, of interrupts, has been made and takes effect at the next boundary (R159, R163) -/
  excDue : Bool
  intDue : Bool
  mmLog : List W32
  /-- the Hewer is quarantined from the next boundary (R183) -/
  quarantineDue : Bool
  /-- the domain of a Hewer has been OFF since it was last ON (R184) -/
  wasOff : Bool
  deriving DecidableEq, Repr

/-- The part of a shift the shift timer is in, between two edges of R46 (with the cut-off of R48). -/
inductive Segment where
  | intake | primary | shadow | verdict | drain | cutoff | lamp
  deriving DecidableEq, Repr

/-- Where a task stands in the present shift (R59–R69, R178). -/
inductive TaskState where
  /-- admitted, PRIMARY not begun -/
  | waiting
  | inPrimary
  | donePrimary
  | inShadow
  /-- both passes complete -/
  | done
  /-- cut, not started or lost after admission, or not run for want of a spare, with its cause of ONS_CUT_LOG -/
  | lost (cause : BitVec 4)
  /-- shed at admission, with its cause -/
  | shed (cause : BitVec 4)
  deriving DecidableEq, Repr

/-- A task of the active Roster in the present shift: its entry's fields (R54), with the Hewer that runs it (R70). -/
structure TaskRec where
  hewer : Nat
  thread : Nat
  cls : Nat
  xform : Nat
  after : Option Nat
  entry : W24
  arg : W24
  /-- its dispatches of this shift carry RESYNC (R171) -/
  resync : Bool
  st : TaskState
  deriving DecidableEq, Repr

/-- The outcome of a task at VERDICT (R178). -/
inductive Verdict where
  | none | predFail | poisoned | mismatch | matched
  deriving DecidableEq, Repr

/-- The Onsetter beside its page (chapter 03). -/
structure Ons where
  /-- the shift timer runs (R455) -/
  runs : Bool
  seg : Segment
  /-- no boundary since the shift timer started (R46) -/
  first : Bool
  /-- a switch has made a buffer active since the last reset (R58) -/
  everActive : Bool
  /-- RESULT became READY at 650.0 µs or later (R56) -/
  readyLate : Bool
  tasks : Sparse (Option TaskRec)
  /-- tasks admitted in the present shift -/
  admitted : Nat
  cutLog : List W32
  /-- verdict table: the PRIMARY signature at 2 * entry, the SHADOW one at 2 * entry + 1 (R177) -/
  verdicts : Sparse (Option Sig)
  outcomes : Sparse Verdict
  /-- entries whose next dispatch carries RESYNC on account of their last verdict or a loss (R171) -/
  owed : Sparse Bool
  /-- entries dispatched since the reset or the last switch, with the Hewer of the last dispatch (R171) -/
  lastHewer : Sparse (Option Nat)
  deriving DecidableEq, Repr

/-- An asynchronous crossing FIFO between two islands (R19): the transfers in it, those its source is held back with, and those last
delivered. -/
structure Crossing where
  waiting : List W64
  held : List W64
  delivered : List W64
  deriving DecidableEq, Repr

/-- Where the device stands between a reset and its shifts (R442, R448–R450, R455, R386). -/
inductive Phase where
  /-- a reset is asserted, or its 100 µs run -/
  | asserted
  /-- the boot ROM runs -/
  | booting
  /-- BOOT_HOLD (R449) -/
  | bootHold
  /-- handed over (R455) -/
  | running
  /-- DORMANT (R386) -/
  | dormant
  deriving DecidableEq, Repr

/-- Resets and boot beside the AON_ page (chapter 19, R484). -/
structure Life where
  phase : Phase
  /-- causes recorded since the last release, bits of R442 -/
  causes : BitVec 5
  /-- NRST_DW is low and its warm reset lasts (R442) -/
  pinLow : Bool
  /-- a supply is below its power-on threshold (R484) -/
  supplyLow : Bool
  /-- the I/O supplies that are below theirs while one is: bit 0 VDDIO18, bit 1 VDDIO33 (R475) -/
  ioLow : Nat
  /-- the reference count after the last supply crossing runs (R484) -/
  refCount : Bool
  /-- the boot since the last release completed (R448) -/
  booted : Bool
  /-- OVM_ENTRY of the image that boots (R453) -/
  entry : W24
  /-- a boot held by a halt before the boot ROM's first bundle, with what its release found (R426) -/
  heldBoot : Option BootIn
  deriving DecidableEq, Repr

/-- The health of a crosspoint entry's check bits (R191, R201): no error, a correctable one, an uncorrectable one. -/
inductive EntryHealth where
  | clean | single | uncorrectable
  deriving DecidableEq, Repr

/-- The gain of a crosspoint entry: present C, and the ramp in progress S, T, n, k (R193). -/
structure Gain where
  c : Int
  active : Bool
  from_ : Int
  to_ : Int
  n : Nat
  k : Nat
  deriving DecidableEq, Repr

/-- A block being filled or mixed (R187, R188): its samples, none where not written in the shift. -/
abbrev Block := List (Option (Val 24))

/-- The concealment memory of an input or column (R181): the last good block and the run count. -/
structure Conceal where
  good : List Int
  run : Nat
  deriving DecidableEq, Repr

/-- A staged Tipple write (R202): TABLE and INDEX, the data, the writer. -/
structure Staged where
  table : Nat
  index : Nat
  data : W32
  master : Byte
  deriving DecidableEq, Repr

/-- The Tipple beside its page (chapter 08). -/
structure Tipple where
  table : Sparse W32
  health : Sparse EntryHealth
  /-- entries marked bad (R201) -/
  bad : Sparse Bool
  inDesc : Sparse W32
  outDesc : Sparse W32
  queue : List Staged
  gains : Sparse Gain
  /-- live entries of each column in the present shift (R195) -/
  live : Sparse Nat
  fill : Sparse Block
  mix : Sparse Block
  /-- the formed input blocks of the present mix (R190) -/
  formed : Sparse (List Int)
  inMem : Sparse Conceal
  colMem : Sparse Conceal
  /-- results of the first pass, per computed column (R198) -/
  first : Sparse (Option (List Int))
  /-- columns not computed, with the reason of TPL_FAIL_LOG (R195, R201) -/
  skipped : Sparse Nat
  /-- columns whose negated result has been compared, with the result (R199) -/
  compared : Sparse (Option Bool)
  /-- released blocks of the output columns (R197) -/
  out : Sparse (List W24)
  /-- the failure log (R205) -/
  log : List W32
  deriving DecidableEq, Repr

/-- A TDM port's shift (R212, R213). -/
structure TdmPort where
  /-- frames exchanged this shift, each the received samples of its slots, newest first -/
  frames : List (List W24)
  /-- the sample period of this shift that the next frame belongs to (R212) -/
  next : Nat
  /-- a FRAME_ERR in the shift -/
  err : Bool
  /-- what the last frame sent in each slot; none for a slot at high impedance -/
  sent : List (Option W24)
  deriving DecidableEq, Repr

/-- A ΔΣ bit stream: the state of its decimator, its last bit, and how many bits in a row have had that level (R215, R216, R224). -/
structure BitStream where
  filter : Nat
  last : Bool
  run : Nat
  deriving DecidableEq, Repr

/-- The audio inputs and outputs beside their pages (chapter 09). -/
structure Audio where
  tdm : Sparse TdmPort
  /-- blocks captured in the previous shift: TDM slot s at s, microphone m at 256 + m; none where not delivered (R306) -/
  capture : Sparse (Option (List W24))
  /-- microphone clock groups: 0 stopped, 1 warming up, 2 warm (R216) -/
  warm : Sparse Nat
  /-- microphones stuck within this shift (R216) -/
  micStuck : Sparse Bool
  /-- blocks played this shift: amplifier channel c at c, TDM transmit slot t at 128 + t (R72, R213, R220) -/
  play : Sparse (List W24)
  /-- the blocks played in the shift before, whose end the modulators still carry (R219) -/
  before : Sparse (List W24)
  /-- channels whose shaper limited in this shift (R219) -/
  pwmClip : Sparse Bool
  /-- sense flags of this shift, bits of SNS_STAT (R224) -/
  sense : Sparse (BitVec 4)
  /-- the Refuge route's level rises, or falls (R229, R230) -/
  refugeRise : Bool
  refugeFall : Bool
  /-- the level has fallen to 0 and the pins return at the next boundary (R230) -/
  refugeReturn : Bool
  /-- the tone segment played (R228) -/
  refugeSegment : Nat
  /-- the last sample that the Refuge route's own TDM receiver read in its slot (R226, R228) -/
  refugeSample : W24
  /-- the high-pass filters of the microphones: the last sample in and out (R215) -/
  hpf : Sparse (W24 × W24)
  /-- the bit streams: microphone m at m, channel c's voltage at 64 + 2c and its current at 65 + 2c -/
  streams : Sparse BitStream
  /-- the correction applied, in thirds of 0.001 ppm, so that 1 ppm/s is two of them a shift (R207) -/
  correction : Int
  /-- the corrections of the shifts since the source last became valid, newest first, at most 4096, in the same unit (R208) -/
  corrections : List Int
  deriving DecidableEq, Repr

/-- The energy ledger, operating points and surveys beside their pages (chapter 16). -/
structure Energy where
  /-- 16-bit fractional residues of the domains' counters (R375) -/
  residue : Sparse Nat
  /-- LRM_DEV_LAST minus the Hewers' part, for the last four shifts, newest first (R380) -/
  fixTerms : List Nat
  /-- modelled energy of all domains in the last 64 shifts, in 2^-16 µJ, newest first (R379) -/
  recent : List Nat
  /-- consecutive good, and bad, reads of the power monitor (R379) -/
  good : Nat
  bad : Nat
  /-- the device and register from which a read of the power monitor is in progress (R379) -/
  asked : Option (Nat × Nat)
  /-- shifts since the last full hour of operation (R393) -/
  hourShifts : Nat
  /-- the code on VID[5:0], the codes of the last two shifts, newest first (R471), and the code that the points of the last boundary needed (R389) -/
  vid : Nat
  vidPast : Nat × Nat
  vidNeed : Nat
  /-- FCEIL in effect of each island (R388) -/
  ceil : Sparse Nat
  /-- islands whose survey is due (R391) -/
  surveyDue : Sparse Bool
  /-- domains switched on at the next boundary, deferred by R389 -/
  domainDue : Sparse Bool
  deriving DecidableEq, Repr

/-- SAFE, the FAULT and RLY pins, and the heartbeat (chapter 17, R286). -/
structure Guard where
  /-- SAFE has been entered and no reset has come since (R405) -/
  safe : Bool
  /-- the FAULT pins show STATIC (R407) -/
  static : Bool
  /-- the level of FAULT_A in HEALTHY; FAULT_B is its complement (R407) -/
  level : Bool
  /-- the present shift is marked alive (R408) -/
  alive : Bool
  /-- the levels of RLY[31:0] -/
  relays : W32
  deriving DecidableEq, Repr

/-- The role of an Overman replica (R288 OVM_STAT.ROLE). -/
inductive Role where
  | active | resync | retired | solo
  deriving DecidableEq, Repr

/-- An entry of a gate queue (R268). -/
structure Gated where
  addr : Nat
  bytes : List Byte
  thread : Nat
  deriving DecidableEq, Repr

/-- A thread's offer to AGREE (R270): its value and KIND. -/
structure Offer where
  value : W24
  kind : BitVec 2
  deriving DecidableEq, Repr

/-- What the Triad keeps of one replica (chapter 11); the maps are by thread. -/
structure Replica where
  role : Role
  queue : List Gated
  /-- the signature so far (R265) -/
  sig : W64
  /-- AGREEs retired since the last checkpoint, and the offer outstanding (R270) -/
  agreed : Sparse Nat
  offers : Sparse (Option Offer)
  /-- threads stopped directly after a CHECK (R261) -/
  atCheck : Sparse Bool
  /-- absent from the next vote: an AGREE it did not offer for timed out (R271) -/
  agreeLate : Bool
  /-- absent from the open checkpoint's vote: excluded, or late at its targets (R261, R262) -/
  excluded : Bool
  /-- shift numbers of its failed resynchronisations, newest first, at most three (R280) -/
  failures : List Nat
  /-- shift number of its last rejoining (R277) -/
  rejoined : Option Nat
  deriving DecidableEq, Repr

/-- A resynchronisation under way (R276, R277). -/
structure ResyncJob where
  x : Nat
  donor : Nat
  copied : Bool
  /-- boundaries since the vote -/
  boundaries : Nat
  deriving DecidableEq, Repr

/-- The voters and the Gate beside their page (chapter 11). -/
structure Triad where
  /-- GAT_MODE.MODE: 0 TRIAD, 1 DUPLEX+SOLO, 2 SOLO×3, 3 DUPLEX (R278) -/
  mode : Nat
  replicas : Sparse Replica
  /-- a checkpoint of the voted replicas is open (R260) -/
  ckOpen : Bool
  /-- the open checkpoint closes as the boundary checkpoint (R263) -/
  ckBoundary : Bool
  /-- the open checkpoint's targets, by thread (R261) -/
  targets : Sparse Nat
  job : Option ResyncJob
  /-- a replica is handed over at the next boundary (R280) -/
  handOver : Option Nat
  deriving DecidableEq, Repr

/-- The Canary beside its page (R283, R284): by target, the bit and argument of a request, and the bit of an automatic
injection not yet made. -/
structure Canary where
  requests : Sparse (Option (Nat × Nat))
  due : Sparse (Option Nat)
  deriving DecidableEq, Repr

/-- A contact input beside DEP_CONTACT (R257): consecutive samples at the level that STATE does not have, and changes of RAW since
STATE last changed or CHATTER was last set. -/
structure Contact where
  run : Nat
  changes : Nat
  deriving DecidableEq, Repr

/-- The registers of one Deputy core (R247). -/
structure DepCore where
  g : Sparse Byte
  y0 : BitVec 16
  y1 : BitVec 16
  pc : BitVec 16
  ie : Bool
  /-- the return stack, last pushed first -/
  stack : List (BitVec 16)
  /-- WAITE has executed and no enabled source is pending -/
  waiting : Bool
  deriving DecidableEq, Repr

/-- A Deputy pair beside its page (R247, R251, R253, R255, R257). -/
structure Deputy where
  master : DepCore
  /-- the checker core, as it stands when it has executed what the master core has, two cycles later (log 79) -/
  checker : DepCore
  /-- shift numbers of the restarts in the window of R253, newest first -/
  restarts : List W32
  /-- boundaries since RUN was entered or DEP_KICK was last written (R255) -/
  beats : Nat
  contacts : Sparse Contact
  deriving DecidableEq, Repr

/-- What a bin keeps from its previous result (R237). -/
structure Bin where
  mag : Nat
  phase : BitVec 9
  age : Nat
  deriving DecidableEq, Repr

/-- A correlator beside its page (chapter 10). -/
structure Correlator where
  /-- it takes part in the present interval (R242) -/
  running : Bool
  /-- the interval's voltage and current samples, newest first (R232) -/
  samples : List (W24 × W24)
  /-- STUCK or CLIP was set in a shift of the interval (R237) -/
  bad : Bool
  bins : Sparse Bin
  /-- the record of the last interval, not written yet, with its interval number (R241) -/
  record : Option (Nat × List W32)
  deriving DecidableEq, Repr

/-- A request for Tallies that waits in a pool's queue (R367): the holder, how many, and the receiving port if it is a frame's. -/
structure TallyReq where
  holder : Nat
  count : Nat
  port : Option Nat
  deriving DecidableEq, Repr

/-- A Tally pool beside its page (R365–R371). Holders are receive streams 0–255 and transmit streams 256 + i. -/
structure Pool where
  active : Bool
  base : Nat
  size : Nat
  free : Nat
  /-- the tag of each Tally: FREE or its holder -/
  tags : Sparse (Option Nat)
  queue : List TallyReq
  deriving DecidableEq, Repr

/-- A stream frame the parser has matched (R352, R353): its stream, the index of its first sample, its samples per channel, its
length, the offset of its payload, and its bytes. -/
structure RxInfo where
  stream : Nat
  first : Int
  count : Nat
  len : Nat
  off : Nat
  bytes : List Byte
  deriving DecidableEq, Repr

/-- The frame at the head of a port's FIFO (R354). -/
inductive RxHead where
  | none
  | waiting (f : RxInfo)
  | copying (f : RxInfo) (pool : Nat) (tallies : List Nat)
  deriving DecidableEq, Repr

/-- The receive side of a port (R347, R354): the head and the frames behind it. -/
structure RxPort where
  head : RxHead
  fifo : List RxFrame
  deriving DecidableEq, Repr

/-- A received frame that holds Tallies (R355, R356). -/
structure RxHeld where
  stream : Nat
  first : Int
  count : Nat
  off : Nat
  pool : Nat
  tallies : List Nat
  deriving DecidableEq, Repr

/-- A frame as a port sends it: its bytes from the destination address to the end of the payload, and whether its FCS is right (R359, R364). -/
structure WireFrame where
  bytes : List Byte
  fcsOk : Bool
  deriving DecidableEq, Repr

/-- What a port sends (R361): a gPTP message, or the copy of a transmit frame. -/
inductive TxItem where
  | message (kind : PtpKind)
  | frame (id : Nat) (wire : WireFrame)
  deriving DecidableEq, Repr

/-- A transmit frame that holds Tallies (R360, R361): its number, the ports it is queued on, and those whose transmit FIFO it is in. -/
structure TxFrame where
  id : Nat
  stream : Nat
  index : Nat
  len : Nat
  pool : Nat
  tallies : List Nat
  packed : Bool
  eligible : Bool
  queued : List Nat
  sending : List Nat
  deriving DecidableEq, Repr

/-- A transmit stream's counters (R359): protocol sequence number and R-TAG sequence number. -/
structure TxSeq where
  protocol : Nat
  rtag : Nat
  deriving DecidableEq, Repr

/-- The credit and ledgers of a shaped class of a port, in 2^-16 bit (R362, R363). -/
structure Shaper where
  credit : Int
  base : Int
  earned : Int
  spent : Int
  reset : Int
  deriving DecidableEq, Repr

/-- The sequence numbers an eliminating stream has accepted (R358): the highest, and bit k for the number k + 1 below it. -/
structure Elim where
  highest : BitVec 16
  history : W32
  deriving DecidableEq, Repr

/-- A gPTP port's exchanges (R345, R348): a two-step Sync received that waits for its Follow_Up, with its receipt timestamp; the Pdelay_Req sent,
with its timestamp; the answer to it, with the time it reached the neighbour and its receipt timestamp; the measured delay in ns; the last Sync sent,
with its timestamp; and, by sequence number, when a Pdelay_Req to be answered was received and when its Pdelay_Resp was sent. -/
structure PtpPort where
  sync : Option (BitVec 16 × Int)
  asked : Option (BitVec 16 × Int)
  answered : Option (BitVec 16 × Int × Int)
  delay : Int
  syncSent : Option (BitVec 16 × Int)
  requests : Sparse (Option Int)
  responses : Sparse (Option Int)
  deriving DecidableEq, Repr

/-- The gPTP engine beside its page (R348, R349): the best identity announced on each port, a Sync within the last 3 intervals, the offset from
the grandmaster, the slave port, the identity of the present grandmaster, the ports' exchanges, the messages that wait for transmission with
their ports, the last message sent with its port and its timestamp, and the gPTP time of the present boundary in thirds of a ns. -/
structure PtpEngine where
  heard : Sparse (Option Nat)
  syncRecent : Bool
  offset : Int
  slave : Option Nat
  grandmaster : Option Nat
  ports : Sparse PtpPort
  queue : List (Nat × PtpKind)
  sent : Option (Nat × PtpBody × Int)
  time : Option Int
  deriving DecidableEq, Repr

/-- The Adit and the Tally pools beside their pages (chapter 15); `grid` is the grid shift number of the present shift (R350). -/
structure Adit where
  grid : Int
  pools : Sparse Pool
  held : Sparse Nat
  rx : Sparse RxPort
  frames : List RxHeld
  /-- receive streams whose block of the next grid shift counts as delivered (R355) -/
  delivered : Sparse Bool
  elim : Sparse (Option Elim)
  tx : List TxFrame
  /-- how many transmit frames have been granted Tallies: the number of the next one -/
  txCount : Nat
  txSeq : Sparse TxSeq
  /-- the transmit FIFOs, and the last stream frame that each port sent (R361) -/
  txFifo : Sparse (List TxItem)
  /-- what each port has begun to send -/
  begun : Sparse (Option TxItem)
  wire : Sparse (Option WireFrame)
  shapers : Sparse Shaper
  ptp : PtpEngine
  deriving DecidableEq, Repr

/-- The list entry a privileged channel works on (R307, R308): its word 2, BFILL's value, BSCAN's peak, and whether a poisoned
element has reached a TIPPLE destination. -/
structure WinderJob where
  ctl : W32
  fillValue : W24
  peak : Val 24
  poisoned : Bool
  deriving DecidableEq, Repr

/-- A Winder channel beside its registers (R307–R311). -/
structure Winder where
  /-- a START or RESUME waits for the boundary (R307, R309) -/
  heldStart : Bool
  heldResume : Bool
  job : Option WinderJob
  /-- elements completed of the current entry or repeat -/
  done : Nat
  /-- an entry of the run has ended other than DONE (R312 FIRST_ERR) -/
  erred : Bool
  deriving DecidableEq, Repr

/-- The scrub that runs in a bank group (R326): the words, by physical address div 8, from its first to its end. -/
structure Scrub where
  lo : Nat
  hi : Nat
  parity : Bool
  /-- a SINGLE or MULTI word has been found (R330 SCB_FIRST) -/
  found : Bool
  deriving DecidableEq, Repr

/-- A panel decode request (R318): the MULTI word, by physical address div 8, and the thread it holds, if any. -/
structure DecodeReq where
  word : Nat
  hart : Option Hart
  deriving DecidableEq, Repr

/-- A response on the Ebost wire (R421): its ACK, and its data. -/
structure WireReply where
  ack : BitVec 3
  data : Option W32
  deriving DecidableEq, Repr

/-- The debugger's bus access (R422): none, outstanding, or complete with a result that POLL has not returned. -/
inductive DbgAccess where
  | none
  | outstanding (write : Bool) (addr : W32) (size : Nat) (data : W32)
  | unreported (r : WireReply)
  deriving DecidableEq, Repr

/-- The debug port beside its page (chapter 18); `wire` is the last response sent. -/
structure Debug where
  resp : Sparse W32
  access : DbgAccess
  wire : Option WireReply
  /-- the trace ring, oldest first (R434) -/
  trace : List W32
  /-- the bytes that the bandwidth monitors have counted in their present windows (R439) -/
  bytes : Sparse Nat
  deriving DecidableEq, Repr

/-- Lowered power that an attached debugger has emulated (R432): domains and arrays whose reported state is emulated, and DORMANT. -/
structure Emulated where
  dom : Sparse Bool
  arr : Sparse Bool
  dormant : Bool
  deriving DecidableEq, Repr

/-- What a bus command was answered: performed, with the data of a read, or ended with an error response for a reason of R160. -/
inductive BusAnswer where
  | none
  | done (data : Option W32)
  | error (reason : Nat)
  deriving DecidableEq, Repr

/-- A completion of the PCIe host port (R342, R464): success with the bytes of a read and its EP bit (R322), Configuration Request
Retry Status, Completer Abort, Unsupported Request. -/
inductive Completion where
  | none
  | success (data : List Byte) (poisoned : Bool)
  | retry
  | abort
  | unsupported
  deriving DecidableEq, Repr

/-- A request of the host that the port holds during a halt (R428). -/
inductive HostReq where
  | config (write : Bool) (off : BitVec 12) (data : W32)
  | read (bar off len : Nat) (enabled : Bool)
  | write (bar off : Nat) (bytes : List Byte) (enabled : Bool)
  deriving DecidableEq, Repr

/-- The PCIe host port beside its page (R464–R466): the writable parts of its configuration space by byte offset, the level of
PCIE_PERST_N, the last completion, the address and vector of the last MSI message, and the requests held. -/
structure Pci where
  cfg : Sparse W32
  perst : Bool
  reply : Completion
  msi : Option (Nat × Nat)
  held : List HostReq
  deriving DecidableEq, Repr

/-- The condition of a dual-rail comparator (R179, R200, R254, R267): sound, blind to every difference, or with an output that is no
valid complementary code. -/
inductive Comparator where
  | sound | blind | badCode
  deriving DecidableEq, Repr

/-- The whole state of the device, with the queue of waiting commands. -/
structure State where
  /-- the commands that wait, first in, first out -/
  pending : List Instr
  /-- how many free values have been drawn (log 2) -/
  free : Nat
  life : Life
  /-- every register with a stored value, by page * 512 + offset div 4 -/
  regs : Sparse W32
  /-- the registers as they stood at the last boundary: the values in effect where a write waits for the boundary -/
  eff : Sparse W32
  /-- the COR_ registers as they stood at the last interval start (R243) -/
  ivl : Sparse W32
  locks : Sparse PageLock
  dom : Sparse Power
  arr : Sparse Power
  /-- the request in effect of each bank array (R39, R301) -/
  arrReq : Sparse Power
  /-- the pages whose BLK_PWR.REQ has been written since the last boundary (R39) -/
  pwrAsked : Sparse Bool
  mem : Mem
  banks : Sparse Bank
  threads : Sparse Thread
  cores : Sparse Core
  ons : Ons
  crossings : Sparse Crossing
  tpl : Tipple
  aud : Audio
  nrg : Energy
  guard : Guard
  tri : Triad
  can : Canary
  /-- physical conditions, which no command changes (log 69): the comparators by target of R282; by replica, the bits of its signature, 63–0, and
  of the check byte, 71–64, that flip on the way to the voters (R266); and by Deputy pair, the bits that its delay registers flip in what the
  checker receives (R251) -/
  cmp : Sparse Comparator
  flips : Sparse (BitVec 72)
  delays : Sparse W32
  dep : Sparse Deputy
  cor : Sparse Correlator
  adit : Adit
  wnd : Sparse Winder
  scrub : Sparse (Option Scrub)
  /-- micro-store checks, true where failed: District d's last computation at d, the one in effect since a boundary at 4 + d (R144) -/
  ustoreBad : Sparse Bool
  decodes : Sparse (List DecodeReq)
  /-- the test panels of the banks, outside the physical map; none where no self-test has run (R327) -/
  panels : Sparse (Option Mem)
  dbg : Debug
  emu : Emulated
  pci : Pci
  /-- PMC_CNTk_HI as written and held, by 8 * page + k (R437) -/
  pmcHeld : Sparse (Option W32)
  /-- the answer to the last bus command -/
  answer : BusAnswer
  /-- the Bell sources asserted after the last command (R414, R434) -/
  bell : List Nat
  deriving DecidableEq, Repr

/-- The device right after a reset: a power-on reset is asserted, its cause has ended, and the 100 µs to release run (R442, log 3). Every
register holds its reset value, memory lists nothing, every domain and array is ON, no thread runs. -/
def State.reset : State :=
  { pending := [], free := 0
    life := { phase := .asserted, causes := 1, pinLow := false, supplyLow := false, ioLow := 0, refCount := false, booted := false, entry := 0,
              heldBoot := none }
    regs := [], eff := [], ivl := [], locks := [], dom := [], arr := [], arrReq := [], pwrAsked := []
    mem := { data := [], words := [], parity := [], flash := [], ustore := [] }
    banks := [], threads := [], cores := []
    ons := { runs := false, seg := .lamp, first := true, everActive := false, readyLate := false, tasks := [], admitted := 0, cutLog := [],
             verdicts := [], outcomes := [], owed := [], lastHewer := [] }
    crossings := []
    tpl := { table := [], health := [], bad := [], inDesc := [], outDesc := [], queue := [], gains := [], live := [], fill := [], mix := [],
             formed := [], inMem := [], colMem := [], first := [], skipped := [], compared := [], out := [], log := [] }
    aud := { tdm := [], capture := [], warm := [], micStuck := [], play := [], before := [], pwmClip := [], sense := [], refugeRise := false,
             refugeFall := false, refugeReturn := false, refugeSegment := 0, refugeSample := 0, hpf := [], streams := [], correction := 0, corrections := [] }
    nrg := { residue := [], fixTerms := [], recent := [], good := 0, bad := 0, asked := none, hourShifts := 0, vid := 50, vidPast := (50, 50), vidNeed := 50, ceil := [], surveyDue := [],
             domainDue := [] }
    guard := { safe := false, static := true, level := false, alive := false, relays := 0 }
    tri := { mode := 0, replicas := [], ckOpen := false, ckBoundary := false, targets := [], job := none, handOver := none }
    can := { requests := [], due := [] }
    cmp := [], flips := [], delays := []
    dep := [], cor := []
    adit := { grid := 0, pools := [], held := [], rx := [], frames := [], delivered := [], elim := [], tx := [], txCount := 0,
              txSeq := [], txFifo := [], begun := [], wire := [], shapers := [],
              ptp := { heard := [], syncRecent := false, offset := 0, slave := none, grandmaster := none, ports := [], queue := [], sent := none,
                       time := none } }
    wnd := [], scrub := [], ustoreBad := [], decodes := [], panels := []
    dbg := { resp := [], access := .none, wire := none, trace := [], bytes := [] }
    emu := { dom := [], arr := [], dormant := false }
    pci := { cfg := [], perst := true, reply := .none, msi := none, held := [] }
    pmcHeld := [], answer := .none, bell := [] }

end Sys2Proof.Machine
end

