-- ==== Sys2Proof/Machine/Ops.lean ====
section
/-!
DEFINITION. Sys2Proof/Machine/Ops.lean: the named operations over register pages: reading and setting a register, the
events and errors of the common header, power states, and the free values.
-/

namespace Sys2Proof.Machine

/-- The page indexes of the single pages of R30. -/
def pgOns : Nat := 0x100
def pgTpl : Nat := 0x101
def pgGat : Nat := 0x102
def pgCan : Nat := 0x103
def pgBel : Nat := 0x104
def pgLrm : Nat := 0x105
def pgWdg : Nat := 0x106
def pgFus : Nat := 0x107
def pgAon : Nat := 0x108
def pgDbg : Nat := 0x109
def pgRfg : Nat := 0x10A
def pgXsp : Nat := 0x10B
def pgPci : Nat := 0x10C
def pgPdm : Nat := 0x10D

/-- The page indexes of the multi-page blocks of R30: the first index plus the instance. -/
def pgHwr (n : Nat) : Nat := n
def pgWnd (d : Nat) : Nat := 0x020 + d
def pgBnk (b : Nat) : Nat := 0x040 + b
def pgMpu (c : Nat) : Nat := 0x080 + c
def pgEcc (g : Nat) : Nat := 0x0E0 + g
def pgScb (g : Nat) : Nat := 0x0F0 + g
def pgTdm (p : Nat) : Nat := 0x110 + p
def pgTly (q : Nat) : Nat := 0x120 + q
def pgAdt (i : Nat) : Nat := 0x140 + i
def pgOvm (i : Nat) : Nat := 0x160 + i
def pgDep (p : Nat) : Nat := 0x180 + p
def pgPwm (c : Nat) : Nat := 0x200 + c
def pgSns (c : Nat) : Nat := 0x260 + c
def pgCor (c : Nat) : Nat := 0x2C0 + c
def pgCrg (i : Nat) : Nat := 0x320 + i
def pgPmc (i : Nat) : Nat := 0x360 + i

/-- The maximum frequency of an island in kHz (R18); island 47's fast clock. -/
def islandMax (i : Nat) : Nat :=
  if i < 32 then 1536000 else if i < 36 then 768000 else if i < 39 then 1024000 else if i = 39 then 768000
  else if i = 40 then 1536000 else if i = 41 then 1536000 else if i = 42 then 192000 else if i = 43 then 196608
  else if i = 44 then 322270 else if i = 45 then 125000 else if i = 46 then 196608 else 24576

/-- The enable bits that R400 forces to 1 (R37). -/
def forcedEn : PageKind → Nat
  | .hwr => 0x26 | .ons => 0x100 | .wnd => 0x8 | .tpl => 0x282 | .gat => 0xC | .can => 0x2 | .ecc => 0x40
  | .adtShaper => 0x2 | .tly => 0x4 | .wdg => 0x16
  | _ => 0

/-- VSTART of an island (R392). -/
def startCode (i : Nat) : Nat := Config.vStart i % 51

/-- DSTEP of an island, never 0 (R391). -/
def startStep (i : Nat) : Nat := Config.dStep i % 255 + 1

/-- The reset value of the register at `off` of page `p`: the value of its table, and the values R35 and the chapters make
depend on the instance. -/
def resetReg (p off : Nat) : W32 :=
  match pageKind p with
  | none => 0
  | some (k, i) =>
    if off = 0x010 then w32 (forcedEn k)
    else if off = 0x018 then (if k = .bnk then 0xFF else 0)
    else if off = 0x01C then 0x2
    else if off < 0x040 then 0
    else if k = .bnk ∧ off = 0x040 then (if 32 ≤ i ∧ i < 48 then 0x3 else 0x2)
    else if k = .crg ∧ off = 0x040 then w32 (islandMax i)
    else if k = .crg ∧ off = 0x044 then w32 (startCode i * 0x4000000 + islandMax i)
    else if k = .crg ∧ off = 0x060 then w32 (startCode i * 0x4000000 + startStep i)
    else if k = .fus ∧ off = 0x040 then 0x00010001
    else if k = .fus ∧ off = 0x044 then 0xFF
    else if k = .fus ∧ off = 0x048 then w32 (4 + Config.variantFuses % 4)
    else if k = .fus ∧ 0x060 ≤ off ∧ off < 0x080 then w32 (numOf ((List.range 4).map fun b => Config.keyHash (off - 0x060 + b)))
    else if k = .dbg ∧ off = 0x040 then w32 (0x08000000 + Config.variantFuses / 2 % 2 * 0x10000000)
    else if k = .pci ∧ off = 0x040 then w32 (0x32960000 + Config.pciVendor % 0x10000)
    else if k = .lrm ∧ 0x600 ≤ off ∧ off < 0x6C0 then w32 (startCode ((off - 0x600) / 4) * 0x4000000 + 1000 * 0x10000)
    else match findDesc k off with
      | some d => w32 d.reset
      | none => 0

/-- The key of a register: page and word offset. -/
def regKey (p off : Nat) : Nat := p * 512 + off / 4

/-- The stored value of a register. -/
def State.reg (s : State) (p off : Nat) : W32 := sparseGet (resetReg p off) s.regs (regKey p off)

/-- The value of a register in effect since the last boundary. -/
def State.effReg (s : State) (p off : Nat) : W32 := sparseGet (resetReg p off) s.eff (regKey p off)

/-- The value of a COR_ register in effect since the last interval start (R243). -/
def State.ivlReg (s : State) (p off : Nat) : W32 := sparseGet (resetReg p off) s.ivl (regKey p off)

/-- The state with a register's stored value set. -/
def State.setReg (s : State) (p off : Nat) (v : W32) : State :=
  { s with regs := sparseSet (resetReg p off) s.regs (regKey p off) v }

/-- The state with a register's value in effect set. -/
def State.setEff (s : State) (p off : Nat) (v : W32) : State :=
  { s with eff := sparseSet (resetReg p off) s.eff (regKey p off) v }

/-- The state with one field of a register set. -/
def State.setFld (s : State) (p off lo w x : Nat) : State := s.setReg p off (putFld (s.reg p off) lo w x)

/-- A field of a register's stored value. -/
def State.getFld (s : State) (p off lo w : Nat) : Nat := fld (s.reg p off) lo w

/-- A field of a register's value in effect. -/
def State.effFld (s : State) (p off lo w : Nat) : Nat := fld (s.effReg p off) lo w

/-- A saturating field of a register, incremented. -/
def State.incSat (s : State) (p off lo w : Nat) : State := s.setFld p off lo w (satInc (2 ^ w - 1) (s.getFld p off lo w))

/-- A wrapping register, incremented. -/
def State.incReg (s : State) (p off : Nat) : State := s.setReg p off (s.reg p off + 1)

/-- The state with BLK_EVT bit `b` of a page set (R35). -/
def State.setEvt (s : State) (p b : Nat) : State := s.setFld p 0x00C b 1 1

/-- The state with BLK_EVT bit `b` set when `c` holds. -/
def State.setEvtIf (s : State) (c : Bool) (p b : Nat) : State := if c then s.setEvt p b else s

/-- ENABLE in effect (R35 BLK_STAT.ACTIVE). -/
def State.active (s : State) (p : Nat) : Bool := bit (s.effReg p 0x004) 0

/-- An error recorded on a page (R36): CODE and BLK_ERR_ADDR if none is recorded, COUNT, and ERR_EVT. -/
def recordError (p code addr : Nat) (s : State) : State :=
  let first := s.getFld p 0x020 0 8 = 0
  let s := if first then (s.setFld p 0x020 0 8 code).setReg p 0x024 (w32 addr) else s
  (s.incSat p 0x020 8 8).setEvt p 0

/-- The address of a register. -/
def regAddr (p off : Nat) : Nat := 0x10000000 + p * 0x1000 + off

/-- An error recorded for a refused register write: the full register address (R35 BLK_ERR_ADDR). -/
def refuseWrite (p off code : Nat) (s : State) : State := recordError p code (regAddr p off) s

/-- The lock of a page (R40). -/
def State.lockOf (s : State) (p : Nat) : PageLock := sparseGet .unlocked s.locks p

/-- A page is locked (R41). -/
def State.isLocked (s : State) (p : Nat) : Bool := decide (s.lockOf p = .locked)

/-- The state with a page's lock set. -/
def State.setLock (s : State) (p : Nat) (l : PageLock) : State := { s with locks := sparseSet .unlocked s.locks p l }

/-- The state of a power domain. -/
def State.domain (s : State) (d : Nat) : Power := sparseGet .on s.dom d

/-- The state of a bank array. -/
def State.array (s : State) (b : Nat) : Power := sparseGet .on s.arr b

/-- The state with a power domain's state set. -/
def State.setDomain (s : State) (d : Nat) (v : Power) : State := { s with dom := sparseSet .on s.dom d v }

/-- The state with a bank array's state set. -/
def State.setArray (s : State) (b : Nat) (v : Power) : State := { s with arr := sparseSet .on s.arr b v }

/-- The power domain of bank `b`'s logic (R22). -/
def bankDomain (b : Nat) : Nat :=
  if b < 32 then b else if b < 48 then b else if b < 51 then b else 51

/-- The domain that holds a page's registers at 0x040–0x7FF (R12, R22, R33); none where its block spans several domains
(the ledgers and scrubbers of a bank group, the gauges of island 42, a Tally pool, whose banks follow TLY_CFG.BASE, and the bandwidth monitors,
whose units lie in many domains), which then always answer: DESIGN CHOICE (log 5). -/
def pageDomain : PageKind → Nat → Option Nat
  | .hwr, n => some n
  | .wnd, d => some (32 + 4 * d)
  | .bnk, b => some (bankDomain b)
  | .mpu, c => some (if c < 52 then bankDomain c else if c < 76 then 52 + (c - 52) / 4 else 51)
  | .tpl, _ => some 61
  | .rfg, _ => some 62
  | .lrm, _ => some 63
  | .aon, _ => some 63
  | .dbg, _ => some 63
  | .pdm, _ => some 60
  | .tdm, _ => some 60
  | .pwm, _ => some 60
  | .sns, _ => some 60
  | .tly, _ => none
  | .adtPort, i => some (if i < 2 then 58 else 59)
  | .adtParser, _ => some 58
  | .adtPtp, _ => some 58
  | .adtShaper, _ => some 58
  | .adtCb, _ => some 58
  | .adtRx, _ => some 58
  | .adtTx, _ => some 58
  | .ovmRep, r => some (48 + r)
  | .dep, p => some (52 + p / 4)
  | .cor, c => some (52 + c / 16)
  | .crg, i => if i < 32 then some i else if i < 36 then some (32 + 4 * (i - 32)) else if i < 39 then some (12 + i)
    else if i = 39 then some 51 else if i = 40 then some 61 else if i = 41 then some 60 else if i = 43 then some 60
    else if i = 44 then some 58 else if i = 45 then some 59 else if i = 46 then some 62 else if i = 47 then some 63 else none
  | .pmcHewer, i => some (i - 1)
  | .pmcUnit, i => some (if i < 36 then 15 + i else 61)
  | .pmcBw, _ => none
  | .ecc, _ => none
  | .scb, _ => none
  | _, _ => some 51

/-- A page's domain is ON, so that its registers at 0x040–0x7FF answer (R33). -/
def pageOn (p : Nat) (s : State) : Bool :=
  match pageKind p with
  | none => false
  | some (k, i) =>
    match pageDomain k i with
    | none => true
    | some d => decide (s.domain d = .on)

/-- The two-bit code of a power state (R35 BLK_PWR). -/
def powerCode : Power → Nat
  | .off => 0
  | .retain => 1
  | .on => 2

/-- The power state a page's STATE reports (R39): the bank array on a BNK_ page, else the page's own domain. -/
def pagePower (p : Nat) (s : State) : Power :=
  match pageKind p with
  | some (.bnk, b) => s.array b
  | some (k, i) =>
    match pageDomain k i with
    | none => .on
    | some d => s.domain d
  | none => .off

/-- What a page's BLK_PWR.REQ controls (R39). -/
inductive PowerUnit where
  | nothing
  | domain (d : Nat)
  | array (b : Nat)
  /-- Stope bank k: array and domain together -/
  | both (d b : Nat)
  deriving DecidableEq, Repr

/-- The unit table of R39. -/
def powerUnit (p : Nat) : PowerUnit :=
  match pageKind p with
  | some (.hwr, n) => .domain n
  | some (.bnk, b) => if b < 32 then .array b else if b < 48 then .both b b else if b < 51 then .array b else .nothing
  | some (.ovmRep, r) => .domain (48 + r)
  | some (.dep, q) => if q % 4 = 0 then .domain (52 + q / 4) else .nothing
  | some (.adtPort, i) => if i = 0 then .domain 58 else if i = 2 then .domain 59 else .nothing
  | some (.tdm, i) => if i = 0 then .domain 60 else .nothing
  | some (.tpl, _) => .domain 61
  | _ => .nothing

/-- A number that nothing constrains, drawn from the counter of free values (log 2). -/
def drawFree (s : State) : Nat × State := (s.free, { s with free := s.free + 1 })

/-- A free value below `n`, for a value of at most that many that the manual leaves open (log 2). -/
def freeBelow (n : Nat) (s : State) : Nat × State := (Config.freeValue s.free % n, { s with free := s.free + 1 })

/-- The shift-timer steps of a part of the shift: its first, and how many (R45, R48). -/
def segmentSteps : Segment → Nat × Nat
  | .intake => (0, 61440)
  | .primary => (61440, 445440)
  | .shadow => (506880, 445440)
  | .verdict => (952320, 46080)
  | .drain => (998400, 22272)
  | .cutoff => (1020672, 768)
  | .lamp => (1021440, 2560)

/-- The shift timer's step of a moment of the present part of the shift: which one is open (log 2); 0 while it stands (R71, log 47). -/
def stepNow (s : State) : Nat × State :=
  if s.ons.runs then
    let steps := segmentSteps s.ons.seg
    let r := freeBelow steps.2 s
    (steps.1 + r.1, r.2)
  else (0, s)

/-- The number of the present shift (R71 ONS_SHIFT_NO). -/
def shiftNo (s : State) : W32 := s.reg pgOns 0x04C

/-- 96 kHz mode in effect (R71). -/
def rate96 (s : State) : Bool := bit (s.effReg pgOns 0x004) 16

/-- The block length b in effect (R45). -/
def blockLen (s : State) : Nat := if rate96 s then 64 else 32

/-- Thread `t` of core `c`, by 4 * c + t. -/
def hartKey (h : Hart) : Nat := 4 * h.core.val + h.thread.val

/-- The Hewer number of a core, if it is a Hewer. -/
def isHewer (h : Hart) : Bool := decide (h.core.val < 32)

/-- The replica of an Overman core: 0 for A. -/
def replicaOf (h : Hart) : Nat := h.core.val - 32

/-- A thread nothing has been dispatched to. -/
def idleThread : Thread :=
  { a := [], d := [], x := [], p := [], s := [], pc := 0, rc := 0, bn := 0, sr := 0, xsr := 0, xpc := 0, xcause := 0,
    xinfo := 0, latch := [], buf := [], hold := .none, rep := none, accepted := [], block := none, lock := ⟨0, [], [], false⟩, entering := none, agreed := none,
    resume := none, afterRetx := false, sig := ⟨0, 0, false⟩, running := false, retired := 0, lineBuf := [], parked := [] }

/-- A core right after a reset. -/
def idleCore : Core :=
  { lockup := false, stores := [], cache := [], pinExc := none, pinInt := none, pinned := false, excDue := false, intDue := false, mmLog := [],
    quarantineDue := false, wasOff := false }

/-- A bank port right after a reset: owner 0xFF (R35 BLK_OWNER). -/
def idleBank : Bank := ⟨0xFF, false, none, none⟩

/-- A Winder channel right after a reset. -/
def idleWinder : Winder := ⟨false, false, none, 0, false⟩

/-- A thread of the state. -/
def State.thread (s : State) (h : Hart) : Thread := sparseGet idleThread s.threads (hartKey h)

/-- The state with a thread replaced. -/
def State.setThread (s : State) (h : Hart) (t : Thread) : State :=
  { s with threads := sparseSet idleThread s.threads (hartKey h) t }

/-- A core of the state. -/
def State.core (s : State) (c : Nat) : Core := sparseGet idleCore s.cores c

/-- The state with a core replaced. -/
def State.setCore (s : State) (c : Nat) (v : Core) : State := { s with cores := sparseSet idleCore s.cores c v }

/-- A bank port of the state. -/
def State.bank (s : State) (b : Nat) : Bank := sparseGet idleBank s.banks b

/-- The state with a bank port replaced. -/
def State.setBank (s : State) (b : Nat) (v : Bank) : State := { s with banks := sparseSet idleBank s.banks b v }

/-- A Winder channel of the state, by 16 * district + channel. -/
def State.winder (s : State) (i : Nat) : Winder := sparseGet idleWinder s.wnd i

/-- The state with a Winder channel replaced. -/
def State.setWinder (s : State) (i : Nat) (v : Winder) : State := { s with wnd := sparseSet idleWinder s.wnd i v }

/-! ### Comparators -/

/-- The condition of the comparator of a Canary target (R282, log 69). -/
def State.comparator (s : State) (k : Nat) : Comparator := sparseGet .sound s.cmp k

/-- What a comparator shows of two values that are equal or not: a blind one shows every pair equal, a bad code shows none (log 69). -/
def Comparator.shows (c : Comparator) (equal : Bool) : Bool :=
  match c with
  | .sound => equal
  | .blind => true
  | .badCode => false

end Sys2Proof.Machine
end

