-- ==== Sys2Proof/Machine/MemOps.lean ====
section
/-!
DEFINITION. Sys2Proof/Machine/MemOps.lean: the words of the banks (R298, R299), the word code (R313, R314), the panel code
and its decoder (R316–R319), poison marks (R321) and the ledger (R323).
-/

namespace Sys2Proof.Machine

/-! ### Banks, groups and panels -/

/-- The bank that holds a physical address: 0–51 by BNK_ page, 52 + p for the Deputy memory of pair p (R27, R30). -/
def bankOf (a : Nat) : Option Nat :=
  if a < 0x01000000 then some (a / 0x80000)
  else if a < 0x02000000 then some (32 + (a - 0x01000000) / 0x100000)
  else if a < 0x02800000 then some (48 + (a - 0x02000000) / 0x200000)
  else if 0x03000000 ≤ a ∧ a < 0x03180000 then some (52 + (a - 0x03000000) / 0x10000)
  else none

/-- The lowest address of a bank. -/
def bankBase (b : Nat) : Nat :=
  if b < 32 then b * 0x80000 else if b < 48 then 0x01000000 + (b - 32) * 0x100000
  else if b < 52 then 0x02000000 + (b - 48) * 0x200000 else 0x03000000 + (b - 52) * 0x10000

/-- The size of a bank in bytes (R290). -/
def bankSize (b : Nat) : Nat :=
  if b < 32 then 0x80000 else if b < 48 then 0x100000 else if b < 52 then 0x200000 else 0x10000

/-- The bank group of a bank (R30). -/
def groupOfBank (b : Nat) : Nat := if b < 32 then b / 8 else if b < 48 then 4 + (b - 32) / 4 else if b < 52 then 8 else 9

/-- The lowest address of a bank group (R324). -/
def groupBase (g : Nat) : Nat :=
  if g < 4 then g * 0x400000 else if g < 8 then 0x01000000 + (g - 4) * 0x400000 else if g = 8 then 0x02000000 else 0x03000000

/-- The panels of a bank group (R329 ECC_RETIREw). -/
def groupPanels (g : Nat) : Nat := if g < 8 then 1024 else if g = 8 then 2048 else 384

/-- The bank group of a physical address. -/
def groupOf (a : Nat) : Nat :=
  match bankOf a with
  | some b => groupOfBank b
  | none => 0

/-- The panel at an address is retired (R324). -/
def panelRetired (a : Nat) (s : State) : Bool :=
  let g := groupOf a
  let q := (a - groupBase g) / 4096
  bit (s.reg (pgEcc g) (0x400 + 4 * (q / 32))) (q % 32)

/-! ### The word code -/

/-- The columns h(0)–h(63) of R313. -/
def eccColumns : List Byte := [
  0x07, 0x0B, 0x0D, 0x0E, 0x13, 0x15, 0x16, 0x19, 0x1A, 0x1C, 0x23, 0x25, 0x26, 0x29, 0x2A, 0x2C,
  0x31, 0x32, 0x34, 0x38, 0x43, 0x45, 0x46, 0x49, 0x4A, 0x4C, 0x51, 0x52, 0x54, 0x58, 0x61, 0x62,
  0x64, 0x68, 0x70, 0x83, 0x85, 0x86, 0x89, 0x8A, 0x8C, 0x91, 0x92, 0x94, 0x98, 0xA1, 0xA2, 0xA4,
  0xA8, 0xB0, 0xC1, 0xC2, 0xC4, 0xC8, 0xD0, 0xE0, 0x1F, 0x2F, 0x37, 0x3B, 0x3D, 0x3E, 0x4F, 0x57]

/-- The poison column hP of R313. -/
def eccPoison : Byte := 0x5B

/-- The exclusive or of the columns of the set bits. -/
def eccFold : List Byte → W64 → Byte
  | [], _ => 0
  | c :: rest, d => (if d.getLsbD 0 then c else 0) ^^^ eccFold rest (d >>> 1)

/-- The check byte of a word's data, without the poison column (R313). -/
def checkOf (d : W64) : Byte := eccFold eccColumns d

/-- The class of a read word (R314). -/
inductive WordClass where
  | clean
  | marked
  | singleData (j : Nat)
  | singleCheck
  | multi
  deriving DecidableEq, Repr

/-- Position of a column in a list. -/
def columnIndex : List Byte → Byte → Nat → Option Nat
  | [], _, _ => none
  | c :: rest, s, j => if c = s then some j else columnIndex rest s (j + 1)

/-- A byte with exactly one bit set. -/
def oneBit (b : Byte) : Bool := decide (b ∈ [0x01#8, 0x02#8, 0x04#8, 0x08#8, 0x10#8, 0x20#8, 0x40#8, 0x80#8])

/-- Classification by the syndrome (R314). -/
def classify (d : W64) (c : Byte) : WordClass :=
  let s := c ^^^ checkOf d
  if s = 0 then .clean
  else if s = eccPoison then .marked
  else if oneBit s then .singleCheck
  else match columnIndex eccColumns s 0 with
    | some j => .singleData j
    | none => .multi

/-! ### Stored words -/

/-- What an unlisted word holds beside its data: both maps 0 and no check bits. -/
def noWord : WordMeta := ⟨false, false, 0⟩

/-- A byte of the banks as stored. -/
def Mem.byte (m : Mem) (a : Nat) : Byte := sparseGet 0 m.data a

/-- What the memory keeps beside a word's data. -/
def Mem.info (m : Mem) (w : Nat) : WordMeta := sparseGet noWord m.words w

/-- The 64 data bits of a word as stored. -/
def Mem.raw (m : Mem) (w : Nat) : W64 := BitVec.ofNat 64 (numOf ((List.range 8).map fun i => m.byte (8 * w + i)))

/-- A word counts as valid where either map holds 1 (R298, R299). -/
def Mem.valid (m : Mem) (w : Nat) : Bool := (m.info w).validA || (m.info w).validB

/-- A word after single correction: its class, its data, its mark; an invalid word is clean and 0 (R298, R314). -/
def Mem.decoded (m : Mem) (w : Nat) : WordClass × W64 × Bool :=
  if m.valid w then
    let d := m.raw w
    match classify d (m.info w).check with
    | .singleData j => (.singleData j, d ^^^ (1#64 <<< j), false)
    | .marked => (.marked, d, true)
    | c => (c, d, false)
  else (.clean, 0, false)

/-- A word meets MULTI on a read. -/
def Mem.isMulti (m : Mem) (w : Nat) : Bool := decide ((m.decoded w).1 = .multi)

/-- Bytes put at rising addresses. -/
def putBytes (c : List Host.Cell) : Nat → List Byte → List Host.Cell
  | _, [] => c
  | a, b :: rest => putBytes (sparseSet 0 c a b) (a + 1) rest

/-! ### The panel code -/

/-- Multiplication by x in GF(2^8) of R316 in each of the eight bytes of a word. -/
def gfX (v : W64) : W64 :=
  ((v &&& 0x7F7F7F7F7F7F7F7F#64) <<< 1) ^^^ (((v >>> 7) &&& 0x0101010101010101#64) * 0x1D#64)

/-- The first `n` bits of `c` times each byte of `v`. -/
def gfScaleBits : Nat → Byte → W64 → W64
  | 0, _, _ => 0
  | n + 1, c, v => (if c.getLsbD 0 then v else 0) ^^^ gfScaleBits n (c >>> 1) (gfX v)

/-- `c` times each byte of `v` in GF(2^8) (R316). -/
def gfScale (c : Byte) (v : W64) : W64 := gfScaleBits 8 c v

/-- Product in GF(2^8). -/
def gfMul (a b : Byte) : Byte := (gfScale a (b.zeroExtend 64)).truncate 8

/-- `a` to the power `n` in GF(2^8). -/
def gfPow (a : Byte) : Nat → Byte
  | 0 => 1
  | n + 1 => gfMul a (gfPow a n)

/-- The inverse in GF(2^8). -/
def gfInv (a : Byte) : Byte :=
  let a2 := gfMul a a; let a4 := gfMul a2 a2; let a8 := gfMul a4 a4; let a16 := gfMul a8 a8
  let a32 := gfMul a16 a16; let a64 := gfMul a32 a32; let a128 := gfMul a64 a64
  gfMul a2 (gfMul a4 (gfMul a8 (gfMul a16 (gfMul a32 (gfMul a64 a128)))))

/-- One symbol's step of the division by g(x) = x^4 + 0x0F x^3 + 0x36 x^2 + 0x78 x + 0x40 (R316), for eight interleaves
at once: the remainder with p_0 first. -/
def rsStep (r : W64 × W64 × W64 × W64) (d : W64) : W64 × W64 × W64 × W64 :=
  let f := r.1 ^^^ d
  (r.2.1 ^^^ gfScale 0x0F f, r.2.2.1 ^^^ gfScale 0x36 f, r.2.2.2 ^^^ gfScale 0x78 f, gfScale 0x40 f)

/-- x^(131 − k) mod g(x) for k = 0–127: p_0 in the highest byte (R316). -/
def rsCoefficients : List W32 :=
  [
    0x613FBBE4, 0x55459786, 0xB6A93A24, 0x56835B8F, 0x2DE04E82, 0x6E6D7674, 0x109E2AA5, 0x62147D0A,
    0xC15921B8, 0x66F962FC, 0xBFED1D4E, 0x18370729, 0x15DB9E51, 0x70FF139D, 0x06524B1E, 0x5E4B0D19,
    0xDCDE7A79, 0x53DAC24A, 0xC067D97F, 0xE72468AA, 0x4D4B6661, 0xB9E41B47, 0x837BBC45, 0xEF1FD928,
    0x2303CBEA, 0x4C8077BA, 0x0A2A4160, 0x8F8C0705, 0xEE1C18EB, 0x7A62150C, 0x75A34493, 0x1FD0CB05] ++ [
    0xEE8C4427, 0x0CAAF95E, 0x5F4EC3D3, 0x1EF510FA, 0x0B77027F, 0xE7EF7871, 0xFE843C47, 0x833CDC62,
    0xE35BEB52, 0x2A781447, 0x83E8204A, 0xC0B7EB9D, 0x06E203E6, 0x397CB0F4, 0x12D75793, 0x1FB7BF16,
    0xF33727E2, 0xE1358C59, 0xDD6E3280, 0x02C302C2, 0x6F4D6340, 0x01607B1B, 0xB0DFABC5, 0xED3211CF,
    0x2C54C9B0, 0xCB71A01B, 0xB015BA1E, 0x5EFD4AE8, 0x20A373F1, 0xFC5D1CBC, 0xBE788F48, 0xACD481F8] ++ [
    0x679BD924, 0x5652696C, 0xFA0959AB, 0x7B793635, 0x27AB75F8, 0x6710A6D0, 0x44BCC930, 0xC90724EB,
    0x7A450E30, 0xC939DD2C, 0xFB990467, 0x0DB0DA66, 0x3B698EDD, 0x0716EBFB, 0x3D419CE1, 0xBB8A7D4D,
    0x4242E7E6, 0x39381010, 0x47F3BB0E, 0x19C02FF7, 0x48866CA3, 0xD6AE760F, 0x2F7E0F5F, 0x69426A40,
    0x01667412, 0x2B951FA0, 0x8CBCE2D3, 0x1E26E2DB, 0xB3D1B7D4, 0x9CD4E1A8, 0x216E6C22, 0xE2F68F9A] ++ [
    0x840D2CA4, 0x54AF9369, 0x149830BD, 0x88BF3701, 0x36A7C252, 0x2AADE86E, 0x962B5CE0, 0x8D0E6AE8,
    0x207080D1, 0x72D4D473, 0x924FFD21, 0xB83429A4, 0x5493AA6C, 0xFA0B9868, 0x2219E9D3, 0x1E8847D0,
    0x44C551D1, 0x72B061A2, 0xE0BB3D67, 0x0DABF85F, 0x6960BFB7, 0x49F9FA4B, 0xF6528722, 0xE221B371,
    0xFE81F28C, 0x7739CB84, 0xDAD5BCB2, 0xA7D9DBA4, 0x548C479E, 0x5C07BFE5, 0x6357D2E7, 0x0F367840]

/-- The coefficient of p_m for data symbol k. -/
def rsCoefficient (k m : Nat) : Byte := BitVec.ofNat 8 (fld (rsCoefficients.getD k 0) (24 - 8 * m) 8)

/-- A parity word as stored. -/
def Mem.parityWord (m : Mem) (panel i : Nat) : BitVec 72 := sparseGet 0 m.parity (16 * panel + i)

/-- The memory with a difference put into one parity word; its check bits follow (the word code is linear). -/
def Mem.xorParity (m : Mem) (panel i : Nat) (d : W64) : Mem :=
  { m with parity := sparseSet 0 m.parity (16 * panel + i) (m.parityWord panel i ^^^ ((checkOf d).append d)) }

/-- The memory with a panel's parity updated by the difference of one data word (R317). -/
def Mem.updateParity (m : Mem) (w : Nat) (diff : W64) : Mem :=
  if diff = 0 then m else
    let panel := w / 512
    let k := w % 512 / 4
    let c := w % 4
    (((m.xorParity panel c (gfScale (rsCoefficient k 0) diff)).xorParity panel (4 + c)
      (gfScale (rsCoefficient k 1) diff)).xorParity panel (8 + c)
      (gfScale (rsCoefficient k 2) diff)).xorParity panel (12 + c) (gfScale (rsCoefficient k 3) diff)

/-- The memory with a word stored: its data, both maps 1, and its check byte, with the poison column if marked (R313). -/
def Mem.putWord (m : Mem) (w : Nat) (d : W64) (poison : Bool) : Mem :=
  { m with data := putBytes m.data (8 * w) (bytesOf 8 d.toNat)
           words := sparseSet noWord m.words w ⟨true, true, checkOf d ^^^ (if poison then eccPoison else 0)⟩ }

/-- The parity of one group of eight interleaves, from the data words of a panel. -/
def Mem.encodeGroup (m : Mem) (panel c : Nat) : W64 × W64 × W64 × W64 :=
  (List.range 128).foldl (fun r t => rsStep r (m.decoded (512 * panel + 4 * t + c)).2.1) (0, 0, 0, 0)

/-- A parity word with its own check byte. -/
def parityWordOf (d : W64) : BitVec 72 := (checkOf d).append d

/-- The memory with the parity of one group of interleaves rewritten. -/
def Mem.putGroupParity (m : Mem) (panel c : Nat) (r : W64 × W64 × W64 × W64) : Mem :=
  let put (q : Sparse (BitVec 72)) (i : Nat) (d : W64) := sparseSet 0 q (16 * panel + i) (parityWordOf d)
  { m with parity := put (put (put (put m.parity c r.1) (4 + c) r.2.1) (8 + c) r.2.2.1) (12 + c) r.2.2.2 }

/-- The memory with a panel's parity made that of its stored data. -/
def Mem.rebuildParity (m : Mem) (panel : Nat) : Mem :=
  (List.range 4).foldl (fun m c => m.putGroupParity panel c (m.encodeGroup panel c)) m

/-- The panel's stored parity is that of its decoded data (R326 PARITY). -/
def Mem.parityMatches (m : Mem) (panel : Nat) : Bool :=
  (List.range 4).all fun c =>
    let r := m.encodeGroup panel c
    decide (m.parityWord panel c = parityWordOf r.1) && decide (m.parityWord panel (4 + c) = parityWordOf r.2.1)
      && decide (m.parityWord panel (8 + c) = parityWordOf r.2.2.1) && decide (m.parityWord panel (12 + c) = parityWordOf r.2.2.2)

/-! ### Panel decoding -/

/-- The locator α^(131 − t) of codeword position `t`. -/
def rsLocator (t : Nat) : Byte := gfPow 0x02 (131 - t)

/-- Error values at given positions from syndromes, by elimination of one position after the other; none if the syndromes
left over are not 0. -/
def rsSolve : List Nat → List Byte → Option (List (Nat × Byte))
  | [], syn => if syn.all (· = 0) then some [] else none
  | p :: rest, syn =>
    let x := rsLocator p
    let next := List.zipWith (fun a b => b ^^^ gfMul x a) syn syn.tail
    match rsSolve rest next with
    | none => none
    | some ys =>
      let vals := ys.map fun (q, y) => (q, gfMul y (gfInv (rsLocator q ^^^ x)))
      some ((p, vals.foldl (fun acc (_, y) => acc ^^^ y) (syn.headD 0)) :: vals)

/-- The four syndromes of a codeword, position 0 first. -/
def rsSyndromes (syms : List Byte) : List Byte :=
  (List.range 4).map fun j => syms.foldl (fun acc b => gfMul acc (gfPow 0x02 j) ^^^ b) 0

/-- The corrections of one interleave with the given erasures, when 2e + f ≤ 4 allows one (R318 step 3). -/
def rsDecode (erased : List Nat) (syn : List Byte) : Option (List (Nat × Byte)) :=
  if 4 < erased.length then none else
  match rsSolve erased syn with
  | some ys => some ys
  | none =>
    if 2 < erased.length then none else
    match (List.range 132).findSome? (fun p => if p ∈ erased then none else rsSolve (p :: erased) syn) with
    | some ys => some ys
    | none =>
      if erased.length = 0 then
        (List.range 132).findSome? fun p => (List.range p).findSome? fun q => rsSolve [p, q] syn
      else none

/-- A word of the panel under decoding: its class, and its data after single correction. -/
structure PanelWord where
  cls : WordClass
  bits : W64
  deriving DecidableEq, Repr

/-- Word `t` of a group of eight interleaves: a data word, or a parity word from 128 on. -/
def Mem.panelWord (m : Mem) (panel c t : Nat) : PanelWord :=
  if t < 128 then
    let d := m.decoded (512 * panel + 4 * t + c)
    ⟨d.1, d.2.1⟩
  else
    let v := m.parityWord panel (4 * (t - 128) + c)
    let d : W64 := v.truncate 64
    match classify d ((v >>> 64).truncate 8) with
    | .singleData j => ⟨.singleData j, d ^^^ (1#64 <<< j)⟩
    | cl => ⟨cl, d⟩

/-- Byte `i` of a word. -/
def wordByte (d : W64) (i : Nat) : Byte := (d >>> (8 * i)).truncate 8

/-- What decoding one group of interleaves finds: the words, the corrections of each of its eight interleaves. -/
structure GroupDecode where
  words : List PanelWord
  fixes : List (Option (List (Nat × Byte)))
  deriving DecidableEq, Repr

/-- The word without its single correction. -/
def PanelWord.stored (w : PanelWord) : W64 := match w.cls with
  | .singleData j => w.bits ^^^ (1#64 <<< j)
  | _ => w.bits

/-- The eight interleaves of a group decoded, with the words that `erased` names as erasures. -/
def decodeWords (ws : List PanelWord) (erased : PanelWord → Bool) : GroupDecode :=
  let es := (List.range 132).filter fun t => erased (ws.getD t ⟨.clean, 0⟩)
  ⟨ws, (List.range 8).map fun i => rsDecode es (rsSyndromes (ws.map fun w => wordByte w.bits i))⟩

/-- Some interleave of the group failed. -/
def GroupDecode.failed (g : GroupDecode) : Bool := g.fixes.any (·.isNone)

/-- Word `t` with the corrections of the interleaves that succeeded. -/
def GroupDecode.fixed (g : GroupDecode) (t : Nat) : W64 :=
  (List.range 8).foldl (fun d i =>
    match g.fixes.getD i none with
    | none => d
    | some ys => ys.foldl (fun d (q, y) => if q = t then d ^^^ (y.zeroExtend 64 <<< (8 * i)) else d) d)
    (g.words.getD t ⟨.clean, 0⟩).bits

/-- The stored check byte of data word `t` of a group against the one of the data decoded for it (R319). -/
def Mem.recheck (m : Mem) (panel c : Nat) (g : GroupDecode) (t : Nat) : Byte := (m.info (512 * panel + 4 * t + c)).check ^^^ checkOf (g.fixed t)

/-- Every interleave of the group is resolved, and the check byte of each word that is changed bears it out (R319). -/
def Mem.bearsOut (m : Mem) (panel c : Nat) (g : GroupDecode) : Bool :=
  !g.failed && (List.range 128).all fun t =>
    let r := m.recheck panel c g t
    decide (g.fixed t = (g.words.getD t ⟨.clean, 0⟩).bits) || decide (r = 0) || oneBit r || decide (r = eccPoison) || oneBit (r ^^^ eccPoison)

/-- Decoding of one group of interleaves (R318 steps 1–3). Where that leaves an interleave unresolved or a word unborne, every word of a non-zero
syndrome is taken for an erasure instead, with which the decoder repairs each burst that R320 names, one whose parts pass for SINGLE words
included (R327 step 6): DEDUCED (log 80). -/
def Mem.decodeGroup (m : Mem) (panel c : Nat) : GroupDecode :=
  let ws := (List.range 132).map (m.panelWord panel c)
  let g := decodeWords ws fun w => decide (w.cls = .multi)
  if m.bearsOut panel c g then g
  else
    let wide := decodeWords (ws.map fun w => ⟨w.cls, w.stored⟩) fun w => decide (w.cls ≠ .clean)
    if m.bearsOut panel c wide then wide else g

/-- The memory with data word `t` of a group written back (R318 step 4, R319), and whether a failed decode poisoned it. -/
def Mem.writeBack (m : Mem) (panel c : Nat) (g : GroupDecode) (t : Nat) : Mem × Bool :=
  let w := 512 * panel + 4 * t + c
  let old := g.words.getD t ⟨.clean, 0⟩
  let d := g.fixed t
  if old.cls = .multi ∨ d ≠ old.bits then
    if g.failed then (m.putWord w d true, true)
    else
      let r := m.recheck panel c g t
      (m.putWord w d (!(decide (r = 0) || oneBit r)), false)
  else match old.cls with
    | .singleData _ => (m.putWord w d false, false)
    | .singleCheck => (m.putWord w d false, false)
    | _ => (m, false)

/-- The memory after all write-backs of a group, and how many words a failed decode poisoned. -/
def Mem.writeBackGroup (m : Mem) (panel c : Nat) (g : GroupDecode) : Mem × Nat :=
  (List.range 128).foldl (fun (acc : Mem × Nat) t =>
    let r := acc.1.writeBack panel c g t
    (r.1, acc.2 + b2n r.2)) (m, 0)

/-! ### The ledger -/

/-- The kinds of ledger entry (R329 ECC_LEDGi_INFO): PARITY for a parity word's SINGLE correction and for a parity rewritten by the
scrubber; and the retired panel's hit, for which the manual gives no code. -/
inductive EccKind where
  | corr | panelRep | uncorr | parityCorr | parity | retired
  deriving DecidableEq, Repr

/-- Where a ledger entry comes from. -/
inductive EccSource where
  | access | scrub | rebuild
  deriving DecidableEq, Repr

def eccKindCode : EccKind → Nat
  | .corr => 1 | .panelRep => 2 | .uncorr => 3 | .parityCorr => 4 | .parity => 4 | .retired => Config.retiredKind % 8

def eccSourceCode : EccSource → Nat
  | .access => 0 | .scrub => 1 | .rebuild => 2

/-- The word address register and the content register of ledger entry `i`. -/
def ledgerAddr (p i : Nat) (s : State) : Nat := (s.reg p (0x200 + 8 * i)).toNat
def ledgerInfo (p i : Nat) (s : State) : W32 := s.reg p (0x204 + 8 * i)

/-- The valid entries of a ledger. -/
def ledgerUsed (p : Nat) (s : State) : Nat := ((List.range 64).filter fun i => bit (ledgerInfo p i s) 31).length

/-- The CORR entry with the lowest COUNT, the lowest index among equals. -/
def ledgerVictim (p : Nat) (s : State) : Option Nat :=
  (List.range 64).foldl (fun best i =>
    let v := ledgerInfo p i s
    if bit v 31 && decide (fld v 28 3 = 1) then
      match best with
      | none => some i
      | some j => if fld v 0 16 < fld (ledgerInfo p j s) 0 16 then some i else best
    else best) none

/-- The content of a new entry. -/
def ledgerNew (kind src : Nat) (shift : W32) : W32 :=
  w32 (0x80000000 + kind * 0x10000000 + src * 0x4000000 + fld shift 0 10 * 0x10000 + 1)

/-- A ledger with entry `i` written anew. -/
def ledgerWrite (p i addr kind src : Nat) (s : State) : State :=
  let s := (s.setReg p (0x200 + 8 * i) (w32 (addr / 8 * 8))).setReg p (0x204 + 8 * i) (ledgerNew kind src (shiftNo s))
  s.setFld p 0x048 0 7 (ledgerUsed p s)

/-- A ledger that drops an event. -/
def ledgerDrop (p : Nat) (s : State) : State := (s.incSat p 0x048 16 16).setEvt p 4

/-- The entry an event makes (R323). -/
def ledgerRecord (p kind src addr : Nat) (s : State) : State :=
  match (List.range 64).find? (fun i => bit (ledgerInfo p i s) 31 && decide (fld (ledgerInfo p i s) 28 3 = kind)
      && decide (ledgerAddr p i s = addr / 8 * 8)) with
  | some i => ((s.setFld p (0x204 + 8 * i) 0 16 (satInc 65535 (fld (ledgerInfo p i s) 0 16))).setFld p (0x204 + 8 * i) 16 10
      (fld (shiftNo s) 0 10))
  | none =>
    match (List.range 64).find? (fun i => !bit (ledgerInfo p i s) 31) with
    | some i => ledgerWrite p i addr kind src s
    | none =>
      if kind = 1 ∨ kind = 4 then ledgerDrop p s
      else match ledgerVictim p s with
        | some i => ledgerWrite p i addr kind src s
        | none => ledgerDrop p s

/-- An event of R314, R318 or R324 at an address: ECC_CNT, the event bit of R329 and the ledger entry. -/
def eccEvent (kind : EccKind) (src : EccSource) (addr : Nat) (s : State) : State :=
  let p := pgEcc (groupOf addr)
  let s := match kind with
    | .corr => (s.incSat p 0x040 16 16).setEvt p 1
    | .panelRep => (s.incSat p 0x040 8 8).setEvt p 2
    | .uncorr => (s.incSat p 0x040 0 8).setEvt p 3
    | .parityCorr => (s.incSat p 0x040 16 16).setEvt p 1
    | .parity => s
    | .retired => recordError p 0x41 addr (s.setEvt p 7)
  ledgerRecord p (eccKindCode kind) (eccSourceCode src) addr s

/-! ### Words of the state -/

/-- The state with its memory replaced. -/
def State.setMem (s : State) (m : Mem) : State := { s with mem := m }

/-- A word whose maps disagree is taken as valid from here on, and VALID_MISMATCH is recorded with the word's address (R299): in
BLK_ERR_ADDR while no error is recorded there, as the event has no error code (log 65). -/
def touchValid (w : Nat) (s : State) : State :=
  let i := s.mem.info w
  if i.validA = i.validB then s
  else
    let s := s.setMem { s.mem with words := sparseSet noWord s.mem.words w ⟨true, true, i.check⟩ }
    match bankOf (8 * w) with
    | some b =>
      if b < 52 then
        let s := if s.getFld (pgBnk b) 0x020 0 8 = 0 then s.setReg (pgBnk b) 0x024 (w32 (8 * w)) else s
        s.setEvt (pgBnk b) 2
      else s
    | none => s

/-- The word is SINGLE. -/
def PanelWord.single (w : PanelWord) : Bool := match w.cls with | .singleData _ => true | .singleCheck => true | _ => false

/-- What the panel decoder's work on a panel came to: whether an interleave failed, how many words it poisoned, how many SINGLE words
it corrected, and the data words, by physical address div 8, that were SINGLE or MULTI. -/
structure PanelWork where
  failed : Bool
  poisoned : Nat
  corrected : Nat
  found : List Nat
  deriving DecidableEq, Repr

/-- The data words of a group that are SINGLE or MULTI. -/
def GroupDecode.found (g : GroupDecode) (panel c : Nat) : List Nat :=
  ((List.range 128).filter fun t =>
    let w := g.words.getD t ⟨.clean, 0⟩
    w.single || decide (w.cls = .multi)).map fun t => 512 * panel + 4 * t + c

/-- The single corrections of a group, each logged: CORR at a data word, PARITY at the panel for a parity word (R314, R323). -/
def logSingles (src : EccSource) (panel c : Nat) (g : GroupDecode) (s : State) : State :=
  (List.range 132).foldl (fun s t =>
    if (g.words.getD t ⟨.clean, 0⟩).single then
      (if t < 128 then eccEvent .corr src (8 * (512 * panel + 4 * t + c)) s else eccEvent .parityCorr src (4096 * panel) s)
    else s) s

/-- The panel decoder at work on a panel (R318): what it came to, and the state after the write-backs, without the log entry of the
repair itself. -/
def decodePanelCore (src : EccSource) (panel : Nat) (s : State) : PanelWork × State :=
  let r := (List.range 4).foldl (fun (acc : PanelWork × State) c =>
    let s := acc.2
    let g := s.mem.decodeGroup panel c
    let wb := s.mem.writeBackGroup panel c g
    (⟨acc.1.failed || g.failed, acc.1.poisoned + wb.2, acc.1.corrected + (g.words.filter PanelWord.single).length,
      acc.1.found ++ g.found panel c⟩, logSingles src panel c g (s.setMem wb.1))) (⟨false, 0, 0, []⟩, s)
  (r.1, r.2.setMem (r.2.mem.rebuildParity panel))

/-- The panel decoder repairs the panel of word `w` and logs PANEL_REP or UNCORR (R318). -/
def repairPanel (src : EccSource) (w : Nat) (s : State) : PanelWork × State :=
  let r := decodePanelCore src (w / 512) s
  (r.1, eccEvent (if r.1.failed then .uncorr else .panelRep) src (8 * w) r.2)

/-- The panels of the requests that wait at the decoder of word `w`'s group, repaired in order of request (R318); the threads that they
hold go on at PANEL_DECODE. -/
def repairQueued (w : Nat) (s : State) : State :=
  (sparseGet [] s.decodes (groupOf (8 * w))).foldl (fun s r => if s.mem.isMulti r.word then (repairPanel .access r.word s).2 else s) s

/-- The panel decoder runs for word `w`, which another access meets, behind the requests that wait (R318). -/
def decodePanel (src : EccSource) (w : Nat) (s : State) : State :=
  let s := repairQueued w s
  if s.mem.isMulti w then (repairPanel src w s).2 else s

/-- The state with a word stored and its panel's parity updated by the difference from the old decoded data (R317). -/
def State.putWord (s : State) (w : Nat) (d : W64) (poison : Bool) : State :=
  s.setMem ((s.mem.updateParity w ((s.mem.decoded w).2.1 ^^^ d)).putWord w d poison)

/-- A read of a word: its data, its mark, and the state after the corrections the read makes (R298, R299, R314). A MULTI
word is repaired first. -/
def readWord (src : EccSource) (w : Nat) (s : State) : W64 × Bool × State :=
  let s := touchValid w s
  let s := if s.mem.isMulti w then decodePanel src w s else s
  let d := s.mem.decoded w
  match d.1 with
  | .singleData _ => (d.2.1, false, eccEvent .corr src (8 * w) (s.putWord w d.2.1 false))
  | .singleCheck => (d.2.1, false, eccEvent .corr src (8 * w) (s.putWord w d.2.1 false))
  | _ => (d.2.1, d.2.2, s)

/-- Bytes on a bus, each with its poison attribute (R321). -/
abbrev Payload := List (Byte × Bool)

/-- A word's data with bytes put in from byte `lo` on. -/
def mergeBytes (d : W64) : Nat → Payload → W64
  | _, [] => d
  | lo, (b, _) :: rest => mergeBytes (putFld d (8 * lo) 8 b.toNat) (lo + 1) rest

/-- A write of bytes into one word from byte `lo` on (R298, R299, R317, R321). -/
def writeWord (w lo : Nat) (bs : Payload) (s : State) : State :=
  let s := touchValid w s
  let s := if s.mem.isMulti w then decodePanel .access w s else s
  let d := s.mem.decoded w
  let full := decide (lo = 0) && decide (8 ≤ bs.length)
  let s := if full then s else match d.1 with
    | .singleData _ => eccEvent .corr .access (8 * w) s
    | .singleCheck => eccEvent .corr .access (8 * w) s
    | _ => s
  s.putWord w (mergeBytes d.2.1 lo bs) (bs.any (·.2) || (!full && d.2.2))

/-- Bytes of one word, from byte `lo` on. -/
def wordSlice (d : W64) (p : Bool) (lo n : Nat) : Payload := (List.range n).map fun i => (wordByte d (lo + i), p)

/-- Reads of the bytes of `k` words from a physical address on, `n` bytes in all. -/
def readSpan (src : EccSource) : Nat → Nat → Nat → State → Payload × State
  | 0, _, _, s => ([], s)
  | k + 1, a, n, s =>
    let here := min n (8 - a % 8)
    let r := readWord src (a / 8) s
    let rest := readSpan src k (a + here) (n - here) r.2.2
    (wordSlice r.1 r.2.1 (a % 8) here ++ rest.1, rest.2)

/-- A read of `n` bytes at a physical address, each word read once (R112, R92). -/
def readMem (src : EccSource) (a n : Nat) (s : State) : Payload × State :=
  if n = 0 then ([], s) else readSpan src ((a + n - 1) / 8 - a / 8 + 1) a n s

/-- Writes of the bytes of `k` words from a physical address on. -/
def writeSpan : Nat → Nat → Payload → State → State
  | 0, _, _, s => s
  | k + 1, a, bs, s =>
    let here := 8 - a % 8
    writeSpan k (a + here) (bs.drop here) (writeWord (a / 8) (a % 8) (bs.take here) s)

/-- A write of bytes at a physical address, word by word. -/
def writeMem (a : Nat) (bs : Payload) (s : State) : State :=
  if bs.length = 0 then s else writeSpan ((a + bs.length - 1) / 8 - a / 8 + 1) a bs s

/-- Some word that `n` bytes at `a` touch meets MULTI: the first of them. -/
def firstMulti (a n : Nat) (s : State) : Option Nat :=
  ((List.range ((a + n - 1) / 8 - a / 8 + 1)).map (a / 8 + ·)).find? (s.mem.isMulti)

/-- Every byte of a payload poisoned. -/
def poisoned (n : Nat) : Payload := List.replicate n (0, true)

/-- A read by a non-master within the bank controllers: a retired panel reads as poisoned data (R324). -/
def innerRead (a n : Nat) (s : State) : Payload × State :=
  if panelRetired a s then (poisoned n, s) else readMem .access a n s

/-- A write by a non-master: a retired panel takes none (R324). -/
def innerWrite (a : Nat) (bs : Payload) (s : State) : State :=
  if panelRetired a s then s else writeMem a bs s

/-- The number a payload spells. -/
def payloadNum (bs : Payload) : Nat := numOf (bs.map (·.1))

/-- Some byte of a payload is poisoned. -/
def payloadPoison (bs : Payload) : Bool := bs.any (·.2)

/-- A payload of clean bytes. -/
def cleanBytes (bs : List Byte) : Payload := bs.map (·, false)

/-! ### Ranges -/

/-- The memory with the words `lo`–`hi − 1` invalid, apart from those of panels `skip` names, and the parity of their panels
kept consistent (R300, R317). -/
def Mem.clearWords (m : Mem) (lo hi : Nat) (skip : Nat → Bool) : Mem :=
  let inRange (w : Nat) : Bool := decide (lo ≤ w) && decide (w < hi) && !skip (w / 512)
  let whole (q : Nat) : Bool := decide (lo ≤ 512 * q) && decide (512 * q + 512 ≤ hi) && !skip q
  let part := (m.words.map (·.1)).filter fun w => inRange w && !whole (w / 512)
  let m := part.foldl (fun m w => m.updateParity w (m.decoded w).2.1) m
  { m with data := sparseDrop (fun a => inRange (a / 8)) m.data
           words := sparseDrop inRange m.words
           parity := sparseDrop (fun i => whole (i / 16)) m.parity }

/-- The memory of a bank whose contents, maps and parity are lost (R302, R444). -/
def Mem.loseBank (m : Mem) (b : Nat) : Mem :=
  m.clearWords (bankBase b / 8) ((bankBase b + bankSize b) / 8) (fun _ => false)

end Sys2Proof.Machine
end

