-- ==== Sys2Proof/Machine/Bus.lean ====
section
/-!
DEFINITION. Sys2Proof/Machine/Bus.lean: a bus transaction below the register window: the MPU checkers (R331–R339), retired
panels (R324), bank power and ownership (R295, R296, R302), the targets' own rules (R53, R143, R242, R331, R461), and the
memories behind them.
-/

namespace Sys2Proof.Machine

/-- The kind of a transaction (R336). -/
inductive AccKind where
  | read | write | fetch
  deriving DecidableEq, Repr

def kindCode : AccKind → Nat
  | .read => 0 | .write => 1 | .fetch => 2

/-- The privilege attribute of a master that is no core (R333). -/
def masterPriv (m : Byte) : Bool :=
  let x := m.toNat
  !(decide (x = 0xA0) || (decide (0x50 ≤ x) && decide (x < 0x90) && decide (4 ≤ x % 16)))

/-- A requester that is no core, with its fixed attribute. -/
def fixedRequester (m : Byte) : Requester := ⟨m, masterPriv m⟩

/-- The Triad's voted write, the debug port, the PCIe host and the boot ROM as requesters. -/
def voted : Requester := ⟨0x23, true⟩
def debugMaster : Requester := ⟨0xFE, true⟩
def hostMaster : Requester := ⟨0xA0, false⟩
def bootMaster : Requester := ⟨0xFF, true⟩

/-! ### Checkers -/

/-- An address in the register window (R27). -/
def inWindow (a : Nat) : Bool := decide (0x10000000 ≤ a) && decide (a < 0x11000000)

/-- An address in the xSPI flash window (R27). -/
def inFlash (a : Nat) : Bool := decide (0x20000000 ≤ a) && decide (a < 0x30000000)

/-- An address in the boot ROM (R27). -/
def inRom (a : Nat) : Bool := decide (0x04000000 ≤ a) && decide (a < 0x04020000)

/-- An address in the micro-store windows (R27). -/
def inUstore (a : Nat) : Bool := decide (0x04100000 ≤ a) && decide (a < 0x04110000)

/-- The checker that guards an address (R331). -/
def checkerOf (a : Nat) : Option Nat :=
  if inWindow a then some 76 else if inFlash a then some 77 else bankOf a

/-- The class bit of a master (R336). -/
def classBit (m : Nat) : Option Nat :=
  if m < 0x20 then some 0 else if m < 0x23 then some 1 else if m = 0x23 then some 2
  else if 0x30 ≤ m ∧ m < 0x48 then some 3
  else if 0x50 ≤ m ∧ m < 0x90 then some (if m % 16 < 4 then 4 else 5)
  else if 0x90 ≤ m ∧ m < 0x94 then some 6 else if m = 0xA0 then some 7 else if m = 0xFE then some 8 else none

/-- Region `n` of checker `c` covers an address (R336). -/
def regionCovers (c n a : Nat) (s : State) : Bool :=
  let p := pgMpu c
  bit (s.reg p (0x108 + 16 * n)) 31 && decide (fld (s.reg p (0x100 + 16 * n)) 6 26 * 64 ≤ a)
    && decide (a ≤ fld (s.reg p (0x104 + 16 * n)) 6 26 * 64 + 63)

/-- Some enabled ID of the region names the master with the kind permitted to it. -/
def regionNames (ids attr : W32) (m : Nat) (k : AccKind) : Bool :=
  (List.range 4).any fun i =>
    bit attr (27 + i) && decide (fld ids (8 * i) 8 = m) && (!bit attr (23 + i) || decide (k = .read))

/-- A covering region grants an access (R336). -/
def regionGrants (c n : Nat) (q : Requester) (k : AccKind) (s : State) : Bool :=
  let attr := s.reg (pgMpu c) (0x108 + 16 * n)
  let ids := s.reg (pgMpu c) (0x10C + 16 * n)
  let m := q.master.toNat
  let cls := match classBit m with
    | some i => bit attr i
    | none => false
  (cls || regionNames ids attr m k)
    && (match k with | .read => bit attr 19 | .write => bit attr 20 | .fetch => bit attr 21)
    && (q.priv || bit attr 22)

/-- The default map of R338, for a privileged access. -/
def defaultMap (c : Nat) (m : Nat) (k : AccKind) (a : Nat) : Bool :=
  let winderOf (d : Nat) : Bool := decide (0x50 + 16 * d ≤ m) && decide (m < 0x60 + 16 * d)
  let overman : Bool := decide (0x20 ≤ m) && decide (m < 0x23)
  let is (x : Nat) : Bool := decide (m = x)
  if c < 32 then
    match k with
    | .read => is c || winderOf (c / 8) || overman || is 0xFE
    | .write => is c || winderOf (c / 8) || is 0x23 || is 0xFE
    | .fetch => is c
  else if c < 48 then
    let d := (c - 32) / 4
    let near : Bool := (decide (8 * d ≤ m) && decide (m < 8 * d + 8)) || winderOf d || (decide (0x90 ≤ m) && decide (m < 0x94)) || is 0xFE
    match k with
    | .read => near || overman
    | .write => near || is 0x23
    | .fetch => false
  else if c < 51 then
    match k with
    | .fetch => is (0x20 + (c - 48))
    | _ => is (0x20 + (c - 48)) || is 0xFE
  else if c = 51 then
    match k with
    | .read => overman || is 0xFE
    | .write => is 0x23 || (is 0xFE && !(decide (0x02780000 ≤ a) && decide (a < 0x02788000)))
    | .fetch => false
  else if c < 76 then
    let own := is (0x30 + (c - 52))
    match k with
    | .read => own || overman || is 0xFE
    | .write => own || is 0x23 || is 0xFE
    | .fetch => own
  else if c = 76 then
    match k with
    | .read => true
    | .write =>
      let p := (a - 0x10000000) / 0x1000
      is 0x23 || is 0xFE || (decide (m < 32) && decide (p = m))
        || (decide (0x30 ≤ m) && decide (m < 0x48)
            && (decide (p = pgDep (m - 0x30)) || (decide (pgCor (4 * (m - 0x30)) ≤ p) && decide (p ≤ pgCor (4 * (m - 0x30) + 3)))))
    | .fetch => false
  else
    match k with
    | .read => overman || is 0xFE
    | .write => false
    | .fetch => overman

/-- The causes of a checker's refusal (R344 MPU_DENY.CAUSE). -/
inductive DenyCause where
  | noGrant | userNoRegion | overlap | dflt
  deriving DecidableEq, Repr

def denyCode : DenyCause → Nat
  | .noGrant => 0 | .userNoRegion => 1 | .overlap => 2 | .dflt => 3

/-- A checker's decision by R337: none when allowed, else the cause and the deciding region of row 3. -/
def mpuDecide (c : Nat) (q : Requester) (k : AccKind) (a : Nat) (s : State) : Option (DenyCause × Option Nat) :=
  if q.master = 0xFF then none
  else
    let cover := (List.range 32).filter fun n => regionCovers c n a s
    if bit (s.reg (pgMpu c) 0x040) 0 ∧ 2 ≤ cover.length then some (.overlap, none)
    else match cover.getLast? with
      | some n => if regionGrants c n q k s then none else some (.noGrant, some n)
      | none =>
        if q.priv then (if defaultMap c q.master.toNat k a then none else some (.dflt, none))
        else some (.userNoRegion, none)

/-- The record of a refusal on the checker's page (R339). -/
def mpuRecord (c : Nat) (q : Requester) (k : AccKind) (a : Nat) (cause : DenyCause) (rgn : Option Nat) (s : State) : State :=
  let p := pgMpu c
  let deny : W32 := w32 (q.master.toNat * 0x1000000 + kindCode k * 0x400000 + b2n q.priv * 0x200000 + denyCode cause * 0x80000
    + (match rgn with | some n => 0x20 + n | none => 0))
  let s := if s.getFld p 0x020 0 8 = 0 then s.setReg p 0x044 deny else s
  let s := recordError p (if cause = .overlap then 0x41 else 0x40) a s
  (s.incSat p 0x048 0 16).setEvt p 1

/-- The address a checker sees: a peek read is evaluated at the normal offset (R42). -/
def mpuAddress (k : AccKind) (a : Nat) : Nat := if inWindow a ∧ k = .read ∧ 0x800 ≤ a % 0x1000 then a - 0x800 else a

/-- The checker's test of a transaction by its first byte (R331, R332, R334): refused, and the state with the record. -/
def mpuCheck (q : Requester) (k : AccKind) (a : Nat) (s : State) : Bool × State :=
  match checkerOf a with
  | none => (false, s)
  | some c =>
    match mpuDecide c q k (mpuAddress k a) s with
    | none => (false, s)
    | some (cause, rgn) => (true, mpuRecord c q k (mpuAddress k a) cause rgn s)

/-! ### Banks -/

/-- The state of a bank's array: by R301 for the banks with a page, the group's domain for a Deputy memory (R22). -/
def bankPower (b : Nat) (s : State) : Power := if b < 52 then s.array b else s.domain (52 + (b - 52) / 4)

/-- The owning District of a bank (R292). -/
def bankDistrict (b : Nat) : Option Nat := if b < 32 then some (b / 8) else if b < 48 then some ((b - 32) / 4) else none

/-- The owner that BLK_OWNER names. -/
def ownerField (b : Nat) (s : State) : Nat := s.getFld (pgBnk b) 0x018 0 8

/-- A master is admitted to a bank's port, as owner in effect, through the Winder window or by BNK_STEAL (R295, R296); once a hand-over has
begun, what its old owner issues is a non-owner's (R294). -/
def bankAdmits (b : Nat) (m : Nat) (k : AccKind) (s : State) : Bool :=
  if 52 ≤ b then true
  else
    let p := s.bank b
    let steal := s.reg (pgBnk b) 0x040
    (decide (p.owner.toNat = m) && !p.draining)
    || (match bankDistrict b with
        | some d => decide (0x50 + 16 * d ≤ m) && decide (m < 0x60 + 16 * d) && bit (s.reg (pgBnk b) 0x018) (16 + m % 16)
        | none => false)
    || (decide (32 ≤ b) && decide (b < 48) && decide (0x90 ≤ m) && decide (m < 0x94) && bit steal 0)
    || (decide (0x20 ≤ m) && decide (m < 0x24) && bit steal 1)
    || (decide (m = 0xA0) && bit steal 2)
    || (decide (m = 0xFE) && (decide (k ≠ .write) || bit steal 3))
    || decide (m = 0xFF)

/-- A master is the new owner of a hand-over that a bank drains (R295 row 2). -/
def newOwner (b : Nat) (m : Byte) (s : State) : Bool :=
  decide (b < 52) && (s.bank b).draining && decide (ownerField b s = m.toNat)

/-- The Roster buffer and entry of an address of the Gate bank (R53). -/
def rosterPlace (a : Nat) : Option (Nat × Nat) :=
  if 0x02780000 ≤ a ∧ a < 0x02788000 then some ((a - 0x02780000) / 0x4000, (a - 0x02780000) % 0x4000 / 16) else none

/-- The buffer ONS_ROSTER_CTRL.ACTIVE names. -/
def activeBuffer (s : State) : Nat := s.getFld pgOns 0x040 0 1

/-- The validation result of ONS_ROSTER_STAT. -/
def rosterResult (s : State) : Nat := s.getFld pgOns 0x044 0 3

/-- A write to the inactive buffer or plan cancels a pending switch (R57). -/
def rosterModified (index : Nat) (s : State) : State :=
  if rosterResult s = 1 ∨ rosterResult s = 2 then
    ((s.setFld pgOns 0x044 0 3 4).setFld pgOns 0x044 8 8 0x08).setFld pgOns 0x044 16 10 index
  else s

/-- A write that the target itself refuses: the Gate bank and Roster by R53, Deputy result records by R242. -/
def targetRefuses (m : Nat) (k : AccKind) (a : Nat) (s : State) : Bool :=
  if k ≠ .write then false
  else match bankOf a with
    | some b =>
      if b = 51 then
        match rosterPlace a with
        | some (buf, _) => !(decide (m = 0x23) || decide (m = 0xFF)) || decide (buf = activeBuffer s)
        | none => !(decide (m = 0x23) || decide (m = 0xFF) || decide (m = 0xFE))
      else if 52 ≤ b then
        let o := (a - bankBase b)
        (decide (0x6000 ≤ o) && decide (o < 0x6400)) || decide (0x8000 ≤ o)
      else false
    | none => false

/-- What a bank port answers an access: it is served, it is held until a hand-over completes (R295 row 2), or it is refused for a reason
of R160. -/
inductive PortAnswer where
  | serve
  | hold
  | refuse (reason : Nat)
  deriving DecidableEq, Repr

/-- A read of a Roster buffer, which R53 always permits to the masters that the Gate bank's checker allows: R295 and R296 do not stop it (DEDUCED,
log 96). -/
def rosterRead (k : AccKind) (a : Nat) : Bool := decide (k = .read) && (rosterPlace a).isSome

/-- The tests of a bank port after its checker, in order (R302, R324, R295, R53), and the state with the record of a refusal. `accepted`:
the port took the access from the owner before a hand-over began, or the panel was retired (R294, R324). -/
def bankPort (b : Nat) (m : Byte) (k : AccKind) (a : Nat) (accepted : Bool) (s : State) : PortAnswer × State :=
  if panelRetired a s && !accepted then (.refuse 3, eccEvent .retired .access a s)
  else if bankPower b s ≠ .on then (.refuse 2, if b < 52 then recordError (pgBnk b) 0x41 a s else s)
  else if newOwner b m s && !accepted then (.hold, s)
  else if !accepted && !rosterRead k a && !bankAdmits b m.toNat k s then (.refuse 2, recordError (pgBnk b) 0x40 a (s.setEvt (pgBnk b) 1))
  else if targetRefuses m.toNat k a s then
    (.refuse 5, match rosterPlace a with
      | some (buf, _) => if b = 51 ∧ buf = activeBuffer s then recordError pgOns 0x40 a s else s
      | none => s)
  else (.serve, s)

/-- The writer a reservation looks at: a thread, or any other master (R135). -/
abbrev Writer := Option Hart

/-- A thread's reservations after a write of the words `lo`–`hi` by another (R135). -/
def breakThread (lo hi : Nat) (t : Thread) : Thread :=
  if t.lock.words.any (fun w => decide (lo ≤ w) && decide (w ≤ hi)) then { t with lock := { t.lock with broken := true } } else t

/-- Every thread of another writer that reserves one of the words `lo`–`hi` loses its reservation (R135). -/
def breakReservations (wr : Writer) (lo hi : Nat) (s : State) : State :=
  (s.threads.map (·.1)).foldl (fun s k =>
    if (match wr with | some h => decide (hartKey h = k) | none => false) then s
    else { s with threads := sparseSet idleThread s.threads k (breakThread lo hi (sparseGet idleThread s.threads k)) }) s

/-- Every reservation on a word of a bank is broken (R135). -/
def breakBank (b : Nat) (s : State) : State :=
  breakReservations none (bankBase b / 8) ((bankBase b + bankSize b) / 8 - 1) s

/-- A hand-over of a bank to an owner begins (R38, R64): every reservation of the bank's words breaks (R135). -/
def handOver (b o : Nat) (s : State) : State :=
  let s := (s.setFld (pgBnk b) 0x018 0 8 o).setBank b { s.bank b with draining := true }
  breakBank b s

/-- The Onsetter's owner for a bank at an edge (R64, R65). -/
def edgeOwner (b o : Nat) (s : State) : State :=
  if (s.bank b).draining then s.setBank b { s.bank b with next := some (BitVec.ofNat 8 o) }
  else if ownerField b s = o then s else handOver b o s

/-- A bank's port has taken an access of its old owner that is not answered yet (R294), be it held for its response or for the panel decoder
(R314). -/
def drainOpen (b : Nat) (s : State) : Bool :=
  s.threads.any fun x => match x.2.hold with
    | .access _ => x.2.accepted.contains b
    | .panel _ _ => x.2.accepted.contains b
    | _ => false

/-- The drain of a bank's hand-over completes (R38, R65). -/
def drainDone (b : Nat) (s : State) : State :=
  let p := s.bank b
  if !p.draining then s
  else
    let s := s.setBank b { p with owner := BitVec.ofNat 8 (ownerField b s), draining := false, next := none }
    match p.next with
    | some o => edgeOwner b o.toNat s
    | none => s

/-- The reason of R160, where an access whose issuer is no thread is refused by a bank port. Such an access of the new owner of a
hand-over is served in the order of R295: the hand-over completes first (log 67), unless an access of the old owner is still to be
answered, which the commands of the only such masters, the Adit ports, wait for. -/
def bankCheck (b : Nat) (m : Byte) (k : AccKind) (a : Nat) (s : State) : Option Nat × State :=
  let r := bankPort b m k a false s
  match r.1 with
  | .serve => (none, r.2)
  | .refuse e => (some e, r.2)
  | .hold =>
    let r := bankPort b m k a true (if drainOpen b r.2 then r.2 else drainDone b r.2)
    (match r.1 with | .refuse e => some e | _ => none, r.2)

/-- The flash size in bytes (R463 XSP_SIZE). -/
def flashSize (s : State) : Nat := 2 ^ s.getFld pgXsp 0x044 0 5

/-- The tests of a target that is no bank: the boot ROM, the micro-stores, the flash window, and addresses that nothing answers (R331,
R143, R461, R28). -/
def otherCheck (m : Nat) (k : AccKind) (a : Nat) (s : State) : Option Nat :=
  if inRom a then (if k ≠ .write ∧ (m = 0x20 ∨ m = 0x21 ∨ m = 0x22 ∨ m = 0xFE ∨ m = 0xFF) then none else some 5)
  else if inUstore a then (if k = .read ∨ (k = .write ∧ (m = 0x23 ∨ m = 0xFF)) then none else some 5)
  else if inFlash a then
    (if k = .write then some 5
     else if flashSize s ≤ a - 0x20000000 ∨ s.getFld pgXsp 0x054 30 2 ≠ 0 then some 4 else none)
  else some 4

/-- The tests of a transaction's target, its checker passed. -/
def targetCheck (m : Byte) (k : AccKind) (a : Nat) (s : State) : Option Nat × State :=
  match bankOf a with
  | some b => bankCheck b m k a s
  | none => (otherCheck m.toNat k a s, s)

/-- Every test of a transaction outside the register window, its checker first (R332): the reason of R160, if refused. -/
def busCheck (q : Requester) (k : AccKind) (a : Nat) (s : State) : Option Nat × State :=
  let r := mpuCheck q k a s
  if r.1 then (some 1, r.2) else targetCheck q.master k a r.2

/-! ### Performing -/

/-- The device is halted (R427, R435 DBG_STAT.HALTED). -/
def halted (s : State) : Bool := bit (s.reg pgDbg 0x040) 31

/-- FREEZE in effect (R438). -/
def pmcFrozen (s : State) : Bool := bit (s.reg (pgPmc 0) 0x040) 0

/-- A bandwidth monitor counts an access of its port, by the bank's owner or by another master (R438, R439). -/
def bwCounts (k : Nat) (own : Bool) (s : State) : Bool :=
  let cfg := s.reg (pgPmc 37) (0x100 + 8 * k)
  let filter := fld cfg 29 2
  bit cfg 31 && (decide (filter = 0) || decide (filter = (if own then 1 else 2))) && !pmcFrozen s && !halted s

/-- `n` bytes performed at the port of monitor `k` (R439). -/
def bwCount (k n : Nat) (own : Bool) (s : State) : State :=
  if bwCounts k own s then { s with dbg := { s.dbg with bytes := sparseSet 0 s.dbg.bytes k (sparseGet 0 s.dbg.bytes k + n) } } else s

/-- `n` bytes of master `m` performed at `a`: counted at the port of a Stope bank or of a Face memory, and at an Adit port that issues them
(R439). -/
def bwBytes (m : Byte) (a n : Nat) (s : State) : State :=
  let s := match bankOf a with
    | some b =>
      if b < 48 then bwCount (if b < 32 then 20 + b else b - 32) n (decide ((s.bank b).owner = m)) s else s
    | none => s
  if 0x90 ≤ m.toNat ∧ m.toNat < 0x94 then bwCount (m.toNat - 0x80) n true s else s

/-- Bytes of a list of cells with the given default. -/
def cellsRead (dflt : Byte) (c : List Host.Cell) (a n : Nat) : List Byte :=
  (List.range n).map fun i => sparseGet dflt c (a + i)

/-- Bytes put into a list of cells with the given default. -/
def cellsWrite (dflt : Byte) (c : List Host.Cell) : Nat → List Byte → List Host.Cell
  | _, [] => c
  | a, b :: rest => cellsWrite dflt (sparseSet dflt c a b) (a + 1) rest

/-- What an erased or never programmed flash byte reads as (log 31). -/
def flashBlank : Byte := 0xFF

/-- A transaction's read, already checked. -/
def memRead (a n : Nat) (s : State) : Payload × State :=
  if inRom a then ((List.range n).map fun i => (Config.romByte (a - 0x04000000 + i), false), s)
  else if inUstore a then (cleanBytes (cellsRead 0 s.mem.ustore (a - 0x04100000) n), s)
  else if inFlash a then (cleanBytes (cellsRead flashBlank s.mem.flash (a - 0x20000000) n), s)
  else readMem .access a n s

/-- A transaction's write, already checked: the bytes stored, reservations on their words broken (R135), and a pending switch
cancelled by a write to the inactive Roster buffer (R57). -/
def memWrite (wr : Writer) (a : Nat) (bs : Payload) (s : State) : State :=
  if inUstore a then s.setMem { s.mem with ustore := cellsWrite 0 s.mem.ustore (a - 0x04100000) (bs.map (·.1)) }
  else
    let s := writeMem a bs s
    let s := breakReservations wr (a / 8) ((a + bs.length - 1) / 8) s
    match rosterPlace a with
    | some (_, e) => rosterModified e s
    | none => s

/-- A read performed at a port for master `m`. -/
def portRead (m : Byte) (a n : Nat) (s : State) : Payload × State :=
  let v := memRead a n s
  (v.1, bwBytes m a n v.2)

/-- A write performed at a port for master `m`, `wr` being the thread it is made for, if any. -/
def portWrite (m : Byte) (wr : Writer) (a : Nat) (bs : Payload) (s : State) : State := bwBytes m a bs.length (memWrite wr a bs s)

end Sys2Proof.Machine
end

