-- ==== Sys2Proof/Machine/Audio.lean ====
section
/-!
DEFINITION. Sys2Proof/Machine/Audio.lean: the media clock's discipline (R207, R208), TDM ports (R210–R213), microphones
(R215, R216), modulators (R219–R222), sense decimators (R224) and the Refuge route (R226–R231).
-/

namespace Sys2Proof.Machine

/-! ### Media clock -/

/-- The five states of AON_MCLK_STAT.STATE (R209). -/
inductive MclkState where
  | free | pullIn | locked | holdover | acquire
  deriving DecidableEq, Repr

def mclkCode : MclkState → Nat
  | .free => 0 | .pullIn => 1 | .locked => 2 | .holdover => 3 | .acquire => 4

/-- The discipline state. -/
def mclkState (s : State) : Nat := s.getFld pgAon 0x108 0 3

/-- A change of discipline state: MCLK_UNLOCK when it leaves LOCKED, MCLK_HOLDOVER when it enters HOLDOVER (R208). -/
def mclkEnter (st : MclkState) (s : State) : State :=
  let s := s.setEvtIf (decide (mclkState s = 2) && decide (st ≠ .locked)) pgAon 8
  let s := s.setEvtIf (decide (st = .holdover)) pgAon 9
  s.setFld pgAon 0x108 0 3 (mclkCode st)

/-- A correction in thirds of 0.001 ppm in the unit of CORR (R209): a part of the unit is rounded freely (log 37). -/
def correctionUnits (x : Int) : Int := x / 3 + (if x % 3 ≠ 0 ∧ Config.roundUp 8 x.natAbs then 1 else 0)

/-- The applied correction set (R209). -/
def mclkCorrect (x : Int) (s : State) : State :=
  let s := s.setReg pgAon 0x10C (wrap 32 (correctionUnits x))
  { s with aud := { s.aud with correction := x } }

/-- The mean of the corrections, in their unit. -/
def meanCorrection (xs : List Int) : Int :=
  let sum := xs.foldl (· + ·) 0
  let n : Int := xs.length
  if xs.length = 0 then 0 else if sum % n = 0 then sum / n else sum / n + (if Config.meanUp sum xs.length then 1 else 0)

/-- The source selected and in effect: 0 FREE, 1 PTP, 2 WORD. -/
def mclkSource (s : State) : Nat := s.effFld pgAon 0x100 0 2

/-- The gPTP engine reports synchronised time (R349), which is when the source PTP is valid (R207). -/
def ptpSynced (s : State) : Bool := bit (s.reg (pgAdt 5) 0x044) 0

/-- The selected source becomes valid (R208); PTP only while the engine is synchronised (R207). -/
def mclkValid (s : State) : State :=
  if mclkSource s = 0 ∨ bit (s.reg pgAon 0x108) 3 ∨ (mclkSource s = 1 ∧ !ptpSynced s) then s
  else
    let s := mclkEnter .pullIn (s.setFld pgAon 0x108 3 1 1)
    { s with aud := { s.aud with corrections := [] } }

/-- The selected source becomes invalid (R208); PTP only when the engine is no longer synchronised (R207). -/
def mclkInvalid (s : State) : State :=
  if mclkSource s = 0 ∨ !bit (s.reg pgAon 0x108) 3 ∨ (mclkSource s = 1 ∧ ptpSynced s) then s
  else
    let s := s.setFld pgAon 0x108 3 1 0
    if mclkState s = 1 ∨ mclkState s = 2 then mclkCorrect (meanCorrection s.aud.corrections) (mclkEnter .holdover s) else s

/-- 64 consecutive boundaries within 1 µs have passed (R208). -/
def mclkLock (s : State) : State := if mclkState s = 1 then mclkEnter .locked s else s

/-- A number held within bounds. -/
def clampInt (lo hi x : Int) : Int := if x < lo then lo else if hi < x then hi else x

/-- The correction that follows `old`, in thirds of 0.001 ppm: within ±200 ppm, and moved by at most `step` of them in a shift (R207). -/
def nextCorrection (step old new : Int) : Int := clampInt (-600000) 600000 (clampInt (old - step) (old + step) new)

/-- The boundary's effect on the discipline of the source in effect: PHASE_ERR in units of 10 ns, the loss of LOCKED beyond 10 µs, and the
correction, which moves by at most 1 ppm/s in LOCKED and 10 ppm/s in PULL_IN, there being 1500 shifts in a second (R207, R208). -/
def mclkBoundary (err corr : Int) (s : State) : State :=
  let st := mclkState s
  if st = 0 ∨ st = 4 then (s.setFld pgAon 0x108 16 16 0) |> mclkCorrect 0
  else
    let e := clampInt (-32768) 32767 err
    let s := s.setFld pgAon 0x108 16 16 (wrap 16 e).toNat
    let s := if st = 2 ∧ (err < -1000 ∨ 1000 < err) then mclkEnter .pullIn s else s
    if st = 3 then s
    else
      let c := nextCorrection (if st = 2 then 2 else 20) s.aud.correction corr
      let s := mclkCorrect c s
      { s with aud := { s.aud with corrections := (c :: s.aud.corrections).take 4096 } }

/-- The source in effect at a boundary: FREE is always valid (R207), a new one is followed from here on (R208). `valid` is what the boundary finds
of WORD; PTP is valid while the engine is synchronised. -/
def mclkSelect (old : Nat) (valid : Bool) (s : State) : State :=
  let now := mclkSource s
  let valid := if now = 1 then ptpSynced s else valid
  if now = old then (if now = 0 then s.setFld pgAon 0x108 3 1 1 else s)
  else if now = 0 then mclkCorrect 0 (mclkEnter .free (s.setFld pgAon 0x108 3 1 1))
  else
    let s := { s with aud := { s.aud with corrections := [] } }
    if valid then mclkEnter .pullIn (s.setFld pgAon 0x108 3 1 1)
    else mclkCorrect 0 (mclkEnter .acquire ((s.setFld pgAon 0x108 3 1 0).setFld pgAon 0x108 16 16 0))

/-! ### TDM ports -/

/-- PD60 is ON: the front end of TDM, PDM, PWM and sense runs (R22). -/
def frontEndOn (s : State) : Bool := decide (s.domain 60 = .on)

/-- A port right after a reset. -/
def idleTdm : TdmPort := ⟨[], 0, false, []⟩

/-- The sample that the bits of a slot give (R210): bits 7:0 are 0 after a slot of 16, and the last 8 of 32 are ignored. -/
def slotSample (bits : List Bool) : W24 :=
  BitVec.ofNat 24 ((List.range 24).foldl (fun v i => 2 * v + b2n (bits.getD i false)) 0)

/-- The sample in slot `k` of a frame, DIN being given at the rising and at the falling edge of each BCLK period from the FSYNC edge on (R210): data
is sampled on the rising edge, or with `inverted` on the falling one, and the first slot begins `delay` periods after the edge. How long FSYNC is
high (FS_LONG) moves no bit. -/
def slotIn (width delay : Nat) (inverted : Bool) (din : List (Bool × Bool)) (k : Nat) : W24 :=
  slotSample ((List.range width).map fun i =>
    let edges := din.getD (delay + width * k + i) (false, false)
    if inverted then edges.2 else edges.1)

def State.tdmPort (s : State) (n : Nat) : TdmPort := sparseGet idleTdm s.aud.tdm n
def State.setTdmPort (s : State) (n : Nat) (p : TdmPort) : State :=
  { s with aud := { s.aud with tdm := sparseSet idleTdm s.aud.tdm n p } }

/-- The slot width in bits that WIDTH selects (R214). -/
def tdmWidth (cfg : W32) : Nat := match fld cfg 1 2 with | 0 => 16 | 1 => 24 | _ => 32

/-- A frame format keeps the limits of R210 and R211 at a rate. -/
def tdmFits (cfg : W32) (r96 : Bool) : Bool :=
  let bits := (fld cfg 8 5 + 1) * tdmWidth cfg
  decide (bits ≤ if r96 then 512 else 1024) && (!bit cfg 0 || decide ((if r96 then 2048 else 4096) % bits = 0))

/-- The port exchanges frames: enabled, not stopped, PD60 ON (R213). -/
def tdmRuns (n : Nat) (s : State) : Bool := s.active (pgTdm n) && !bit (s.reg (pgTdm n) 0x04C) 1 && frontEndOn s

/-- FRAME_ERR on a port: the event, the mark on this shift, and ERR_SHIFTS once a shift (R212, R214). -/
def tdmError (n : Nat) (s : State) : State :=
  let p := s.tdmPort n
  let s := if p.err then s else s.incSat (pgTdm n) 0x04C 8 8
  (s.setEvt (pgTdm n) 1).setTdmPort n { p with err := true }

/-- What slot `k` sends in sample period `i` of the shift (R210, R212, R213): a slot that no output names, or that is not enabled, sends zeros or
floats. -/
def tdmSends (n k i : Nat) (s : State) : Option W24 :=
  let cfg := s.effReg (pgTdm n) 0x040
  let blk := sparseGet [] s.aud.play (128 + 32 * n + k)
  if bit (s.effReg (pgTdm n) 0x048) k && decide (blk ≠ []) then
    let v := blk.getD i 0
    some (if tdmWidth cfg = 16 then putFld v 0 8 0 else v)
  else if bit cfg 6 then none else some 0

/-- A port in a frame whose FSYNC falls in sample period `i`: the samples received and sent (R210, R212). In a period that has had a frame the
spec names no sample to send: the values sent are free (log 105). -/
def tdmExchange (n i : Nat) (din : List (Bool × Bool)) (s : State) : State :=
  let cfg := s.effReg (pgTdm n) 0x040
  let slots := fld cfg 8 5 + 1
  let p := s.tdmPort n
  let sends := (List.range slots).map fun k => tdmSends n k i s
  if i < p.next then
    let r := drawFree s
    r.2.setTdmPort n { p with sent := sends.map fun v => v.map fun _ => BitVec.ofNat 24 (Config.freeValue r.1) }
  else
    s.setTdmPort n { p with frames := (List.range slots).map (slotIn (tdmWidth cfg) (fld cfg 3 1) (bit cfg 5) din) :: p.frames
                            next := i + 1, sent := sends }

/-- One frame on a port, whose master counts its frames from the boundary; on a slave port FSYNC falls in sample period `period`, and `misplaced`
away from the frame length if so, as it does outside the period that is next (R212). -/
def tdmFrame (n : Nat) (din : List (Bool × Bool)) (period : Nat) (misplaced : Bool) (s : State) : State :=
  if !tdmRuns n s then s
  else
    let master := bit (s.effReg (pgTdm n) 0x040) 0
    let next := (s.tdmPort n).next
    let s := if !master && (misplaced || decide (period ≠ next)) then tdmError n s else s
    let i := if master then next else period
    if blockLen s ≤ i then s else tdmExchange n i din s

/-- BCLK is absent on a slave port for a whole sample period, whose sample is not sent (R212). -/
def tdmBclkLoss (n : Nat) (s : State) : State :=
  if tdmRuns n s && !bit (s.effReg (pgTdm n) 0x040) 0 then
    let s := tdmError n s
    s.setTdmPort n { s.tdmPort n with next := (s.tdmPort n).next + 1 }
  else s

/-- The block a receive slot delivers for the shift that ends; none when not delivered (R213). -/
def tdmBlock (n k : Nat) (s : State) : Option (List W24) :=
  let p := s.tdmPort n
  let b := blockLen s
  if tdmRuns n s && decide (p.frames.length = b) && !p.err then
    if bit (s.effReg (pgTdm n) 0x044) k && decide (k ≤ s.effFld (pgTdm n) 0x040 8 5) then
      some (p.frames.reverse.map fun f => f.getD k 0)
    else some (List.replicate b 0)
  else none

/-! ### Bit streams -/

/-- A bit stream that nothing has passed. -/
def idleStream : BitStream := ⟨0, false, 0⟩

def State.bitStream (s : State) (i : Nat) : BitStream := sparseGet idleStream s.aud.streams i

/-- The samples that a decimator gives for `bits`, `n` of them a sample, and its state afterwards. -/
def decimate (filter : Nat → List Bool → Nat × W24) (n : Nat) (state : Nat) (bits : List Bool) : List W24 × Nat :=
  (List.range (bits.length / n)).foldl (fun acc i =>
    let r := filter acc.2 ((bits.drop (n * i)).take n)
    (acc.1 ++ [r.2], r.1)) ([], state)

/-- A stream after `bits`, its decimator left in `state`, and the longest run of bits without a transition. -/
def BitStream.pass (b : BitStream) (state : Nat) (bits : List Bool) : BitStream × Nat :=
  bits.foldl (fun acc x =>
    let run := if x = acc.1.last then acc.1.run + 1 else 1
    (⟨state, x, run⟩, max acc.2 run)) ({ b with filter := state }, 0)

/-! ### Microphones -/

/-- The data pin that carries a microphone, and whether it is sampled on the rising edge of its clock (R215). -/
def micPin (m : Nat) : Nat × Bool := (m / 2, decide (m % 2 = 0))

/-- The clock group that serves a microphone (R215). -/
def micGroup (m : Nat) : Nat := m / 8

/-- The bits of a microphone among those on the data pins, while its clock runs (R215). -/
def micBits (m : Nat) (pdm : List (List (Bool × Bool))) (s : State) : List Bool :=
  if frontEndOn s && decide (sparseGet 0 s.aud.warm (micGroup m) ≠ 0) then
    (pdm.getD (micPin m).1 []).map fun e => if (micPin m).2 then e.1 else e.2
  else []

/-- A microphone's decimated samples of a shift: by 64, or by 32 at 96 kHz (R215). -/
def micDecimated (m : Nat) (pdm : List (List (Bool × Bool))) (s : State) : List W24 × Nat :=
  decimate (Config.pdmDecimator (rate96 s)) (if rate96 s then 32 else 64) (s.bitStream m).filter (micBits m pdm s)

/-- A microphone's samples of a shift past its high-pass filter, where HPF is 1, and the filter's state afterwards; no rule gives the arithmetic of
a first-order filter with its corner at 20 Hz, which is Config.highPass (R215, log 39). -/
def micSamples (m : Nat) (got : List W24) (s : State) : List W24 × (W24 × W24) :=
  let xs := (List.range (blockLen s)).map fun i => got.getD i 0
  if bit (s.reg pgPdm 0x040) 8 then
    xs.foldl (fun acc x => let y := Config.highPass (rate96 s) acc.2.1 acc.2.2 x; (acc.1 ++ [y], (x, y))) ([], sparseGet (0, 0) s.aud.hpf m)
  else (xs, (0, 0))

/-- The block a microphone delivers for the shift that ends, from what its decimator gave (R215, R216). -/
def micBlock (m : Nat) (got : List W24) (s : State) : Option (List W24) :=
  if frontEndOn s && decide (sparseGet 0 s.aud.warm (micGroup m) = 2) && !sparseGet false s.aud.micStuck m then some (micSamples m got s).1
  else none

/-- The filters of the microphones after the shift that ends. -/
def micFilters (pdm : List (List (Bool × Bool))) (s : State) : Sparse (W24 × W24) :=
  (List.range 64).foldl (fun f m =>
    sparseSet (0, 0) f m (if sparseGet 0 s.aud.warm (micGroup m) = 0 then (0, 0) else (micSamples m (micDecimated m pdm s).1 s).2)) []

/-- Blocks captured in the shift that ends, TDM slots then microphones (R306 CAPTURE). -/
def captureAll (pdm : List (List (Bool × Bool))) (s : State) : Sparse (Option (List W24)) :=
  (List.range 320).foldl (fun c i =>
    sparseSet none c i (if i < 256 then tdmBlock (i / 32) (i % 32) s else micBlock (i - 256) (micDecimated (i - 256) pdm s).1 s)) []

/-- A microphone's bit stream is stuck (R216). -/
def micStuckNow (m : Nat) (s : State) : State :=
  if frontEndOn s && bit (s.effReg pgPdm 0x040) (m / 8) then
    let s := (s.setFld pgPdm (0x044 + 4 * (m / 32)) (m % 32) 1 1).setEvt pgPdm 1
    { s with aud := { s.aud with micStuck := sparseSet false s.aud.micStuck m true } }
  else s

/-- The microphones' streams over the shift that ends: each passes its decimator, and 1024 clock periods without a transition mark it stuck (R215,
R216). -/
def micStreams (pdm : List (List (Bool × Bool))) (s : State) : State :=
  (List.range 64).foldl (fun s m =>
    let bits := micBits m pdm s
    if bits = [] then s
    else
      let r := (s.bitStream m).pass (micDecimated m pdm s).2 bits
      let s := { s with aud := { s.aud with streams := sparseSet idleStream s.aud.streams m r.1 } }
      if 1024 ≤ r.2 then micStuckNow m s else s) s

/-- A clock group's warm-up ends, 16 shifts after its start (R216). -/
def pdmWarm (g : Nat) (s : State) : State :=
  if sparseGet 0 s.aud.warm g = 1 then { s with aud := { s.aud with warm := sparseSet 0 s.aud.warm g 2 } } else s

/-- The boundary at the clock groups: stuck marks of a clean shift cleared, groups started or stopped (R216). -/
def pdmBoundary (s : State) : State :=
  let s := (List.range 64).foldl (fun s m =>
    if sparseGet false s.aud.micStuck m then s else s.setFld pgPdm (0x044 + 4 * (m / 32)) (m % 32) 1 0) s
  let on := frontEndOn s
  let warm := (List.range 8).foldl (fun w g =>
    let n := sparseGet 0 w g
    sparseSet 0 w g (if on && bit (s.effReg pgPdm 0x040) g then max 1 n else 0)) s.aud.warm
  { s with aud := { s.aud with warm := warm, micStuck := [] } }

/-! ### Modulators and sense decimators -/

/-- A Bool state of SAFE is kept with the safety reactions; here: the Refuge route drives channel `c` (R226). -/
def refugeDrives (c : Nat) (s : State) : Bool :=
  bit (s.reg pgRfg 0x074) 0 && bit (s.reg pgRfg (0x044 + 4 * (c / 32))) (c % 32)

/-- The noise shaper of a modulator limits (R219). -/
def pwmClips (c : Nat) (s : State) : State :=
  if frontEndOn s then { s.setEvt (pgPwm c) 1 with aud := { s.aud with pwmClip := sparseSet false s.aud.pwmClip c true } } else s

/-- A flag of SNS_STAT for this shift, with its event (R224, R225). -/
def senseFlag (c i evt : Nat) (s : State) : State :=
  if frontEndOn s then
    let s := s.setEvt (pgSns c) evt
    { s with aud := { s.aud with sense := sparseSet 0 s.aud.sense c (putBit (sparseGet 0 s.aud.sense c) i true) } }
  else s

/-- The SNS_CLK that serves a channel (R223). -/
def senseClock (c : Nat) : Nat := c / 16

/-- The voltage and the current bits of a channel: latched on the rising and on the falling edge, which SWAP exchanges (R223). -/
def senseBits (c : Nat) (edges : List (Bool × Bool)) (s : State) : List Bool × List Bool :=
  if !frontEndOn s then ([], [])
  else if bit (s.reg (pgSns c) 0x040) 0 then (edges.map (·.2), edges.map (·.1)) else (edges.map (·.1), edges.map (·.2))

/-- The voltage and current samples of a channel in a shift, decimated by 64 (R224). -/
def senseSamples (c : Nat) (edges : List (Bool × Bool)) (s : State) : List (W24 × W24) :=
  let b := senseBits c edges s
  (decimate Config.senseDecimator 64 (s.bitStream (64 + 2 * c)).filter b.1).1.zip
    (decimate Config.senseDecimator 64 (s.bitStream (65 + 2 * c)).filter b.2).1

/-- A sample at full scale (R224). -/
def fullScale (v : W24) : Bool := decide (v = 0x7FFFFF) || decide (v = 0x800000)

/-- One of a channel's two streams over the shift that ends, voltage 0 or current 1: 256 bits without a transition set STUCK, a sample at full scale
CLIP (R224). -/
def senseStream (c k : Nat) (bits : List Bool) (s : State) : State :=
  if bits = [] then s
  else
    let i := 64 + 2 * c + k
    let d := decimate Config.senseDecimator 64 (s.bitStream i).filter bits
    let r := (s.bitStream i).pass d.2 bits
    let s := { s with aud := { s.aud with streams := sparseSet idleStream s.aud.streams i r.1 } }
    let s := if 256 ≤ r.2 then senseFlag c k 1 s else s
    if d.1.any fullScale then senseFlag c (2 + k) 2 s else s

/-- The sense streams over the shift that ends. -/
def senseStreams (sense : List (List (Bool × Bool))) (s : State) : State :=
  (List.range 96).foldl (fun s c =>
    let b := senseBits c (sense.getD c []) s
    senseStream c 1 b.2 (senseStream c 0 b.1 s)) s

/-- Bits 23:8 of the largest magnitude of a list of samples (R225 SNS_PEAK). -/
def peakOf (xs : List W24) : Nat := (xs.foldl (fun m x => max m x.toInt.natAbs) 0) / 256

/-- The boundary at the modulators and sense decimators: the last shift's flags and peaks become readable (R222, R225). -/
def outputsBoundary (samples : List (List (W24 × W24))) (s : State) : State :=
  let s := (List.range 96).foldl (fun s c =>
    let s := s.setFld (pgPwm c) 0x044 3 1 (b2n (sparseGet false s.aud.pwmClip c))
    let s := s.setReg (pgSns c) 0x044 ((sparseGet 0 s.aud.sense c).zeroExtend 32)
    let vi := samples.getD c []
    s.setReg (pgSns c) 0x048 (w32 (peakOf (vi.map (·.2)) * 0x10000 + peakOf (vi.map (·.1))))) s
  { s with aud := { s.aud with pwmClip := [], sense := [] } }

/-! ### The Refuge route -/

/-- The slot width in bits of the Refuge route's receiver (R231). -/
def refugeWidth (cfg : W32) : Nat := match fld cfg 10 2 with | 0 => 16 | 1 => 24 | _ => 32

/-- The Refuge route's own receiver reads its slot of a frame on its port's pins, with its own format (R226, R228). -/
def refugeReceive (n : Nat) (din : List (Bool × Bool)) (s : State) : State :=
  let cfg := s.reg pgRfg 0x040
  if fld cfg 2 3 = n then
    { s with aud := { s.aud with refugeSample := slotIn (refugeWidth cfg) (fld cfg 12 1) (bit cfg 14) din (fld cfg 5 5) } }
  else s

/-- A value of RFG_CFG or RFG_TONEk that is refused with BAD_VALUE (R214, R231). -/
def refugeBad (off : Nat) (data : W32) : Bool :=
  let f := fld data 8 12
  (decide (off = 0x040) && decide (fld data 10 2 = 3))
    || (decide (0x050 ≤ off) && decide (off < 0x070) && decide (f ≠ 0) && (decide (f < 100) || decide (4000 < f)))

/-- RFG_STAT bit `i`. -/
def refugeBit (i : Nat) (s : State) : Bool := bit (s.reg pgRfg 0x074) i
def setRefugeBit (i : Nat) (b : Bool) (s : State) : State := s.setFld pgRfg 0x074 i 1 (b2n b)

/-- ARM in effect. -/
def refugeArmed (s : State) : Bool := bit (s.reg pgRfg 0x070) 0

/-- The route plays its tone (R228). -/
def refugeOnTone (s : State) : Bool :=
  refugeBit 0 s && (bit (s.reg pgRfg 0x040) 0 || (refugeBit 4 s && bit (s.reg pgRfg 0x040) 1))

/-- The ON_TONE and ARMED bits brought up to date (R231). -/
def refugeShow (s : State) : State := setRefugeBit 6 (refugeArmed s) (setRefugeBit 5 (refugeOnTone s) s)

/-- Activation, the fall, or the rise out of a fall, as ARM and the causes now stand (R229, R230). -/
def refugeUpdate (s : State) : State :=
  let wanted := refugeArmed s && (refugeBit 1 s || refugeBit 2 s || refugeBit 3 s)
  let s :=
    if wanted && !refugeBit 0 s then
      let s := (setRefugeBit 0 true s).setEvt pgRfg 1
      { s with aud := { s.aud with refugeRise := true, refugeFall := false, refugeReturn := false, refugeSegment := 0 } }
    else if wanted && (s.aud.refugeFall || s.aud.refugeReturn) then
      { s with aud := { s.aud with refugeRise := true, refugeFall := false, refugeReturn := false } }
    else if !wanted && refugeBit 0 s && !s.aud.refugeFall && !s.aud.refugeReturn then
      { s with aud := { s.aud with refugeRise := false, refugeFall := true } }
    else s
  refugeShow s

/-- A cause of R229 becomes present or ends: 1 SAFE, 2 TRIAD, 3 REQ. -/
def refugeCause (i : Nat) (present : Bool) (s : State) : State := refugeUpdate (setRefugeBit i present s)

/-- A write of RFG_ARM (R227): GATED_FIELD, then the latched causes, then NOT_LOCKED. -/
def refugeArmWrite (m : Byte) (data : W32) (s : State) : State :=
  if m ≠ 0x23 ∧ m ≠ 0xFF then refuseWrite pgRfg 0x070 0x40 s
  else if refugeBit 1 s || refugeBit 2 s then s
  else if bit data 0 && !s.isLocked pgRfg then refuseWrite pgRfg 0x070 0x41 s
  else refugeUpdate (s.setReg pgRfg 0x070 (putFld 0 0 1 (fld data 0 1)))

/-- The level ramp has ended: at GAIN, or at 0 (R229, R230). -/
def refugeRampDone (s : State) : State :=
  if s.aud.refugeRise then { s with aud := { s.aud with refugeRise := false } }
  else if s.aud.refugeFall then { s with aud := { s.aud with refugeFall := false, refugeReturn := true } }
  else s

/-- The pins return to their modulators (R230). -/
def refugeDeactivate (s : State) : State :=
  if s.aud.refugeReturn then
    let s := (setRefugeBit 0 false s).setEvt pgRfg 3
    refugeShow { s with aud := { s.aud with refugeReturn := false } }
  else s

/-- FSYNC of the TDM source is absent for 4 frame periods (R228). -/
def refugeLost (s : State) : State :=
  if !bit (s.reg pgRfg 0x040) 0 && !refugeBit 4 s then
    let s := (setRefugeBit 4 true s).setEvt pgRfg 2
    refugeShow { s with aud := { s.aud with refugeSegment := 0 } }
  else s

/-- 32 regular frames have come (R228). -/
def refugeFound (s : State) : State := if refugeBit 4 s then refugeShow (setRefugeBit 4 false s) else s

/-- A tone segment's duration expires (R228). -/
def refugeSegmentEnd (s : State) : State :=
  if refugeOnTone s then
    let k := s.aud.refugeSegment + 1
    let next := if k < 8 ∧ s.getFld pgRfg (0x050 + 4 * k) 0 8 ≠ 0 then k else 0
    { s with aud := { s.aud with refugeSegment := next } }
  else s

end Sys2Proof.Machine
end

