-- ==== Sys2Proof/Machine/Energy.lean ====
section
/-!
DEFINITION. Sys2Proof/Machine/Energy.lean: the Lamp room's ledger (R375–R383), the islands' operating points (R388, R389), the
Creep gauges and the planner (R390–R393).
-/

namespace Sys2Proof.Machine

/-- A quotient in units the manual states without a rounding rule: exact where it divides, else free in its last place (log 37). -/
def divFree (place a b : Nat) : Nat := a / b + (if a % b ≠ 0 ∧ Config.roundUp place a then 1 else 0)

/-! ### The ledger -/

/-- The domains whose logic an island clocks (R18, R22). -/
def islandDomains (i : Nat) : List Nat :=
  if i < 32 then [i] else if i < 36 then (List.range 4).map (32 + 4 * (i - 32) + ·) else if i < 39 then [12 + i]
  else if i = 39 then [51] else if i = 40 then [61] else if i = 41 then [60]
  else if i = 42 then [52, 53, 54, 55, 56, 57] else if i = 43 then [60] else if i = 44 then [58] else if i = 45 then [59]
  else if i = 46 then [62] else [63]

/-- The supply code in effect of a domain: that of its island (R22, R389). -/
def domainSupply (d : Nat) (s : State) : Nat :=
  s.getFld (pgCrg (((List.range 48).find? fun i => (islandDomains i).contains d).getD 47)) 0x044 26 6

/-- The leakage of a domain's logic or of a bank array in a state: none OFF, retention leakage in RETAIN (R376). -/
def unitLeakage (unit : Nat) (v : Power) (code : Nat) (temp : Int) : Nat :=
  match v with
  | .off => 0
  | .retain => Config.leakage unit true code temp
  | .on => Config.leakage unit false code temp

/-- A lowered state of a domain or an array that an attached debugger has emulated draws as ON (R432). -/
def drawsAs (emulated : Bool) (v : Power) : Power := if emulated then .on else v

/-- The energy of a domain in a period before TRIM, in 1/20,736 of 2^-16 µJ (R376): its activity counts times their coefficients, scaled by the
square of the supply 0.600 V + 5 mV × code over 0.72 V, and the leakage of its logic and arrays; leakage alone in RETAIN, nothing OFF. -/
def modelledEnergy (d : Nat) (u : DomainUse) (s : State) : Nat :=
  let v := drawsAs (sparseGet false s.emu.dom d) (s.domain d)
  let code := domainSupply d s
  let activity := (u.counts.zipIdx).foldl (fun a x => a + x.1 * Config.activityCoeff d x.2) 0
  let arrays := (List.range 52).filter fun b => decide (bankDomain b = d)
  let leaks := arrays.foldl (fun a b => a + unitLeakage (64 + b) (drawsAs (sparseGet false s.emu.arr b) (s.array b)) code u.temp)
    (unitLeakage d v code u.temp)
  match v with
  | .off => 0
  | .retain => leaks * 20736
  | .on => activity * (120 + code) ^ 2 + leaks * 20736

/-- The energy of a domain in a period, in 2^-16 µJ: the modelled sum times TRIM (R376). -/
def domainEnergy (d : Nat) (u : DomainUse) (s : State) : Nat := divFree 0 (modelledEnergy d u s * s.getFld pgLrm 0x084 0 16) (20736 * 0x4000)

/-- What a list of the domains' use says of one: no activity and a temperature of 0 where it says nothing. -/
def useOf (use : List DomainUse) (d : Nat) : DomainUse := use.getD d ⟨[], 0⟩

/-- A domain's counter after a period's energy, with its residue (R375). -/
def ledgerAdd (d x : Nat) (s : State) : State :=
  let total := sparseGet 0 s.nrg.residue d + x
  let e := ((s.reg pgLrm (0x204 + 8 * d)).toNat * 2 ^ 32 + (s.reg pgLrm (0x200 + 8 * d)).toNat + total / 0x10000) % 2 ^ 64
  let s := (s.setReg pgLrm (0x200 + 8 * d) (w32 e)).setReg pgLrm (0x204 + 8 * d) (w32 (e / 2 ^ 32))
  { s with nrg := { s.nrg with residue := sparseSet 0 s.nrg.residue d (total % 0x10000) } }

/-- A period of the Lamp room with the domains' use (R375). -/
def lampPeriod (use : List DomainUse) (s : State) : State :=
  (List.range 64).foldl (fun s d => ledgerAdd d (domainEnergy d (useOf use d) s) s) s

/-- LRM_LASTd for a domain's energy (R378). -/
def lastUnits (x : Nat) : Nat := min 0xFFFFF (divFree 1 (x * 10) 0x10000)

/-- The ledger at a boundary that ends a shift in which the budget `total` was in effect (R375, R378, R380, R383). -/
def lampBoundary (use : List DomainUse) (total : Nat) (s : State) : State :=
  let xs := (List.range 64).map fun d => domainEnergy d (useOf use d) s
  let last := xs.map lastUnits
  let dev := min 0xFFFFF (last.foldl (· + ·) 0)
  let s := lampPeriod use s
  let s := (List.range 64).foldl (fun s d => s.setReg pgLrm (0x400 + 4 * d) (w32 (last.getD d 0))) s
  let s := s.setReg pgLrm 0x04C (w32 dev)
  let s := if total < dev then (s.incSat pgLrm 0x050 0 32).setEvt pgLrm 1 else s
  let hewers := (last.take 32).foldl (· + ·) 0
  { s with nrg := { s.nrg with fixTerms := ((dev - hewers) :: s.nrg.fixTerms).take 4
                               recent := (xs.foldl (· + ·) 0 :: s.nrg.recent).take 64 } }

/-- The forecast of a shift (R380), written into LRM_FIX. -/
def lampForecast (s : State) : State := s.setReg pgLrm 0x048 (w32 (min 0xFFFFF (s.nrg.fixTerms.foldl max 0)))

/-- TRIM after a good reading of `p` µW (R379). -/
def nextTrim (p : Nat) (s : State) : Nat × State :=
  let t := s.getFld pgLrm 0x084 0 16
  let e := s.nrg.recent.foldl (· + ·) 0
  let d := e * 3000
  if d = 0 then
    let r := drawFree s
    (max 0x2000 (min 0x8000 (Config.trimWithoutEnergy r.1)), r.2)
  else (max 0x2000 (min 0x8000 (divFree 2 (7 * t * d + p * 128 * 2 ^ 30) (8 * d))), s)

/-- A boundary at which ONS_SHIFT_NO mod 64 is 0 begins a read from register REG of device ADDR (R379). -/
def pmonBoundary (s : State) : State :=
  let cfg := s.reg pgLrm 0x080
  if bit cfg 15 && decide ((shiftNo s).toNat % 64 = 0) then { s with nrg := { s.nrg with asked := some (fld cfg 8 7, fld cfg 0 8) } } else s

/-- The read in progress of the power monitor ends, with the value read if it was acknowledged (R379). -/
def pmonRead (value : Option Nat) (s : State) : State :=
  if s.nrg.asked = none then s
  else
    let s := { s with nrg := { s.nrg with asked := none } }
    let p := value.getD 0 % 0x10000 * s.getFld pgLrm 0x080 16 16
    if value = none ∨ value.getD 0 % 0x10000 = 0 ∨ 40000000 < p then
      let bad := s.nrg.bad + 1
      let s := { s with nrg := { s.nrg with good := 0, bad := min 3 bad } }
      if bad = 3 then (s.setFld pgLrm 0x084 16 1 0).setEvt pgLrm 3 else s
    else
      let r := nextTrim p s
      let good := r.2.nrg.good + 1
      let s := { r.2 with nrg := { r.2.nrg with good := min 8 good, bad := 0 } }
      let s := (s.setFld pgLrm 0x084 0 16 r.1).setFld pgLrm 0x084 17 15 (divFree 3 p 2000)
      if 8 ≤ good then s.setFld pgLrm 0x084 16 1 1 else s

/-- EN of the power monitor is 0: VALID is 0, and a read in progress counts for nothing (R379). -/
def pmonOff (s : State) : State :=
  if bit (s.reg pgLrm 0x080) 15 then s
  else { s.setFld pgLrm 0x084 16 1 0 with nrg := { s.nrg with good := 0, bad := 0, asked := none } }

/-! ### Operating points -/

/-- Some domain of the island is ON. -/
def islandOn (i : Nat) (s : State) : Bool := (islandDomains i).any fun d => decide (s.domain d = .on)

/-- Island `i` takes no frequency request (R18, R388). -/
def islandFixed (i : Nat) : Bool := decide (i = 41) || (decide (43 ≤ i) && decide (i < 48))

/-- The frequency at which an island runs under a request and a ceiling, in kHz rounded down (R388). -/
def islandFreq (i freq ceil : Nat) : Nat :=
  if islandFixed i then islandMax i
  else
    let f := islandMax i
    let m := (List.range 61).foldl (fun best k =>
      let m := k + 4
      if f * m ≤ freq * 64 ∧ f * m * 1000 ≤ f * ceil * 64 then m else best) 4
    f * m / 64

/-- The clocks of the islands in kHz from reset release to the first boundary (R450): the Overman islands at 512 MHz, every other one from the
reference clock. -/
def bootClock (i : Nat) : Nat := if 36 ≤ i ∧ i < 39 then 512000 else 24576

/-- The frequency at which an island runs (R397, R444). -/
def islandClock (i : Nat) (s : State) : Nat :=
  match s.life.phase with
  | .booting | .bootHold => bootClock i
  | _ => s.getFld (pgCrg i) 0x044 0 21

/-- VPLAN of an island's wear record, and FCEIL. -/
def wearPlan (i : Nat) (s : State) : Nat := s.getFld pgLrm (0x600 + 4 * i) 26 6
def wearCeil (i : Nat) (s : State) : Nat := s.getFld pgLrm (0x600 + 4 * i) 16 10

/-- The code the islands that are on need, with the supply codes in effect (R389). -/
def codeInEffect (s : State) : Nat :=
  (List.range 48).foldl (fun c i => if islandOn i s then max c (s.getFld (pgCrg i) 0x044 26 6) else c) 10

/-- The point of an island takes effect: VPLAN, and the frequency asked for under the ceiling (R20, R388, R389). -/
def islandPoint (i : Nat) (s : State) : State :=
  let ceil := wearCeil i s
  let s := s.setReg (pgCrg i) 0x044 (w32 (wearPlan i s * 0x4000000 + islandFreq i (s.getFld (pgCrg i) 0x040 0 21) ceil))
  { s with nrg := { s.nrg with ceil := sparseSet 1000 s.nrg.ceil i ceil } }

/-- The points of the islands at a boundary (R20, R388, R389): a change that needs a higher code than the one being output waits for the next
boundary, and the higher code is output now. A frequency request of an island whose VPLAN rises at the same boundary waits with it, although
it needs no higher code itself: DESIGN CHOICE (log 58). The result is the highest code a waiting change needs. -/
def pointsBoundary (s : State) : Nat × State :=
  (List.range 48).foldl (fun (acc : Nat × State) i =>
    let s := acc.2
    let plan := wearPlan i s
    if s.nrg.vid < plan ∧ islandOn i s then (max acc.1 plan, s) else (acc.1, islandPoint i s)) (0, s)

/-- The highest VPLAN of the islands that a domain's coming on supplies (R389). -/
def domainCode (d : Nat) (s : State) : Nat :=
  (List.range 48).foldl (fun c i => if d ∈ islandDomains i then max c (wearPlan i s) else c) 10

/-- The code output after a boundary: raised at once, lowered one shift after the need ends (R389). -/
def vidBoundary (waiting : Nat) (s : State) : State :=
  let need := max waiting (codeInEffect s)
  { s with nrg := { s.nrg with vid := max need s.nrg.vidNeed, vidPast := (s.nrg.vid, s.nrg.vidPast.1), vidNeed := need } }

/-- The codes with which the supply monitor compares CORE_LOW and CORE_HIGH: the lower and the higher one in the shift in which a change of code is
output and in the next, else the code in effect (R471). -/
def comparedCodes (s : State) : Nat × Nat :=
  let n := s.nrg
  (min n.vid (min n.vidPast.1 n.vidPast.2), max n.vid (max n.vidPast.1 n.vidPast.2))

/-- The cycles PRIMARY holds for an island at the frequency in effect (R45). -/
def primaryCycles (i : Nat) (s : State) : Nat := 290 * s.getFld (pgCrg i) 0x044 0 21 / 1000

/-! ### Surveys -/

/-- A survey of an island runs. -/
def surveyRuns (i : Nat) (s : State) : Bool := decide (s.getFld (pgCrg i) 0x04C 0 2 = 1)

/-- A survey starts (R391). -/
def surveyStart (i : Nat) (s : State) : State := (s.setFld (pgCrg i) 0x04C 0 2 1).setFld (pgCrg i) 0x048 0 1 1

/-- The state with a survey marked due or not. -/
def setSurveyDue (i : Nat) (b : Bool) (s : State) : State :=
  { s with nrg := { s.nrg with surveyDue := sparseSet false s.nrg.surveyDue i b } }

/-- A survey is asked for: it starts, or waits for the domain to be ON (R391). -/
def surveyAsk (i : Nat) (s : State) : State :=
  if surveyRuns i s then s else if islandOn i s then surveyStart i s else setSurveyDue i true s

/-- The surveys due whose domains are ON at a boundary (R391). -/
def surveyBoundary (s : State) : State :=
  (List.range 48).foldl (fun s i =>
    if sparseGet false s.nrg.surveyDue i && islandOn i s && !surveyRuns i s then setSurveyDue i false (surveyStart i s) else s) s

/-- The planner's result of a survey (R390, R391): VNEED and FNEED. -/
def plannerNeed (vstart dstep degr : Nat) : Nat × Nat :=
  let v := vstart + (degr + dstep - 1) / dstep
  if v ≤ 50 then (v, 1000) else (50, max 62 (1000 - (v - 50) * dstep))

/-- A survey completes with the four gauges' slowdowns (R390, R391). -/
def surveyFinish (i : Nat) (gauges : List Int) (s : State) : State :=
  if !surveyRuns i s then s
  else
    let p := pgCrg i
    let g (k : Nat) : Int := clampInt (-512) 511 (gauges.getD k 0)
    let degr := (max 0 (max (g 0) (max (g 1) (max (g 2) (g 3))))).toNat
    let need := plannerNeed (s.getFld p 0x060 26 6) (s.getFld p 0x060 0 8) degr
    let s := (List.range 4).foldl (fun s k => s.setReg p (0x050 + 4 * k) ((wrap 10 (g k)).zeroExtend 32)) s
    let s := s.setReg p 0x04C (w32 (need.1 * 0x4000000 + need.2 * 0x10000 + degr * 0x40 + 2))
    let s := (s.setFld p 0x048 0 1 0).setEvt p 1
    s.setEvtIf (decide (s.getFld p 0x044 26 6 < need.1) || decide (need.2 < sparseGet 1000 s.nrg.ceil i)) p 2

/-- The shifts of an operating hour (R393). -/
def hourOfShifts : Nat := 5400000

/-- A shift ends (R393). -/
def hourBoundary (s : State) : State := { s with nrg := { s.nrg with hourShifts := s.nrg.hourShifts + 1 } }

/-- An operating hour has passed (R393, R391). -/
def opHour (s : State) : State :=
  let s := { s.incReg pgLrm 0x08C with nrg := { s.nrg with hourShifts := s.nrg.hourShifts - hourOfShifts } }
  if (s.reg pgLrm 0x08C).toNat % 24 = 0 then
    (List.range 48).foldl (fun s i => if bit (s.reg (pgCrg i) 0x048) 1 then surveyAsk i s else s) s
  else s

/-- A write of a wear record (R392). -/
def wearWrite (m : Byte) (i : Nat) (data : W32) (s : State) : State :=
  let off := 0x600 + 4 * i
  if m ≠ 0x23 ∧ m ≠ 0xFF then refuseWrite pgLrm off 0x40 s
  else
    let v := fld data 26 6
    let c := fld data 16 10
    if v < wearPlan i s ∨ 50 < v ∨ wearCeil i s < c ∨ c < 62 then refuseWrite pgLrm off 0x06 s
    else
      let lowered := decide (c < wearCeil i s) && decide (c < 1000)
      (s.setReg pgLrm off (putFld data 0 6 0)).setEvtIf lowered pgLrm 4

/-- A write of CRG_FREQ (R388, R397). -/
def freqWrite (m : Byte) (i : Nat) (data : W32) (s : State) : State :=
  let p := pgCrg i
  let f := fld data 0 21
  if m ≠ 0x23 ∧ m ≠ 0xFF then refuseWrite p 0x040 0x41 s
  else if islandFixed i ∨ f * 64 < islandMax i * 4 ∨ islandMax i < f then refuseWrite p 0x040 0x06 s
  else s.setReg p 0x040 (w32 f)

/-- A write of 1 to CRG_CTRL.GO (R391). -/
def surveyGo (i : Nat) (s : State) : State :=
  if surveyRuns i s then refuseWrite (pgCrg i) 0x048 0x40 s else surveyAsk i s

end Sys2Proof.Machine
end

