-- ==== Sys2Proof/Machine/Tasks.lean ====
section
/-!
DEFINITION. Sys2Proof/Machine/Tasks.lean: the Onsetter: the Roster (R53–R58), admission (R59, R380–R382), dispatch (R60–R63),
ownership at the phase edges (R64, R65, R183), cuts and losses (R66–R70), verdicts (R177–R179) and quarantine (R182–R184).
-/

namespace Sys2Proof.Machine

/-! ### The Roster -/

/-- A Roster entry (R54): its four words, and whether the read returned poisoned data. -/
structure Entry where
  w0 : W32
  w1 : W32
  w2 : W32
  w3 : W32
  poison : Bool
  deriving DecidableEq, Repr

def Entry.valid (e : Entry) : Bool := bit e.w0 31
def Entry.cls (e : Entry) : Nat := fld e.w0 29 2
def Entry.xform (e : Entry) : Nat := fld e.w0 27 2
def Entry.hewer (e : Entry) : Nat := fld e.w0 22 5
def Entry.thread (e : Entry) : Nat := fld e.w0 20 2
def Entry.after (e : Entry) : Option Nat := if bit e.w0 19 then some (fld e.w0 0 10) else none
def Entry.spareOk (e : Entry) : Bool := bit e.w0 18
def Entry.start (e : Entry) : W24 := BitVec.ofNat 24 (fld e.w1 2 17 * 4)
def Entry.energy (e : Entry) : Nat := fld e.w2 20 12
def Entry.cycles (e : Entry) : Nat := fld e.w2 0 20
def Entry.arg (e : Entry) : W24 := BitVec.ofNat 24 (fld e.w3 0 24)

/-- The address of an entry (R53). -/
def entryAddr (buf e : Nat) : Nat := 0x02780000 + buf * 0x4000 + e * 16

/-- The Onsetter's read of an entry. -/
def readEntry (buf e : Nat) (s : State) : Entry × State :=
  let a := readWord .access (entryAddr buf e / 8) s
  let b := readWord .access (entryAddr buf e / 8 + 1) a.2.2
  (⟨w32 (fld a.1 0 32), w32 (fld a.1 32 32), w32 (fld b.1 0 32), w32 (fld b.1 32 32), a.2.1 || b.2.1⟩, b.2.2)

/-- The entries of a buffer with a word that is not invalid, ascending; every other entry reads 0 and is no task (R298). -/
def rosterPresent (buf : Nat) (s : State) : List Nat :=
  let lo := entryAddr buf 0 / 8
  (((s.mem.words.map (·.1)).filter fun w => decide (lo ≤ w) && decide (w < lo + 0x800)).map fun w => (w - lo) / 2).eraseDups

/-- The present entries of a buffer, read in ascending order. -/
def readRoster (buf : Nat) (s : State) : List (Nat × Entry) × State :=
  (rosterPresent buf s).foldl (fun acc e =>
    let r := readEntry buf e acc.2
    (acc.1 ++ [(e, r.1)], r.2)) ([], s)

/-- An entry among those read; one that is not present is all zeros. -/
def entryIn (es : List (Nat × Entry)) (e : Nat) : Entry :=
  match es.find? (fun x => decide (x.1 = e)) with
  | some x => x.2
  | none => ⟨0, 0, 0, 0, false⟩

/-- A Hewer's power request is ON (R55 HEWER_OFF). -/
def hewerRequested (n : Nat) (s : State) : Bool := decide (s.getFld (pgHwr n) 0x01C 0 2 = 2)

/-- The first check of R55 that an entry fails, if any. -/
def entryCheck (es : List (Nat × Entry)) (i : Nat) (e : Entry) (s : State) : Option Nat :=
  if !e.valid then (if e.poison then some 9 else none)
  else if fld e.w0 10 8 ≠ 0 ∨ fld e.w1 19 13 ≠ 0 ∨ fld e.w1 0 2 ≠ 0 ∨ fld e.w3 24 8 ≠ 0 then some 1
  else if e.xform = 3 then some 2
  else if e.xform = 0 ∧ e.cls = 0 then some 3
  else
    let pred := match e.after with
      | none => none
      | some a =>
        if i ≤ a then some 4
        else if !(entryIn es a).valid then some 5
        else if e.cls < (entryIn es a).cls then some 6
        else none
    match pred with
    | some c => some c
    | none => if !hewerRequested e.hewer s then some 7 else if e.poison then some 9 else none

/-- An owner the plan of Stope bank `k` may name (R55). -/
def planOwnerOk (k o : Nat) : Bool :=
  let d := k / 4
  (decide (8 * d ≤ o) && decide (o < 8 * d + 8)) || (decide (0x90 ≤ o) && decide (o < 0x94)) || decide (o = 0xFF)

/-- The plan registers of buffer `b` and Stope bank `k` (R71). -/
def planA (b k : Nat) (s : State) : W32 := s.reg pgOns (0x100 + b * 0x80 + k * 8)
def planB (b k : Nat) (s : State) : W32 := s.reg pgOns (0x104 + b * 0x80 + k * 8)

/-- The first bank whose enabled plan names an owner that is not permitted (R55 BAD_OWNER). -/
def planCheck (b : Nat) (s : State) : Option Nat :=
  (List.range 16).find? fun k =>
    bit (planB b k s) 31 && !((List.range 4).all (fun i => planOwnerOk k (fld (planA b k s) (8 * i) 8)) && planOwnerOk k (fld (planB b k s) 0 8))

/-- The first failure of a validation: BAD_CAUSE and BAD_INDEX (R55). -/
def rosterCheck (es : List (Nat × Entry)) (b : Nat) (s : State) : Option (Nat × Nat) :=
  match es.findSome? (fun x => (entryCheck es x.1 x.2 s).map fun c => (c, x.1)) with
  | some r => some r
  | none => (planCheck b s).map fun k => (0x0A, k)

/-- The bytes of a buffer as read. -/
def bufferBytes (b : Nat) (s : State) : List Byte :=
  (List.range 0x800).flatMap fun w => bytesOf 8 (s.mem.decoded (entryAddr b 0 / 8 + w)).2.1.toNat

/-- The shift stands at 650.0 µs or later (R56). -/
def pastRelease (s : State) : Bool :=
  match s.ons.seg with
  | .drain => true
  | .cutoff => true
  | .lamp => true
  | _ => false

/-- A validation of the inactive buffer and plan completes (R55, R56). BAD_CAUSE and BAD_INDEX keep what the last BAD result left while a validation
runs and after any other result: DESIGN CHOICE (log 73). -/
def validationDone (s : State) : State :=
  if rosterResult s ≠ 1 then s
  else
    let b := 1 - activeBuffer s
    let r := readRoster b s
    let s := r.2.setReg pgOns 0x048 (crc32 (bufferBytes b r.2))
    match rosterCheck r.1 b s with
    | some (c, i) => (((s.setFld pgOns 0x044 0 3 3).setFld pgOns 0x044 8 8 c).setFld pgOns 0x044 16 10 i).setEvt pgOns 2
    | none => { s.setFld pgOns 0x044 0 3 2 with ons := { s.ons with readyLate := s.ons.runs && pastRelease s } }

/-- A write of 1 to CANCEL (R56). -/
def rosterCancel (s : State) : State := if rosterResult s = 1 ∨ rosterResult s = 2 then s.setFld pgOns 0x044 0 3 4 else s

/-- A write of 1 to SWITCH (R55, R56). -/
def rosterSwitch (s : State) : State := if rosterResult s = 1 ∨ rosterResult s = 2 then s else s.setFld pgOns 0x044 0 3 1

/-- A buffer that is READY becomes active at the boundary; one that became READY late waits for the next (R56, R171). -/
def rosterActivate (s : State) : State :=
  if rosterResult s = 2 then
    if s.ons.readyLate then { s with ons := { s.ons with readyLate := false } }
    else
      let s := (s.setFld pgOns 0x040 0 1 (1 - activeBuffer s)).setFld pgOns 0x044 0 3 5
      let s := s.setEvt pgOns 1
      { s with ons := { s.ons with everActive := true, lastHewer := [] } }
  else s

/-- The buffer whose tasks the next boundary dispatches: the READY one if its switch is pending for it, else the active one (R58);
none before any switch. -/
def nextBuffer (s : State) : Option Nat :=
  if rosterResult s = 2 ∧ !s.ons.readyLate then some (1 - activeBuffer s)
  else if s.ons.everActive then some (activeBuffer s) else none

/-! ### Losses -/

/-- An entry of the loss log (R71): dropped when the log is full. -/
def logLoss (cause e : Nat) (s : State) : State :=
  let v : W32 := w32 (0x80000000 + cause * 0x8000000 + fld (shiftNo s) 0 10 * 0x10000 + e)
  if 16 ≤ s.ons.cutLog.length then s.setEvt pgOns 7 else { s with ons := { s.ons with cutLog := s.ons.cutLog ++ [v] } }

/-- A task of the present shift. -/
def State.task (s : State) (e : Nat) : Option TaskRec := sparseGet none s.ons.tasks e

/-- The state with a task's record set. -/
def State.setTask (s : State) (e : Nat) (t : Option TaskRec) : State :=
  { s with ons := { s.ons with tasks := sparseSet none s.ons.tasks e t } }

/-- A task is lost with a cause (R66–R70): logged, TASK_CUT set, and its next dispatch carries RESYNC (R69, R171). -/
def loseTask (cause e : Nat) (s : State) : State :=
  match s.task e with
  | none => s
  | some t =>
    let s := s.setTask e (some { t with st := .lost (BitVec.ofNat 4 cause) })
    let s := (logLoss cause e s).setEvt pgOns 3
    { s with ons := { s.ons with owed := sparseSet false s.ons.owed e true } }

/-- A task is shed with a cause (R59, R69): logged, and TASK_SHED set. -/
def shedTask (cause e : Nat) (s : State) : State :=
  match s.task e with
  | none => s
  | some t =>
    let s := s.setTask e (some { t with st := .shed (BitVec.ofNat 4 cause) })
    (logLoss cause e s).setEvt pgOns 4

/-- The indexes of the shift's tasks, ascending. -/
def taskIndexes (s : State) : List Nat := s.ons.tasks.map (·.1)

/-- A thread stops at once and becomes idle; a locked sequence of it is broken (R63, R66, R135). Its stores that still wait in the core's store buffer
stay there and are performed in their turn: DESIGN CHOICE (log 74). -/
def stopThread (h : Hart) (s : State) : State :=
  let t := s.thread h
  s.setThread h { t with running := false, hold := .none, rep := none, block := none, latch := [], buf := [], entering := none, agreed := none,
                         resume := none, afterRetx := false, lock := ⟨0, [], [], false⟩, sr := putBit t.sr 7 false }

/-- A thread's task register VALID bit cleared (R186). -/
def clearDispatch (h : Hart) (s : State) : State := s.setFld (pgHwr h.core.val) (0x060 + 4 * h.thread.val) 31 1 0

/-- The thread of a Hewer by numbers. -/
def hewerThread (n t : Nat) : Hart := ⟨Fin.ofNat 35 n, Fin.ofNat 4 t⟩

/-- A running task is cut (R66, R67). -/
def cutTask (cause e : Nat) (t : TaskRec) (s : State) : State :=
  let h := hewerThread t.hewer t.thread
  loseTask cause e (clearDispatch h (stopThread h s))

/-- The predecessor of a task is lost or shed. -/
def predLost (t : TaskRec) (s : State) : Bool :=
  match t.after with
  | none => false
  | some a => match s.task a with
    | some p => (match p.st with | .lost _ => true | .shed _ => true | _ => false)
    | none => true

/-- The end of PRIMARY for each task in ascending order (R66, R68). A task whose predecessor was lost earlier in the phase holds its place on its thread
until here, where it is lost with PRED_LOST and later tasks of the thread with NOT_STARTED: DESIGN CHOICE (log 75). -/
def primaryCuts (s : State) : State :=
  (taskIndexes s).foldl (fun s e =>
    match s.task e with
    | some t => match t.st with
      | .inPrimary => cutTask 1 e t s
      | .waiting => loseTask (if predLost t s then 4 else 3) e s
      | _ => s
    | none => s) s

/-- The end of SHADOW for each task in ascending order (R67, R68). -/
def shadowCuts (s : State) : State :=
  (taskIndexes s).foldl (fun s e =>
    match s.task e with
    | some t => match t.st with
      | .inShadow => cutTask 2 e t s
      | .donePrimary => loseTask (if predLost t s then 4 else 3) e s
      | _ => s
    | none => s) s

/-- The running tasks are cut at SAFE entry (R405). -/
def safeCuts (s : State) : State :=
  (taskIndexes s).foldl (fun s e =>
    match s.task e with
    | some t => match t.st with
      | .inPrimary => cutTask 1 e t s
      | .inShadow => cutTask 2 e t s
      | _ => s
    | none => s) s

/-- A District whose INTAKE is late starts none of its tasks (R52). -/
def intakeLateTasks (d : Nat) (s : State) : State :=
  (taskIndexes s).foldl (fun s e =>
    match s.task e with
    | some t => if t.hewer / 8 = d ∧ t.st = .waiting then loseTask 5 e s else s
    | none => s) s

/-! ### Admission -/

/-- A Hewer is quarantined (R183). -/
def quarantined (n : Nat) (s : State) : Bool := bit (s.reg pgOns 0x058) n

/-- The valid spare of a District that may run work: not quarantined, its domain ON (R70, R183). -/
def spareOf (d : Nat) (s : State) : Option Nat :=
  let v := fld (s.reg pgOns 0x054) (8 * d) 8
  let n := v % 32
  if 128 ≤ v ∧ !quarantined n s ∧ s.domain n = .on then some n else none

/-- The Hewer that runs an entry (R70): none for want of a spare. -/
def runsOn (e : Entry) (s : State) : Option Nat :=
  if quarantined e.hewer s then (if e.spareOk then spareOf (e.hewer / 8) s else none) else some e.hewer

/-- The record of an entry in a new shift. -/
def taskOf (e : Entry) (n : Nat) (st : TaskState) : TaskRec :=
  { hewer := n, thread := e.thread, cls := e.cls, xform := e.xform, after := e.after, entry := e.start, arg := e.arg,
    resync := false, st := st }

/-- The cycle fit of one thread (R59): the entries that fit, then the first that does not and every later one. -/
def cycleFit (limit : Nat) : List (Nat × Entry) → Nat → List (Nat × Bool)
  | [], _ => []
  | (i, e) :: rest, sum =>
    if sum + e.cycles ≤ limit then (i, true) :: cycleFit limit rest (sum + e.cycles)
    else (i, false) :: rest.map fun x => (x.1, false)

/-- The energy step of one class (R381): the sum admitted and the indexes shed. -/
def energyClass (cap : Nat) : List (Nat × Nat) → Nat → Bool → Nat × List Nat
  | [], sum, _ => (sum, [])
  | (i, en) :: rest, sum, closed =>
    if !closed && decide (sum + en ≤ cap) then energyClass cap rest (sum + en) false
    else
      let r := energyClass cap rest sum true
      (r.1, i :: r.2)

/-- The energy step over the classes from `c` on (R381, R382): indexes shed, with LRM_CLASSc recorded. -/
def energySteps (tasks : List (Nat × Entry)) : Nat → Int → State → List Nat × State
  | 0, _, s => ([], s)
  | n + 1, remaining, s =>
    let c := 3 - n
    let on := s.active pgLrm
    let budget := s.effFld pgLrm (0x060 + 4 * c) 0 20
    let cap := if !on then 2 ^ 40 else if c = 0 then budget else min budget remaining.toNat
    let mine := (tasks.filter fun x => decide (x.2.cls = c)).map fun x => (x.1, x.2.energy)
    let r := energyClass cap mine 0 false
    let s := s.setReg pgLrm (0x070 + 4 * c) (w32 (min 255 r.2.length * 0x1000000 + min 0xFFFFF r.1))
    let s := s.setEvtIf (decide (c = 0) && decide (r.2 ≠ [])) pgLrm 2
    let rest := energySteps tasks n (remaining - r.1) s
    (r.2 ++ rest.1, rest.2)

/-- The tasks lost or shed through their predecessors at admission (R59, R68), ascending. -/
def admissionPreds (s : State) : State :=
  (taskIndexes s).foldl (fun s e =>
    match s.task e with
    | some t =>
      if t.st = .waiting ∧ predLost t s then
        match t.after with
        | some a => match s.task a with
          | some p => (match p.st with
            | .lost _ => s.setTask e (some { t with st := .lost 4 })
            | _ => s.setTask e (some { t with st := .shed 4 }))
          | none => s.setTask e (some { t with st := .shed 4 })
        | none => s
      else s
    | none => s) s

/-- The losses of admission logged, in ascending order (R69). -/
def admissionLog (s : State) : State :=
  (taskIndexes s).foldl (fun s e =>
    match s.task e with
    | some t => match t.st with
      | .lost c => loseTask c.toNat e s
      | .shed c => shedTask c.toNat e s
      | _ => s
    | none => s) s

/-- The Onsetter dispatches in the shift that begins: enabled, a switch has made a buffer active, and no SAFE (R58, R405). -/
def onsetterDispatches (s : State) : Bool := s.active pgOns && s.ons.everActive && !s.guard.safe

/-- Admission of the shift's tasks (R59, R70, R381). An entry lost with NO_SPARE counts in LOST and not in ADMITTED: DESIGN CHOICE (log 76). A poisoned entry answers true: SAFE with cause ROSTER_POISON, and no task
is dispatched (R401). -/
def admitTasks (s : State) : Bool × State :=
  if !onsetterDispatches s then (false, s)
  else
    let r := readRoster (activeBuffer s) s
    let s := r.2
    if r.1.any (fun x => x.2.poison) then (true, s)
    else
      let es := r.1.filter fun x => x.2.valid
      let s := es.foldl (fun s x => s.setTask x.1 (some (match runsOn x.2 s with
        | some n => taskOf x.2 n .waiting
        | none => taskOf x.2 x.2.hewer (.lost 8)))) s
      let run := es.filter fun x => (runsOn x.2 s).isSome
      let fits := (List.range 128).flatMap fun k =>
        cycleFit (primaryCycles (k / 4) s) (run.filter fun x => decide (runsOn x.2 s = some (k / 4)) && decide (x.2.thread = k % 4)) 0
      let s := fits.foldl (fun s x => if x.2 then s else
        match s.task x.1 with
        | some t => s.setTask x.1 (some { t with st := .shed 6 })
        | none => s) s
      let passed := run.filter fun x => fits.any fun f => decide (f.1 = x.1) && f.2
      let fix : Int := ((s.reg pgLrm 0x048).toNat : Int)
      let total : Int := (s.effFld pgLrm 0x044 0 20 : Int)
      let r := energySteps passed 4 (total - fix) s
      let s := r.1.foldl (fun s i => match s.task i with
        | some t => s.setTask i (some { t with st := .shed 7 })
        | none => s) r.2
      let s := admissionLog (admissionPreds s)
      let n := ((taskIndexes s).filter fun e => match s.task e with
        | some t => decide (t.st = .waiting)
        | none => false).length
      (false, { s with ons := { s.ons with admitted := n } })

/-- ONS_LAST_ADMIT and ONS_LAST_LOSS of the shift that ends, and the tables of the new one (R71, R177). -/
def closeShift (s : State) : State :=
  let count (p : TaskState → Bool) : Nat := ((taskIndexes s).filter fun e => match s.task e with
    | some t => p t.st
    | none => false).length
  let lost := count fun st => match st with | .lost _ => true | _ => false
  let shed := count fun st => match st with | .shed _ => true | _ => false
  let s := (s.setReg pgOns 0x05C (w32 s.ons.admitted)).setReg pgOns 0x060 (w32 (shed * 0x10000 + lost))
  { s with ons := { s.ons with tasks := [], admitted := 0, verdicts := [] } }

/-! ### Dispatch -/

/-- The registers of a thread at dispatch (R61, R84). -/
def dispatched (n t xform pass : Nat) (entry arg : W24) (old : Thread) : Thread :=
  { old with
    a := sparseSet 0 [] 0 arg
    d := sparseSet ⟨0, false⟩ [] 0 ⟨BitVec.ofNat 24 pass, false⟩
    x := [], p := []
    s := sparseSet ⟨0, 0, 0⟩ [] 0 ⟨w32 (n * 0x80000), 0x07080000, w32 n⟩
    pc := entry, rc := 0, bn := 0
    sr := w32 (n * 0x10000 + t * 0x100 + xform * 0x20 + pass * 0x10 + 3)
    xsr := 0, xcause := 0, xinfo := 0, latch := [], buf := [], hold := .none, rep := none, block := none, lock := ⟨0, [], [], false⟩
    entering := none, agreed := none, lineBuf := [], resume := none, afterRetx := false, sig := ⟨0, 0, false⟩, running := true, retired := 0 }

/-- The next task of a thread in a pass: the lowest that has not completed it (R60). -/
def nextTask (n t : Nat) (st : TaskState) (s : State) : Option (Nat × TaskRec) :=
  (taskIndexes s).findSome? fun e => match s.task e with
    | some r => if r.hewer = n ∧ r.thread = t ∧ r.st = st then some (e, r) else none
    | none => none

/-- A task's predecessor has completed the pass, or it has none (R60). -/
def predReady (t : TaskRec) (pass : Nat) (s : State) : Bool :=
  match t.after with
  | none => true
  | some a => match s.task a with
    | some p => (match p.st with
      | .done => true
      | .donePrimary => decide (pass = 0)
      | .inShadow => decide (pass = 0)
      | _ => false)
    | none => false

/-- Dispatch of a thread's next task (R60, R61, R171): nothing if the thread is not idle, has none, or waits on AFTER. -/
def dispatch (h : Hart) (s : State) : State :=
  let pass := match s.ons.seg with
    | .primary => some 0
    | .shadow => some 1
    | _ => none
  match pass with
  | none => s
  | some p =>
    if !isHewer h ∨ (s.thread h).running ∨ s.guard.safe ∨ (s.core h.core.val).lockup then s
    else
      let n := h.core.val
      let t := h.thread.val
      match nextTask n t (if p = 0 then .waiting else .donePrimary) s with
      | none => s
      | some (e, r) =>
        if !predReady r p s then s
        else
          let re := if p = 0 then sparseGet false s.ons.owed e || decide (sparseGet none s.ons.lastHewer e ≠ some n) else r.resync
          let s := s.setTask e (some { r with st := if p = 0 then .inPrimary else .inShadow, resync := re })
          let s := if p = 0 then
              { s with ons := { s.ons with owed := sparseSet false s.ons.owed e false, lastHewer := sparseSet none s.ons.lastHewer e (some n) } }
            else s
          let s := s.setReg (pgHwr n) (0x060 + 4 * t)
            (w32 (0x80000000 + b2n re * 0x40000000 + p * 0x20000000 + r.xform * 0x8000000 + e))
          s.setThread h (dispatched n t r.xform p r.entry r.arg (s.thread h))

/-- The products of a thread's latch written into their P registers (R147). -/
def flushLatch (t : Thread) : Thread :=
  { t with p := t.latch.foldl (fun p x => sparseSet ⟨0, false⟩ p x.reg x.val) t.p, latch := [] }

/-- The pass of a thread that has retired TDONE completes, once its stores have been performed (R62, R147, R177). -/
def passComplete (h : Hart) (s : State) : State :=
  let t := s.thread h
  let waitingStores := (s.core h.core.val).stores.any fun e => decide (e.thread = h.thread)
  if !isHewer h ∨ t.hold ≠ .passEnd ∨ waitingStores then s
  else
    let v := s.reg (pgHwr h.core.val) (0x060 + 4 * h.thread.val)
    let e := fld v 0 10
    let p := fld v 29 1
    let s := s.setThread h { flushLatch t with running := false, hold := .none, buf := [] }
    let s := clearDispatch h s
    let s := { s with ons := { s.ons with verdicts := sparseSet none s.ons.verdicts (2 * e + p) (some t.sig) } }
    match s.task e with
    | some r => s.setTask e (some { r with st := if p = 0 then .donePrimary else .done })
    | none => s

/-! ### Ownership at the phase edges -/

/-- The owner of a plan, with a quarantined Hewer replaced by its District's spare (R183). -/
def planOwner (o : Nat) (s : State) : Nat :=
  if o < 32 ∧ quarantined o s then (spareOf (o / 8) s).getD o else o

/-- The owners of a phase applied to the banks whose plan is enabled (R64): 0 INTAKE, 1 PRIMARY, 2 SHADOW, 3 VERDICT, 4 DRAIN. -/
def applyOwners (phase : Nat) (s : State) : State :=
  if !s.active pgOns then s
  else
    let b := activeBuffer s
    (List.range 16).foldl (fun s k =>
      if bit (planB b k s) 31 then
        edgeOwner (32 + k) (planOwner (if phase < 4 then fld (planA b k s) (8 * phase) 8 else fld (planB b k s) 0 8) s) s
      else s) s

/-! ### Verdicts -/

/-- A stored signature corrected: its 64 bits, whether a single error was corrected, whether it cannot be (R178). -/
def sigDecode (x : Sig) : W64 × Bool × Bool :=
  match classify x.bits x.check with
  | .clean => (x.bits, false, false)
  | .singleData j => (x.bits ^^^ (1#64 <<< j), true, false)
  | .singleCheck => (x.bits, true, false)
  | _ => (x.bits, false, true)

/-- A stored signature of an entry and pass. -/
def storedSig (e p : Nat) (s : State) : Sig := (sparseGet none s.ons.verdicts (2 * e + p)).getD ⟨0, 0, false⟩

/-- The outcome of an entry (R178). -/
def verdictOf (e : Nat) (t : TaskRec) (s : State) : Verdict :=
  let a := storedSig e 0 s
  let b := storedSig e 1 s
  let da := sigDecode a
  let db := sigDecode b
  let predBad : Bool := match t.after with
    | some i => decide (sparseGet Verdict.none s.ons.outcomes i ≠ .matched)
    | none => false
  if predBad then .predFail
  else if a.poison || b.poison then .poisoned
  else if da.2.2 || db.2.2 || !(s.comparator t.hewer).shows (decide (da.1 = db.1)) then .mismatch
  else .matched

/-- An entry of a Hewer's outcome log (R186). -/
def logOutcome (n code e : Nat) (s : State) : State :=
  let c := s.core n
  let v : W32 := w32 (0x80000000 + code * 0x10000000 + fld (shiftNo s) 0 10 * 0x10000 + e)
  if 16 ≤ c.mmLog.length then s.setEvt (pgHwr n) 7 else s.setCore n { c with mmLog := c.mmLog ++ [v] }

/-- The records of one outcome on the executing Hewer's page (R178, R186). -/
def recordVerdict (e : Nat) (t : TaskRec) (v : Verdict) (s : State) : State :=
  let p := pgHwr t.hewer
  let da := sigDecode (storedSig e 0 s)
  let db := sigDecode (storedSig e 1 s)
  let s := s.setEvtIf (da.2.1 || db.2.1) p 6
  let s := { s with ons := { s.ons with outcomes := sparseSet Verdict.none s.ons.outcomes e v
                                        owed := sparseSet false s.ons.owed e (sparseGet false s.ons.owed e || decide (v ≠ .matched)) } }
  match v with
  | .none => s
  | .matched => s
  | .predFail => logOutcome t.hewer 3 e s
  | .poisoned => logOutcome t.hewer 2 e (s.setEvt p 3)
  | .mismatch =>
    let s := logOutcome t.hewer 1 e (s.setEvt p 2)
    (((s.setReg p 0x080 (w32 da.1.toNat)).setReg p 0x084 (w32 (da.1.toNat / 2 ^ 32))).setReg p 0x088
      (w32 db.1.toNat)).setReg p 0x08C (w32 (db.1.toNat / 2 ^ 32))

/-- A Hewer is to be quarantined from the next boundary (R183). -/
def quarantineDue (n : Nat) (s : State) : State := s.setCore n { s.core n with quarantineDue := true }

/-- The summary of a Hewer's verdicts (R182, R186). -/
def verdictSummary (n mm ok : Nat) (s : State) : State :=
  let run := s.getFld (pgHwr n) 0x070 16 2
  let run' := if 0 < mm then min 3 (run + 1) else if 0 < ok then 0 else run
  let s := s.setReg (pgHwr n) 0x070 (w32 (run' * 0x10000 + min 255 mm * 0x100 + min 255 ok))
  if 0 < mm ∧ run' = 3 ∧ !quarantined n s then quarantineDue n s else s

/-- A comparator fault of a Hewer (R179, R183). -/
def verdictCmpFault (n : Nat) (s : State) : State := quarantineDue n (s.setEvt (pgHwr n) 5)

/-- The verdicts of the shift in ascending Roster order, the Hewers' summaries, and the dual-rail check of the comparators that compared
(R178, R179, R182). -/
def verdicts (s : State) : State :=
  let s := { s with ons := { s.ons with outcomes := [] } }
  let s := (taskIndexes s).foldl (fun s e =>
    match s.task e with
    | some t => if t.st = .done then recordVerdict e t (verdictOf e t s) s else s
    | none => s) s
  (List.range 32).foldl (fun s n =>
    let count (v : Verdict) : Nat := ((taskIndexes s).filter fun e => match s.task e with
      | some t => decide (t.hewer = n) && decide (t.st = .done) && decide (sparseGet Verdict.none s.ons.outcomes e = v)
      | none => false).length
    let s := verdictSummary n (count .mismatch) (count .matched) s
    if s.comparator n = .badCode ∧ 0 < count .mismatch + count .matched then verdictCmpFault n s else s) s

/-- The first dispatch of each of a Hewer's entries, on whichever Hewer it then runs, carries RESYNC (R171, R183, R184). -/
def oweResync (n : Nat) (s : State) : State :=
  let es := (readRoster (activeBuffer s) s).1.filter fun x => decide (x.2.hewer = n)
  { s with ons := { s.ons with owed := es.foldl (fun m x => sparseSet false m x.1 true) s.ons.owed } }

/-- The quarantines that take effect at a boundary (R162, R183). -/
def quarantineBoundary (s : State) : State :=
  (List.range 32).foldl (fun s n =>
    let c := s.core n
    if c.quarantineDue then
      let s := s.setCore n { c with quarantineDue := false }
      if quarantined n s then s else ((oweResync n s).setFld pgOns 0x058 n 1 1).setEvt (pgHwr n) 4
    else s) s

end Sys2Proof.Machine
end

