-- ==== Sys2Proof/Machine/Safe.lean ====
section
/-!
DEFINITION. Sys2Proof/Machine/Safe.lean: the Bell's sources and routes (R37, R414, R415), SAFE entry (R404, R405), the FAULT and
RLY pins (R286, R407, R408) and the watchdog (R411, R412).
-/

namespace Sys2Proof.Machine

/-! ### Bell sources -/

/-- The Bell source of a page (R414). -/
def pageSource (p : Nat) : Option Nat :=
  match pageKind p with
  | none => none
  | some (k, i) => match k with
    | .hwr => some i
    | .ovmRep => some (32 + i)
    | .gat => some 35
    | .can => some 36
    | .ons => some 37
    | .tpl => some 38
    | .lrm => some 39
    | .wdg => some 40
    | .aon => some 41
    | .rfg => some 42
    | .dbg => some 43
    | .fus => some 44
    | .xsp => some 45
    | .pci => some 46
    | .pdm => some 47
    | .wnd => some (48 + i)
    | .bnk => some (52 + i)
    | .ecc => some (104 + i)
    | .scb => some (114 + i)
    | .mpu => if i < 76 then some (124 + groupOfBank i) else some (134 + (i - 76))
    | .tdm => some (136 + i)
    | .tly => some (144 + i)
    | .adtPort => some (148 + i)
    | .adtParser => some (148 + i)
    | .adtPtp => some (148 + i)
    | .adtShaper => some (148 + i)
    | .adtCb => some (148 + i)
    | .adtRx => some (148 + i)
    | .adtTx => some (148 + i)
    | .ovmZone => some (168 + (i - 8))
    | .dep => some (176 + i)
    | .cor => some (200 + i / 4)
    | .pwm => some (224 + i / 4)
    | .sns => some (248 + i / 4)
    | .crg => some (272 + i / 4)
    | .pmcGlobal => some 284
    | .pmcHewer => some (285 + (i - 1) / 8)
    | .pmcUnit => some (if i < 36 then 289 + (i - 33) else 292)
    | .pmcBw => some 293
    | .bel => some 294

/-- The event enables of a page: as written, with the forced bits (R37). -/
def evtEnables (p : Nat) (s : State) : W32 :=
  match pageKind p with
  | some (k, _) => s.reg p 0x010 ||| w32 (forcedEn k)
  | none => 0

/-- A page asserts its Bell source (R37). -/
def pageAsserts (p : Nat) (s : State) : Bool := decide (s.reg p 0x00C &&& evtEnables p s ≠ 0)

/-- A number put in its place of a rising list without repeats. -/
def insertRising (x : Nat) : List Nat → List Nat
  | [] => [x]
  | y :: rest => if x < y then x :: y :: rest else if x = y then y :: rest else y :: insertRising x rest

/-- The sources asserted, rising (R37, R414, R417). -/
def bellLevels (s : State) : List Nat :=
  let swi := (List.range 16).filter fun k => bit (s.reg pgBel 0x068) k
  let base := swi.map (296 + ·)
  s.regs.foldl (fun acc kv =>
    if kv.1 % 512 = 3 ∧ pageAsserts (kv.1 / 512) s then
      match pageSource (kv.1 / 512) with
      | some e => insertRising e acc
      | none => acc
    else acc) base

/-- The targets of a route (R417 BEL_ROUTEe.KIND). -/
inductive Target where
  | hewer (n t : Nat)
  | overman (t : Nat)
  | pair (p : Nat)
  deriving DecidableEq, Repr

/-- The target of event `e` under the route in effect (R415, R416); none where EN is 0. -/
def routeTarget (e : Nat) (s : State) : Option Target :=
  let v := s.effReg pgBel (0x100 + 4 * e)
  if !bit v 31 then none
  else match fld v 16 2 with
    | 0 => some (.hewer (fld v 0 7 / 4) (fld v 0 7 % 4))
    | 1 => some (.overman (fld v 0 7))
    | 2 => some (.pair (fld v 0 7))
    | _ => none

/-- The priority of event `e`. -/
def routePrio (e : Nat) (s : State) : Nat := s.effFld pgBel (0x100 + 4 * e) 24 4

/-- The event chosen among those pending for a target: the highest PRIO, the lowest number among equals (R415). -/
def chosenEvent (tg : Target) (s : State) : Option Nat :=
  s.bell.foldl (fun best e =>
    if routeTarget e s = some tg then
      match best with
      | none => some e
      | some b => if routePrio b s < routePrio e s then some e else best
    else best) none

/-! ### Pins -/

/-- The RLY levels that the zones ask for: bit 14 RELAY of ZCTL, or bit 15 SAFE_RELAY in SAFE (R285, R286). -/
def relayLevels (safe : Bool) (s : State) : W32 :=
  (List.range 128).foldl (fun v z =>
    let c := s.reg (pgOvm (8 + z / 16)) (0x10C + 0x10 * (z % 16))
    if bit c 13 && bit c (if safe then 15 else 14) then putBit v (fld c 8 5) true else v) 0

/-! ### SAFE -/

/-- The causes of R404. -/
inductive SafeCause where
  | noMajority | voterFault | canaryVoter | tippleCmp | tippleFail | lampFail | creditLost | shaperFault | rosterPoison
  | eccSelftest | watchdog | aliveLost | gateRequest
  deriving DecidableEq, Repr

def safeCode : SafeCause → Nat
  | .noMajority => 0x01 | .voterFault => 0x02 | .canaryVoter => 0x03 | .tippleCmp => 0x04 | .tippleFail => 0x05
  | .lampFail => 0x06 | .creditLost => 0x07 | .shaperFault => 0x08 | .rosterPoison => 0x09 | .eccSelftest => 0x0A
  | .watchdog => 0x0B | .aliveLost => 0x0C | .gateRequest => 0x0D

/-- ELAPSED as it stands: open, from the last value known on and below TIMEOUT (R411, log 2). -/
def elapsedNow (s : State) : Nat × State :=
  let e := s.getFld pgWdg 0x050 0 20
  let r := freeBelow (s.getFld pgWdg 0x040 0 20 - e) s
  (e + r.1, r.2)

/-- The watchdog stops counting at SAFE entry: RUN and EXPIRED become STOPPED, and ELAPSED keeps the count (R412, R413). -/
def watchdogStop (s : State) : State :=
  let st := s.getFld pgWdg 0x050 30 2
  if st = 1 then
    let r := elapsedNow s
    (r.2.setFld pgWdg 0x050 0 20 r.1).setFld pgWdg 0x050 30 2 3
  else if st = 2 then s.setFld pgWdg 0x050 30 2 3
  else s

/-- A played block with every sample zero. -/
def silenced (kv : Nat × List W24) : Nat × List W24 := (kv.1, kv.2.map fun _ => 0)

/-- SAFE entry (R404, R405): the record, the cuts, the zeroed outputs, the Refuge cause, the pins and the watchdog. A device in
SAFE stays as it is, and a cause that arises while a reset is asserted is neither entered nor recorded (R458). -/
def enterSafe (cause : SafeCause) (event : Nat) (s : State) : State :=
  if s.guard.safe || decide (s.life.phase = .asserted) then s
  else
    let s := s.setReg pgBel 0x074 (w32 (0x80000000 + event * 0x10000 + safeCode cause))
    let s := (s.setReg pgBel 0x078 (shiftNo s)).setEvt pgBel 5
    let s := safeCuts s
    let s := { s with tpl := { s.tpl with out := [] }, aud := { s.aud with play := s.aud.play.map silenced, before := s.aud.before.map silenced } }
    let s := refugeCause 1 true (watchdogStop s)
    { s with guard := { s.guard with safe := true, static := true, alive := false, relays := relayLevels true s } }

/-- SAFE entry with the lowest code among causes that are present together; the first named among equals (R404). -/
def enterSafeLowest (causes : List (SafeCause × Nat)) (s : State) : State :=
  match causes with
  | [] => s
  | c :: rest =>
    let best := rest.foldl (fun b x => if safeCode x.1 < safeCode b.1 then x else b) c
    enterSafe best.1 best.2 s

/-! ### Heartbeat and watchdog -/

/-- The shift is marked alive and the check armed (R408). -/
def markAlive (s : State) : State :=
  { s.setFld pgWdg 0x050 29 1 1 with guard := { s.guard with alive := true, static := s.guard.static && s.guard.safe } }

/-- The check of an armed boundary (R408). -/
def aliveBoundary (s : State) : State :=
  if !bit (s.reg pgWdg 0x050) 29 ∨ s.guard.safe then s
  else if s.guard.alive then
    { s.setFld pgWdg 0x050 27 2 0 with guard := { s.guard with alive := false, level := !s.guard.level } }
  else
    let run := s.getFld pgWdg 0x050 27 2 + 1
    let s := (s.setFld pgWdg 0x050 27 2 run).setEvt pgWdg 3
    if 2 ≤ run then enterSafe .aliveLost 40 (s.setEvt pgWdg 4) else s

/-- The watchdog counts (R411). -/
def watchdogCounts (s : State) : Bool := s.active pgWdg && !s.guard.safe

/-- A watchdog fault: its event and SAFE (R411). -/
def watchdogFault (b : Nat) (s : State) : State :=
  let s := s.setEvt pgWdg b
  let s := if b = 1 then s.setFld pgWdg 0x050 30 2 2 else s
  enterSafe .watchdog 40 s

/-- A write of WDG_KICK, `elapsed` µs after the last kick (R411). -/
def watchdogKick (m : Byte) (data : W32) (elapsed : Nat) (s : State) : State :=
  if m ≠ 0x23 ∧ m ≠ 0xFF then refuseWrite pgWdg 0x04C 0x40 s
  else if !watchdogCounts s then s
  else if data = 0x0000C35A ∧ s.getFld pgWdg 0x044 0 20 ≤ elapsed then s.setFld pgWdg 0x050 0 20 0
  else (watchdogFault 2 s).setFld pgWdg 0x050 0 20 elapsed

/-- ELAPSED reaches TIMEOUT (R411). -/
def watchdogTimeout (s : State) : State :=
  if watchdogCounts s then watchdogFault 1 (s.setFld pgWdg 0x050 0 20 (s.getFld pgWdg 0x040 0 20)) else s

/-- The boundary at the watchdog: RUN, with ELAPSED 0, from where ENABLE takes effect (R411, R413). -/
def watchdogBoundary (was : Bool) (s : State) : State :=
  if s.guard.safe then s
  else if s.active pgWdg && !was then (s.setFld pgWdg 0x050 30 2 1).setFld pgWdg 0x050 0 20 0
  else s

/-- A write of WDG_ALIVE (R408). -/
def aliveWrite (m : Byte) (data : W32) (s : State) : State :=
  if m ≠ 0x23 ∧ m ≠ 0xFF then refuseWrite pgWdg 0x054 0x40 s
  else if bit data 0 then markAlive s else s

/-! ### Monitors and software events -/

/-- The event bit of a monitor limit: SUPPLY, CLOCK or TEMP (R403, R417). -/
def monitorEvent (i : Nat) : Nat := if i < 6 then 1 else if i = 6 then 2 else 3

/-- While a limit is exceeded, its bit of BLK_EVT is set; a reset in force holds the page (R403). -/
def monitorsHold (s : State) : State :=
  if s.life.phase = .asserted then s
  else (List.range 8).foldl (fun s i => s.setEvtIf (bit (s.reg pgBel 0x070) i) pgBel (monitorEvent i)) s

/-- The VDD_CORE monitor finds `core` mV outside the limit of CORE_LOW or CORE_HIGH (R471, R473); the other limits have no part in the codes. -/
def coreExceeds (i core : Nat) (s : State) : Bool :=
  let c := comparedCodes s
  if i = 0 then decide (core + 30 < 600 + 5 * c.1)
  else if i = 1 then decide (600 + 5 * c.2 + 40 < core) || decide (900 < core)
  else true

/-- A limit is exceeded (R403); VDD_CORE is at `core` mV. -/
def monitorExceeds (i core : Nat) (s : State) : State := if coreExceeds i core s then monitorsHold (s.setFld pgBel 0x070 i 1 1) else s

/-- A limit is kept again (R403). -/
def monitorReturns (i : Nat) (s : State) : State := s.setFld pgBel 0x070 i 1 0

end Sys2Proof.Machine
end

