-- ==== Sys2Proof/Machine/Trig.lean ====
section
/-!
DEFINITION. Sys2Proof/Machine/Trig.lean: integer roots and, in fixed point, the circle: π, cosine and sine. They carry the arithmetic of the
correlators (R234, R235) and of the pilot (R236).
-/

namespace Sys2Proof.Machine

/-- The greatest number whose power `e` does not pass `x`, found bit by bit: `r` holds the bits above the next `n`. -/
def rootFrom (e x : Nat) : Nat → Nat → Nat
  | 0, r => r
  | n + 1, r => rootFrom e x n (if (r + 2 ^ n) ^ e ≤ x then r + 2 ^ n else r)

/-- The fraction bits of the fixed-point numbers below. -/
def trigBits : Nat := 80

/-- 1 in fixed point. -/
def trigOne : Int := ((2 ^ trigBits : Nat) : Int)

/-- Terms of arctan(1/m), one at each step: `p` is 1/m^k. -/
def arctanTerms (m : Nat) : Nat → Nat → Int → Int → Int
  | 0, _, _, sum => sum
  | n + 1, k, p, sum => arctanTerms m n (k + 2) (-(p / (m * m : Nat))) (sum + p / k)

/-- arctan(1/m) in fixed point. -/
def arctanInv (m : Nat) : Int := arctanTerms m 40 1 (trigOne / m) 0

/-- 2π in fixed point, by Machin's formula. -/
def twoPi : Int := 32 * arctanInv 5 - 8 * arctanInv 239

/-- The terms x^k / k! of the exponential series summed into a cosine and a sine, one at each step: `k` is the order of `term`. -/
def expTerms (x : Int) : Nat → Nat → Int → Int → Int → Int × Int
  | 0, _, _, c, s => (c, s)
  | n + 1, k, term, c, s =>
    let c := if k % 4 = 0 then c + term else if k % 4 = 2 then c - term else c
    let s := if k % 4 = 1 then s + term else if k % 4 = 3 then s - term else s
    expTerms x n (k + 1) (term * x / trigOne / ((k + 1 : Nat) : Int)) c s

/-- Cosine and sine of a part of the circle, `num` of `den` equal parts, in fixed point. -/
def turn (num den : Nat) : Int × Int := expTerms (twoPi * ((num % den : Nat) : Int) / (den : Int)) 48 0 trigOne 0 0

/-- The product of two complex numbers in fixed point. -/
def rotate (a b : Int × Int) : Int × Int := ((a.1 * b.1 - a.2 * b.2) / trigOne, (a.1 * b.2 + a.2 * b.1) / trigOne)

end Sys2Proof.Machine
end

