-- ==== Sys2Proof/Machine/Correlator.lean ====
section
/-!
DEFINITION. Sys2Proof/Machine/Correlator.lean: the line correlators: intervals, bins, status, classes and records (R232–R244).
-/

namespace Sys2Proof.Machine

/-- A correlator right after its domain has come on. -/
def idleCorrelator : Correlator := ⟨false, [], false, [], none⟩

/-- A correlator of the state. -/
def State.correlator (s : State) (c : Nat) : Correlator := sparseGet idleCorrelator s.cor c

/-- The state with a correlator replaced. -/
def State.setCorrelator (s : State) (c : Nat) (v : Correlator) : State := { s with cor := sparseSet idleCorrelator s.cor c v }

/-- The domain of the Deputy group of a correlator is ON (R22). -/
def corOn (c : Nat) (s : State) : Bool := decide (s.domain (52 + c / 16) = .on)

/-- Segment length n_k and segments per interval s_k of a bin (R234). -/
def binShape (k : Nat) : Nat × Nat := if k < 8 then (4096, 1) else if k < 16 then (1024, 4) else (256, 16)

/-- f_k of a bin in 2^-32 Hz (R234): 50 × 400^(k/23), the 23rd root of 50^23 × 400^k; the pilot bin lies at 30 kHz. -/
def binFrequency (k : Nat) : Nat :=
  if k = 24 then 30000 * 2 ^ 32 else rootFrom 23 (50 ^ 23 * 400 ^ k * 2 ^ (32 * 23)) 50 0

/-- The sums vk and ik of one segment (R235), in 2^-64 units: the samples are turned by e^(-i 2π f_k n / 96000) and weighted with the Hann window,
which turns through the circle once a segment. `z` and `w` are those turns at the next sample. -/
def segmentSums (step wstep : Int × Int) : List (W24 × W24) → Int × Int → Int × Int → (Int × Int) × (Int × Int) → (Int × Int) × (Int × Int)
  | [], _, _, acc => acc
  | x :: rest, z, w, acc =>
    let window := (trigOne - w.1) / 2
    let c := window * z.1 / trigOne
    let d := window * z.2 / trigOne
    let put (v : W24) (a : Int × Int) : Int × Int := (a.1 + c * v.toInt / 2 ^ 39, a.2 + d * v.toInt / 2 ^ 39)
    segmentSums step wstep rest (rotate z step) (rotate w wstep) (put x.1 acc.1, put x.2 acc.2)

/-- cvi, cvv and cii over the segments of an interval (R235), in 2^-64 units, from their sums. -/
def crossSums (step wstep : Int × Int) (n : Nat) : Nat → List (W24 × W24) → Int × Int × Int × Int → Int × Int × Int × Int
  | 0, _, acc => acc
  | j + 1, xs, acc =>
    let r := segmentSums step wstep (xs.take n) (trigOne, 0) (trigOne, 0) ((0, 0), (0, 0))
    let v := r.1
    let i := r.2
    let unit : Int := 2 ^ 64
    crossSums step wstep n j (xs.drop n) (acc.1 + (v.1 * i.1 + v.2 * i.2) / unit, acc.2.1 + (v.2 * i.1 - v.1 * i.2) / unit,
      acc.2.2.1 + (v.1 * v.1 + v.2 * v.2) / unit, acc.2.2.2 + (i.1 * i.1 + i.2 * i.2) / unit)

/-- cvi, cvv and cii of a bin over an interval's sample pairs, oldest first, as R235 defines them, in 2^-64 units. -/
def idealSpectrum (k : Nat) (xs : List (W24 × W24)) : Int × Int × Int × Int :=
  let shape := binShape k
  let t := turn (binFrequency k) (96000 * 2 ^ 32)
  crossSums (t.1, -t.2) (turn 1 shape.1) shape.1 shape.2 xs (0, 0, 0, 0)

/-- A part of `x`, of at most 1/200, by a free number (log 39). -/
def smallPart (e x : Int) : Int := (max (-1000) (min 1000 e) * x).tdiv 200000

/-- The quantities as the correlator's arithmetic gives them (R235, R238): cvv and cii within 1/200 of their own, and each part of cvi within 1/200 of
sqrt(cvv × cii), so that for a COH of 230 or more abs(z) lies within 2 % and arg(z) within 2° of theirs; the deviation is free (log 39). -/
def crossSpectrum (k : Nat) (xs : List (W24 × W24)) : Int × Int × Nat × Nat :=
  let x := idealSpectrum k xs
  let e := Config.spectrumError k xs
  let size : Int := rootFrom 2 (x.2.2.1.toNat * x.2.2.2.toNat) 128 0
  (x.1 + smallPart (e 0) size, x.2.1 + smallPart (e 1) size, (x.2.2.1 + smallPart (e 2) x.2.2.1).toNat, (x.2.2.2 + smallPart (e 3) x.2.2.2).toNat)

/-- The least L from `l` on, at most 255, with level > 10^(-(2L+1)/20), level being a/b (R235). -/
def levelSearch (a b : Nat) : Nat → Nat → Nat
  | 0, _ => 255
  | n + 1, l => if b ^ 20 < a ^ 20 * 10 ^ (2 * l + 1) then l else levelSearch a b n (l + 1)

/-- How far below 0 the rounded −10 log10(level) lies for a level a/b above 1.0. -/
def levelExcess (a b : Nat) : Nat → Nat → Nat
  | 0, m => m
  | n + 1, m => if b ^ 20 * 10 ^ (2 * m + 1) < a ^ 20 then levelExcess a b n (m + 1) else m

/-- LEVEL of a bin (R235). -/
def binLevel (k cvv : Nat) : Nat :=
  let shape := binShape k
  let a := 16 * cvv
  let b := shape.2 * shape.1 * shape.1 * 2 ^ 64
  if cvv = 0 then 255
  else
    let m := levelExcess a b 64 0
    if 0 < m then Config.levelAboveOne m % 256 else levelSearch a b 255 0

/-- COH of a bin (R235). -/
def binCoh (re im : Int) (cvv cii : Nat) : Nat :=
  if cvv = 0 ∨ cii = 0 then 0 else min 255 (256 * (re.natAbs * re.natAbs + im.natAbs * im.natAbs) / (cvv * cii))

/-- The first `n` binary digits of the angle of a complex number as a part of the circle, with whether it lies exactly there:
each squaring doubles the angle. -/
def angleBits : Nat → Nat → Int → Int → Nat × Bool
  | 0, acc, re, im => (acc, decide (im = 0) && decide (0 < re))
  | n + 1, acc, re, im =>
    let half := decide (im < 0) || (decide (im = 0) && decide (re < 0))
    angleBits n (2 * acc + b2n half) (re * re - im * im) (2 * re * im)

/-- PHASE: the argument of z in units of 1/512 of the circle, rounded (R235). A half unit rounds by the free rule of log 37. -/
def binPhase (re im : Int) : BitVec 9 :=
  if re = 0 ∧ im = 0 then BitVec.ofNat 9 (Config.phaseOfZero 0)
  else
    let r := angleBits 10 0 re im
    let tie := r.2 && decide (r.1 % 2 = 1)
    BitVec.ofNat 9 (if tie then r.1 / 2 + b2n (Config.roundUp 3 r.1) else (r.1 + 1) / 2)

/-- abs(z)² as a fraction: abs(z) = KZ × abs(cvi) / (65536 × cii) (R235). -/
def binMag (kz : Nat) (re im : Int) (cii : Nat) : Nat :=
  let num := 4 * kz * kz * (re.natAbs * re.natAbs + im.natAbs * im.natAbs)
  let den := (256 * cii) * (256 * cii)
  let twice := rootFrom 2 (num / den) 24 0
  let tie := decide (twice * twice * den = num) && decide (twice % 2 = 1)
  let m := if tie then twice / 2 + b2n (Config.roundUp 4 twice) else (twice + 1) / 2
  if m < 0x100000 then m else Config.magAtTop m % 0x100000

/-- abs(z) is 4096 Ω or more (R237). -/
def binOver (kz : Nat) (re im : Int) (cii : Nat) : Bool :=
  decide ((4096 * 65536 * cii) * (4096 * 65536 * cii) ≤ kz * kz * (re.natAbs * re.natAbs + im.natAbs * im.natAbs))

/-- The STATUS codes of R239. -/
inductive BinStatus where
  | valid | lowExc | saturated | lowCoh | masked | invalid
  deriving DecidableEq, Repr

def statusCode : BinStatus → Nat
  | .valid => 0 | .lowExc => 1 | .saturated => 2 | .lowCoh => 3 | .masked => 4 | .invalid => 5

/-- A bin's result in an interval: STATUS, what it keeps, COH and LEVEL. -/
structure BinResult where
  status : BinStatus
  bin : Bin
  coh : Nat
  level : Nat
  deriving DecidableEq, Repr

/-- The result of bin `k` of correlator `c` for interval `ivl`, by the registers in effect since the interval began (R235, R237). -/
def binResult (c k ivl : Nat) (s : State) : BinResult :=
  let r := s.correlator c
  let old := sparseGet ⟨0, 0, 0⟩ r.bins k
  let aged : Bin := { old with age := satInc 255 old.age }
  let kz := (s.ivlReg (pgCor c) 0x048).toNat
  let thr := s.ivlReg (pgCor c) 0x044
  if !bit (s.ivlReg (pgCor c) 0x04C) k then
    let q := Config.maskedQuality c k ivl
    ⟨.masked, ⟨0, 0, 0⟩, q / 256 % 256, q % 256⟩
  else
    let x := crossSpectrum k r.samples.reverse
    let re := x.1
    let im := x.2.1
    let cvv := x.2.2.1
    let cii := x.2.2.2
    let level := binLevel k cvv
    let coh := binCoh re im cvv cii
    if kz = 0 ∨ r.bad = true then ⟨.invalid, aged, coh, level⟩
    else if fld thr (if k = 24 then 8 else 0) 8 < level then ⟨.lowExc, aged, coh, level⟩
    else if coh < fld thr 16 8 then ⟨.lowCoh, aged, coh, level⟩
    else if cii = 0 then ⟨.saturated, ⟨0xFFFFF, 0, 0⟩, coh, level⟩
    else if binOver kz re im cii then ⟨.saturated, ⟨0xFFFFF, binPhase re im, 0⟩, coh, level⟩
    else ⟨.valid, ⟨binMag kz re im cii, binPhase re im, 0⟩, coh, level⟩

/-- A bin counts for the class (R240). -/
def binCounts (c k : Nat) (r : BinResult) (s : State) : Bool :=
  (decide (r.status = .valid) || decide (r.status = .saturated)) && decide (s.ivlReg (pgCor c) (0x080 + 4 * k) ≠ 0)

/-- The class word of an interval's results (R239, R240). -/
def classWord (c : Nat) (rs : List BinResult) (s : State) : W32 :=
  let counted := (rs.zipIdx).filter fun x => binCounts c x.2 x.1 s
  let zref (k : Nat) : Nat := (s.ivlReg (pgCor c) (0x080 + 4 * k)).toNat
  let hi := 64 + fld (s.ivlReg (pgCor c) 0x050) 8 6
  let lo := 64 - fld (s.ivlReg (pgCor c) 0x050) 0 6
  let nHi := (counted.filter fun x => decide (x.1.status = .saturated) || decide (zref x.2 * hi < x.1.bin.mag * 64)).length
  let nLo := (counted.filter fun x => decide (x.1.bin.mag * 64 < zref x.2 * lo)).length
  let n := counted.length
  let cls := if n = 0 then 0 else if n < 2 * nHi then 2 else if n < 2 * nLo then 3 else if nHi = 0 ∧ nLo = 0 then 1 else 4
  w32 (nLo * 0x1000000 + nHi * 0x10000 + n * 0x100 + cls)

/-- The result and quality words of a bin (R239). -/
def binWords (r : BinResult) : List W32 :=
  [w32 (r.bin.mag * 0x1000 + r.bin.phase.toNat * 8 + statusCode r.status),
   w32 (r.coh * 0x1000000 + r.bin.age * 0x10000 + r.level * 0x100)]

/-- The 64 words of a channel's record (R239). -/
def recordWords (c ivl : Nat) (rs : List BinResult) (s : State) : List W32 :=
  rs.flatMap binWords ++ [w32 ivl, classWord c rs s] ++ List.replicate 12 0

/-- The end of an interval of a running correlator: its results, and the record to be written (R237, R239, R244). -/
def intervalEnd (c ivl : Nat) (s : State) : State :=
  let rs := (List.range 25).map fun k => binResult c k ivl s
  let bins := (rs.zipIdx).foldl (fun m x => sparseSet ⟨0, 0, 0⟩ m x.2 x.1.bin) []
  let s := s.setCorrelator c { s.correlator c with bins := bins, record := some (ivl, recordWords c ivl rs s) }
  s.setEvtIf (rs.any fun r => decide (r.status = .invalid)) (pgCor c) 2

/-- A shift's sense samples and flags join the interval in progress (R232, R237). -/
def takeSamples (c : Nat) (vi : List (W24 × W24)) (s : State) : State :=
  let r := s.correlator c
  if r.running then
    s.setCorrelator c { r with samples := vi.reverse ++ r.samples, bad := r.bad || decide (sparseGet 0 s.aud.sense c ≠ 0) }
  else s

/-- The registers of a COR_ page as an interval begins (R243). -/
def latchInterval (c : Nat) (s : State) : State :=
  ([0x040, 0x044, 0x048, 0x04C, 0x050] ++ (List.range 25).map (fun k => 0x080 + 4 * k)).foldl
    (fun s off => { s with ivl := sparseSet (resetReg (pgCor c) off) s.ivl (regKey (pgCor c) off) (s.reg (pgCor c) off) }) s

/-- The boundary at correlator `c`, after the registers have taken effect: `vi` are the samples of the shift that ends, and the
interval ends and begins where SHIFT_NO mod 64 is 0 (R232, R233, R242). -/
def correlatorBoundary (c : Nat) (vi : List (W24 × W24)) (s : State) : State :=
  let s := takeSamples c vi s
  let edge := decide ((shiftNo s).toNat % 64 = 0)
  let ivl := (shiftNo s - 1).toNat / 64
  let go := corOn c s && s.active (pgCor c)
  let s := if edge && (s.correlator c).running && corOn c s then intervalEnd c ivl s else s
  if edge then latchInterval c (s.setCorrelator c { s.correlator c with running := go, samples := [], bad := false })
  else if go then s
  else s.setCorrelator c { s.correlator c with running := false, samples := [], bad := false }

/-- A source of DEP_IRQ becomes pending; while the pair restarts it is discarded (R250). -/
def depPend (p b : Nat) (s : State) : State :=
  if s.getFld (pgDep p) 0x044 0 3 = 2 then s else s.setFld (pgDep p) 0x060 b 1 1

/-- A correlator's record reaches the Deputy memory: latest record and history ring (R241). -/
def recordWrite (c : Nat) (s : State) : State :=
  match (s.correlator c).record with
  | none => s
  | some (ivl, ws) =>
    let base := bankBase (52 + c / 4)
    let bs := cleanBytes (ws.flatMap fun w => bytesOf 4 w.toNat)
    let s := innerWrite (base + 0x6000 + 0x100 * (c % 4)) bs s
    let s := innerWrite (base + 0x8000 + 0x2000 * (c % 4) + 0x100 * (ivl % 32)) bs s
    let s := (s.setReg (pgCor c) 0x054 (ws.getD 51 0)).setEvt (pgCor c) 1
    s.setCorrelator c { s.correlator c with record := none }

/-- The records of pair `p` are written (R241). -/
def recordsWrite (p : Nat) (s : State) : State :=
  let due := (List.range 4).filter fun k => (s.correlator (4 * p + k)).record.isSome
  if due.isEmpty || !corOn (4 * p) s then s
  else depPend p 1 (due.foldl (fun s k => recordWrite (4 * p + k) s) s)

end Sys2Proof.Machine
end

