-- ==== Sys2Proof/Machine/Deputy.lean ====
section
/-!
DEFINITION. Sys2Proof/Machine/Deputy.lean: the Deputy pairs apart from their instructions: run, restart and failure (R250–R255),
line states (R256), contact inputs (R257).
-/

namespace Sys2Proof.Machine

/-- A core in reset (R247). -/
def idleDepCore : DepCore := ⟨[], 0, 0, 0, false, [], false⟩

/-- A pair right after a reset (R247). -/
def idleDeputy : Deputy := ⟨idleDepCore, idleDepCore, [], 0, []⟩

/-- A pair of the state. -/
def State.deputy (s : State) (p : Nat) : Deputy := sparseGet idleDeputy s.dep p

/-- The state with a pair replaced. -/
def State.setDeputy (s : State) (p : Nat) (d : Deputy) : State := { s with dep := sparseSet idleDeputy s.dep p d }

/-- The domain of a pair is ON. -/
def depOn (p : Nat) (s : State) : Bool := decide (s.domain (52 + p / 4) = .on)

/-- DEP_STAT.STATE: 0 HELD, 1 RUN, 2 RESTARTING, 3 FAILED (R258). -/
def depState (p : Nat) (s : State) : Nat := s.getFld (pgDep p) 0x044 0 3

/-- The state with DEP_STAT.STATE set. -/
def depSetState (p x : Nat) (s : State) : State := s.setFld (pgDep p) 0x044 0 3 x

/-- Both cores in reset: the registers of R247 are 0. -/
def Deputy.cleared (d : Deputy) : Deputy := { d with master := idleDepCore, checker := idleDepCore, beats := 0 }

/-- DEP_LINE0–3.STATE set (R252, R253). -/
def depLines (p x : Nat) (s : State) : State :=
  (List.range 4).foldl (fun s k => s.setFld (pgDep p) (0x050 + 4 * k) 0 3 x) s

/-- The causes of DEP_STAT.LAST_CAUSE (R258). -/
inductive DepCause where
  | mismatch | poison | illegal | access | rstack | heartbeat | cmpFault
  deriving DecidableEq, Repr

def depCauseCode : DepCause → Nat
  | .mismatch => 1 | .poison => 2 | .illegal => 3 | .access => 4 | .rstack => 5 | .heartbeat => 6 | .cmpFault => 7

/-- The restarts still in the window at a shift number (R233, R253). -/
def inWindowOf (now : W32) (rs : List W32) : List W32 := rs.filter fun r => decide ((now - r).toNat < 90000)

/-- The window of R253 moves on; RECENT counts it. -/
def depWindow (p : Nat) (s : State) : State :=
  let d := s.deputy p
  let rs := inWindowOf (shiftNo s) d.restarts
  (s.setDeputy p { d with restarts := rs }).setFld (pgDep p) 0x044 4 2 rs.length

/-- The pair becomes FAILED (R253, R254). -/
def depFail (p : Nat) (cause : DepCause) (s : State) : State :=
  let s := s.setDeputy p (s.deputy p).cleared
  let s := depLines p 5 (depSetState p 3 (s.setFld (pgDep p) 0x044 8 4 (depCauseCode cause)))
  (s.setEvt (pgDep p) 2).setEvtIf (decide (cause = .cmpFault)) (pgDep p) 5

/-- A restart of a running pair, or FAILED where it would be the third in the window (R252, R253). -/
def depRestart (p : Nat) (cause : DepCause) (s : State) : State :=
  let s := depWindow p s
  let d := s.deputy p
  if 2 ≤ d.restarts.length then depFail p cause s
  else
    let rs := shiftNo s :: d.restarts
    let s := s.setDeputy p { d.cleared with restarts := rs }
    let s := (depLines p 0 s).setReg (pgDep p) 0x060 0
    let s := (s.setFld (pgDep p) 0x044 8 4 (depCauseCode cause)).incSat (pgDep p) 0x044 16 8
    (depSetState p 2 (s.setFld (pgDep p) 0x044 4 2 rs.length)).setEvt (pgDep p) 1

/-! ### The Canary's injections -/

/-- CAN_LAST, CAN_MISS or CAN_EN register and bit of a target. -/
def canReg (base t : Nat) : Nat := base + 4 * (t / 32)

/-- The injection to be made into a target: a request's, else the automatic one, by bit and argument (R284). -/
def canInjection (t : Nat) (s : State) : Option (Nat × Option Nat) :=
  match sparseGet none s.can.requests t with
  | some (b, arg) => some (b, some arg)
  | none => match sparseGet none s.can.due t with
    | some b => some (b, none)
    | none => none

/-- An injection into a target has been made (R284): CAN_LAST, and CAN_MISS with MISSED if it went unreported. -/
def canDone (t : Nat) (reported : Bool) (s : State) : State :=
  let s := { s with can := ⟨sparseSet none s.can.requests t none, sparseSet none s.can.due t none⟩ }
  let s := s.setFld pgCan (canReg 0x050 t) (t % 32) 1 (b2n reported)
  if reported then s else (s.setFld pgCan (canReg 0x058 t) (t % 32) 1 1).setEvt pgCan 1

/-- The injection into a pair's comparator, in its first cycle of a shift in RUN (R254, R282): CANARY_SEEN where it is reported. -/
def canaryPair (p : Nat) (s : State) : State :=
  match canInjection (33 + p) s with
  | none => s
  | some _ =>
    if depOn p s && decide (depState p s = 1) then
      let reported := !(s.comparator (33 + p)).shows false
      let s := canDone (33 + p) reported s
      if reported && decide (s.comparator (33 + p) ≠ .badCode) then s.setFld (pgDep p) 0x044 3 1 1 else depFail p .cmpFault s
    else s

/-- A running pair restarts with a cause. -/
def depFault (p : Nat) (cause : DepCause) (s : State) : State :=
  if depOn p s && decide (depState p s = 1) then depRestart p cause s else s

/-- The pair enters RUN: execution begins at 0x0000 and the heartbeat count at 0 (R250, R255); its first comparison shows a bad code
(R254). -/
def depRun (p : Nat) (s : State) : State :=
  let s := depSetState p 1 (s.setDeputy p (s.deputy p).cleared)
  if s.comparator (33 + p) = .badCode then depFail p .cmpFault s else s

/-- The comparison of a pair's outputs finds a difference (R251, R252), which a blind comparator passes over (R254). -/
def depMismatch (p : Nat) (s : State) : State :=
  match s.comparator (33 + p) with
  | .sound => depFault p .mismatch s
  | .blind => s
  | .badCode => if depOn p s && decide (depState p s = 1) then depFail p .cmpFault s else s

/-- A restarting pair leaves reset (R252); an injection that found no pair in RUN is made now (R283). -/
def depRelease (p : Nat) (s : State) : State :=
  if depOn p s && decide (depState p s = 2) then canaryPair p (depRun p s) else s

/-- The boundary at a pair: the window, the heartbeat count, DEP_TIME, TICK, and ENABLE taking effect (R253, R255, R258). -/
def deputyBoundary (p : Nat) (s : State) : State :=
  if !depOn p s then s
  else
    let s := depWindow p s
    let d := s.deputy p
    let s := if depState p s = 1 then s.setDeputy p { d with beats := d.beats + 1 } else s
    let s := depPend p 0 (s.setReg (pgDep p) 0x04C (shiftNo s))
    if s.active (pgDep p) then (if depState p s = 0 then depRun p s else s)
    else
      let s := s.setDeputy p { (s.deputy p).cleared with restarts := [] }
      let s := s.setFld (pgDep p) 0x044 4 2 0
      if depState p s = 3 then s else depSetState p 0 s

/-- HB_SHIFTS boundaries have passed without a write of DEP_KICK (R255). -/
def depHeartbeat (p : Nat) (s : State) : State :=
  if s.getFld (pgDep p) 0x040 8 8 ≤ (s.deputy p).beats then depFault p .heartbeat s else s

/-- A write of DEP_KICK (R255, R258). -/
def depKick (m : Byte) (p : Nat) (s : State) : State :=
  if m.toNat ≠ 0x30 + p then refuseWrite (pgDep p) 0x048 0x40 s
  else s.setDeputy p { s.deputy p with beats := 0 }

/-- A write of DEP_LINEk (R256). -/
def depLineWrite (m : Byte) (p k : Nat) (data : W32) (s : State) : State :=
  let off := 0x050 + 4 * k
  if m.toNat ≠ 0x30 + p then refuseWrite (pgDep p) off 0x40 s
  else if 5 ≤ fld data 0 3 then refuseWrite (pgDep p) off 0x06 s
  else
    let changed := decide (fld data 0 3 ≠ s.getFld (pgDep p) off 0 3)
    (s.setReg (pgDep p) off (data &&& 0xFFFFFF07#32)).setEvtIf changed (pgDep p) 3

/-- One contact input's sample `level`, before INVERT (R257). -/
def contactInput (p k : Nat) (level : Bool) (s : State) : State :=
  let pg := pgDep p
  let raw := level ^^ bit (s.reg pg 0x074) (8 + k)
  let old := bit (s.reg pg 0x070) (8 + k)
  let st := bit (s.reg pg 0x070) k
  let c := sparseGet ⟨0, 0⟩ (s.deputy p).contacts k
  let run := if raw = st then 0 else c.run + 1
  let changes := c.changes + b2n (decide (raw ≠ old))
  let s := s.setFld pg 0x070 (8 + k) 1 (b2n raw)
  let put (v : Contact) (s : State) : State :=
    s.setDeputy p { s.deputy p with contacts := sparseSet ⟨0, 0⟩ (s.deputy p).contacts k v }
  if raw ≠ st ∧ s.getFld pg 0x074 0 8 ≤ run then depPend p 2 (put ⟨0, 0⟩ (s.setFld pg 0x070 k 1 (b2n raw)))
  else if 16 ≤ changes then (put ⟨run, 0⟩ (s.setFld pg 0x070 (16 + k) 1 1)).setEvt pg 4
  else put ⟨run, changes⟩ s

/-- A sample of the four contact inputs of a pair (R257). -/
def contactSample (p : Nat) (levels : BitVec 4) (s : State) : State :=
  if depOn p s then (List.range 4).foldl (fun s k => contactInput p k (bit levels k) s) s else s

end Sys2Proof.Machine
end

