-- ==== Sys2Proof/Machine/Triad.lean ====
section
/-!
DEFINITION. Sys2Proof/Machine/Triad.lean: the replicas, checkpoints and signatures (R259–R265), GAT_MODE and the roles (R278–R280,
R287, R288), and the Canary (R282–R284, R289).
-/

namespace Sys2Proof.Machine

/-! ### Replicas -/

/-- A replica right after a reset, before the boot gives it a role. -/
def idleReplica : Replica := ⟨.active, [], 0, [], [], [], false, false, [], none⟩

/-- A replica of the state. -/
def State.replica (s : State) (r : Nat) : Replica := sparseGet idleReplica s.tri.replicas r

/-- The state with a replica replaced. -/
def State.setReplica (s : State) (r : Nat) (v : Replica) : State :=
  { s with tri := { s.tri with replicas := sparseSet idleReplica s.tri.replicas r v } }

/-- Thread `t` of Overman `r`. -/
def overmanThread (r t : Nat) : Hart := ⟨Fin.ofNat 35 (32 + r), Fin.ofNat 4 t⟩

/-- A replica takes part in votes (R259). -/
def isActive (r : Nat) (s : State) : Bool := decide ((s.replica r).role = .active)

/-- The replicas that take part in votes, lowest letter first. -/
def actives (s : State) : List Nat := (List.range 3).filter fun r => isActive r s

/-- OVM_STAT.ROLE (R288). -/
def roleCode : Role → Nat
  | .active => 0 | .resync => 1 | .retired => 2 | .solo => 3

/-- Bits 2–0: the replicas with a role. -/
def roleMask (x : Role) (s : State) : Nat :=
  (List.range 3).foldl (fun v r => if (s.replica r).role = x then v + 2 ^ r else v) 0

/-- GAT_MODE (R279, R287): CLAIM with the variant fuse and a mode other than SOLO×3. -/
def gateMode (s : State) : W32 :=
  let claim := bit (s.reg pgFus 0x048) 0 && decide (s.tri.mode ≠ 2)
  w32 (b2n claim * 0x800 + roleMask .retired s * 0x100 + roleMask .resync s * 0x20 + roleMask .active s * 4 + s.tri.mode)

/-- One 16-byte record fed into a signature, byte 0 first (R265). -/
def feedRecord (value b8 b9 b10 b11 b12 b13 : Nat) (sig : W64) : W64 :=
  crc64Run sig (bytesOf 8 value ++ bytesOf 8 (b8 + b9 * 0x100 + b10 * 0x10000 + b11 * 0x1000000 + b12 * 0x100000000 + b13 * 0x10000000000))

/-- The gated-store record (R265): address in bytes 11–8, size in byte 12, 0x80 + thread in byte 13. -/
def feedGated (g : Gated) (sig : W64) : W64 :=
  crc64Run sig (bytesOf 8 (numOf g.bytes) ++ bytesOf 4 g.addr ++ bytesOf 4 (g.bytes.length + (0x80 + g.thread) * 0x100))

/-- A gated store joins its replica's queue and signature (R268 step 1). -/
def queueGated (r : Nat) (g : Gated) (s : State) : State :=
  let x := s.replica r
  s.setReplica r { x with queue := x.queue ++ [g], sig := feedGated g x.sig }

/-- The base of a replica's own bank (R27). -/
def replicaBase (r : Nat) : Nat := bankBase (48 + r)

/-- A value of an S register taken relative to replica A's bank where it lies in the replica's own (R265, log 40). -/
def ownRelative (r : Nat) (base : W32) : W32 :=
  if replicaBase r ≤ base.toNat ∧ base.toNat < replicaBase r + 0x200000 then w32 (base.toNat - 0x200000 * r) else base

/-- SR, XSR: the MASTER field replaced by 0 (R265, log 40). -/
def withoutMaster (v : W32) : W32 := putFld v 16 8 0

/-- The register records of one thread, in ascending code (R265), P registers with the pending products landed. -/
def feedThread (r t : Nat) (th : Thread) (sig : W64) : W64 :=
  let th := flushLatch th
  let reg (code : Nat) (v : Nat) (owner : Nat) (poison : Bool) (sig : W64) : W64 := feedRecord v code owner (b2n poison) t 0 0 sig
  let sig := (List.range 16).foldl (fun g k => reg k (sparseGet 0 th.a k).toNat 0 false g) sig
  let sig := (List.range 32).foldl (fun g k => let v := sparseGet ⟨0, false⟩ th.d k; reg (0x10 + k) v.bits.toNat 0 v.poison g) sig
  let sig := (List.range 8).foldl (fun g k => let v := sparseGet ⟨0, false⟩ th.x k; reg (0x30 + k) v.bits.toNat 0 v.poison g) sig
  let sig := (List.range 4).foldl (fun g k => let v := sparseGet ⟨0, false⟩ th.p k; reg (0x38 + k) v.bits.toNat 0 v.poison g) sig
  let sig := (List.range 8).foldl (fun g k =>
    let v := sparseGet ⟨0, 0, 0⟩ th.s k
    reg (0x40 + k) ((ownRelative r v.base).toNat + v.attr.toNat * 2 ^ 32) (v.owner.toNat % 256) false g) sig
  let specials := [th.pc.toNat, th.rc.toNat, th.bn.toNat, (withoutMaster th.sr).toNat, (withoutMaster th.xsr).toNat,
    th.xpc.toNat, th.xcause.toNat, th.xinfo.toNat]
  (specials.zipIdx).foldl (fun g x => reg (0x50 + x.2) x.1 0 false g) sig

/-- A replica's signature at a vote: the gated stores, then the registers of both threads (R265). -/
def replicaSignature (r : Nat) (s : State) : W64 :=
  feedThread r 1 (s.thread (overmanThread r 1)) (feedThread r 0 (s.thread (overmanThread r 0)) (s.replica r).sig)

/-! ### Opening a checkpoint -/

/-- The bundles a thread of a replica has retired since the last checkpoint (R259). -/
def retiredCount (r t : Nat) (s : State) : Nat := (s.thread (overmanThread r t)).retired

/-- A thread is between the elements of a block instruction, not at a bundle boundary. -/
def midBlock (r t : Nat) (s : State) : Bool := (s.thread (overmanThread r t)).block.isSome

/-- The count a thread reports (R261): at its next bundle boundary, where a block bundle between two elements is completed first and counts
(log 16); as it stands where the thread is held in WAIT or on a response. -/
def reportedCount (r t : Nat) (s : State) : Nat :=
  match (s.thread (overmanThread r t)).hold with
  | .access _ => retiredCount r t s
  | .panel _ _ => retiredCount r t s
  | _ => retiredCount r t s + b2n (midBlock r t s)

/-- The replicas excluded from a thread's target: those whose count exceeds the second-largest by more than RUNAWAY (R261). -/
def runaways (t : Nat) (s : State) : List Nat :=
  let counts := (actives s).map fun r => reportedCount r t s
  let top := counts.foldl max 0
  let below := (counts.erase top).foldl max 0
  if 2 ≤ counts.length ∧ below + s.getFld pgGat 0x044 0 16 < top then
    (actives s).filter fun r => decide (reportedCount r t s = top)
  else []

/-- The target of a thread (R261). -/
def targetOf (t : Nat) (s : State) : Nat :=
  ((actives s).filter fun r => !(runaways t s).contains r).foldl (fun m r => max m (reportedCount r t s)) 0

/-- A thread waiting in AGREE withdraws its offer: the bundle has not retired and issues again (R261). -/
def withdrawOffer (r t : Nat) (s : State) : State :=
  let h := overmanThread r t
  let x := s.replica r
  let s := s.setReplica r { x with offers := sparseSet none x.offers t none }
  if (s.thread h).hold = .agree then s.setThread h { s.thread h with hold := .none, buf := [] } else s

/-- A trigger: the checkpoint of the voted replicas opens; a boundary that finds it open is merged into it (R260, R261, R263). -/
def openCheckpoint (boundary : Bool) (s : State) : State :=
  if s.tri.ckOpen then { s with tri := { s.tri with ckBoundary := s.tri.ckBoundary || boundary } }
  else if (actives s).isEmpty then s
  else
    let s := (actives s).foldl (fun s r => withdrawOffer r 1 (withdrawOffer r 0 s)) s
    let out := runaways 0 s ++ runaways 1 s
    let targets := sparseSet 0 (sparseSet 0 [] 0 (targetOf 0 s)) 1 (targetOf 1 s)
    let s := out.foldl (fun s r => s.setReplica r { s.replica r with excluded := true }) s
    { s with tri := { s.tri with ckOpen := true, ckBoundary := boundary, targets := targets } }

/-- A thread has stopped directly after a CHECK, or before a gated store for which its queue is full (R260, R261). -/
def atCheck (r t : Nat) (s : State) : Bool := sparseGet false (s.replica r).atCheck t

/-- A thread of an active replica has reached its target (R261); one whose block instruction is stopped by a full queue in the bundle of
the target stays at that element, as every replica does (R260, log 16). -/
def atTarget (r t : Nat) (s : State) : Bool :=
  let target := sparseGet 0 s.tri.targets t
  decide (target ≤ retiredCount r t s) || (atCheck r t s && decide (target ≤ reportedCount r t s))

/-- A thread of a voted replica issues nothing: the checkpoint is open and it has reached its target or stopped at a CHECK
(R261). -/
def checkpointHolds (h : Hart) (s : State) : Bool :=
  !isHewer h && s.tri.ckOpen && isActive (replicaOf h) s
    && (atTarget (replicaOf h) h.thread.val s || atCheck (replicaOf h) h.thread.val s)

/-- A replica is absent from the open checkpoint's vote whatever else happens (R262, R271). -/
def absentNow (r : Nat) (s : State) : Bool :=
  let x := s.replica r
  let stopped (t : Nat) : Bool := atCheck r t s && !atTarget r t s
  x.excluded || x.agreeLate || stopped 0 || stopped 1 || (s.core (32 + r)).lockup

/-- The vote can be taken: each active replica is absent or at both targets (R262). -/
def voteReady (s : State) : Bool :=
  s.tri.ckOpen && (actives s).all fun r => absentNow r s || (atTarget r 0 s && atTarget r 1 s)

/-- 20 µs after the targets were set: a replica that has not reached both is absent (R262). -/
def targetTimeout (s : State) : State :=
  if s.tri.ckOpen then
    (actives s).foldl (fun s r =>
      if atTarget r 0 s && atTarget r 1 s then s else s.setReplica r { s.replica r with excluded := true }) s
  else s

/-- A checkpoint of a replica has closed: its counts, matches and signature restart, and its queue is empty (R259, R265, R268). -/
def closeReplica (r : Nat) (s : State) : State :=
  let s := (List.range 2).foldl (fun s t =>
    let h := overmanThread r t
    s.setThread h { s.thread h with retired := 0 }) s
  s.setReplica r { s.replica r with queue := [], sig := 0, agreed := [], offers := [], atCheck := [], agreeLate := false, excluded := false }

/-! ### Resynchronisation -/

/-- RESYNC for replica `x` from the lowest-lettered active replica other than it (R276). -/
def startResync (x : Nat) (s : State) : State :=
  match (actives s).find? (fun r => decide (r ≠ x)) with
  | none => s
  | some d =>
    let s := s.setReplica x { s.replica x with role := .resync, queue := [] }
    let s := (s.incSat pgGat 0x050 8 8).incSat (pgOvm x) 0x058 8 8
    { s with tri := { s.tri with job := some ⟨x, d, false, 0⟩ } }

/-- The failures of a replica that count together with one at a shift (R280). -/
def recentFailures (now : Nat) (fs : List Nat) : List Nat :=
  fs.filter fun f => decide ((w32 now - w32 f).toNat < 15000)

/-- A resynchronisation of `x` fails: RESYNC_FAIL, a new one at once, and the hand-over after the third within 15,000 shifts (R277, R280). -/
def resyncFails (x : Nat) (s : State) : State :=
  let fs := (shiftNo s).toNat :: (recentFailures (shiftNo s).toNat (s.replica x).failures)
  let s := s.setReplica x { s.replica x with failures := fs.take 3 }
  let s := (s.setFld pgGat 0x050 (2 * x) 2 (min 3 fs.length)).setEvt pgGat 5
  let s := if 3 ≤ fs.length ∧ s.tri.mode = 0 then { s with tri := { s.tri with handOver := some x } } else s
  startResync x s

/-- The boundary at a resynchronisation: a copy not complete by the second boundary after the vote has failed (R277). -/
def resyncBoundary (s : State) : State :=
  match s.tri.job with
  | none => s
  | some j =>
    let n := j.boundaries + 1
    if 2 ≤ n ∧ !j.copied then resyncFails j.x s
    else { s with tri := { s.tri with job := some { j with boundaries := n } } }

/-! ### The Canary -/

/-- The automatic schedule at a boundary (R283): at a shift number that PERIOD divides a period begins, the last one's injections that
were not made lapse, and with AUTO every enabled target is due. -/
def canaryBoundary (s : State) : State :=
  let period := s.getFld pgCan 0x040 16 16
  let n := (shiftNo s).toNat
  if n % period = 0 then
    let due := (List.range 60).foldl (fun m t =>
      if bit (s.reg pgCan 0x040) 0 && bit (s.reg pgCan (canReg 0x044 t)) (t % 32) then sparseSet none m t (some (n / period % 64)) else m) []
    { s with can := { s.can with due := due } }
  else s

/-- The Canary at the verdict comparators, whose code is checked on the injected comparison too (R179, R282): the first task that received a verdict on the Hewer, or the one named. -/
def canaryVerdicts (s : State) : State :=
  (List.range 32).foldl (fun s n =>
    match canInjection n s with
    | none => s
    | some (b, arg) =>
      let judged := (taskIndexes s).filter fun e => match s.task e with
        | some t => decide (t.hewer = n) && decide (t.st = .done)
        | none => false
      let pick := match arg with
        | some e => judged.find? (fun x => decide (x = e))
        | none => judged.head?
      match pick with
      | none => s
      | some e =>
        let da := sigDecode (storedSig e 0 s)
        let db := sigDecode (storedSig e 1 s)
        let reported := da.2.2 || db.2.2 || !(s.comparator n).shows (decide (da.1 = db.1 ^^^ (1#64 <<< (b % 64))))
        let s := canDone n reported s
        if reported && decide (s.comparator n ≠ .badCode) then s else verdictCmpFault n s) s

/-- The Canary at the Deputy pairs that are in RUN as a shift begins (R254, R282). -/
def canaryDeputies (s : State) : State := (List.range 24).foldl (fun s p => canaryPair p s) s

/-- The Canary at voter `v` in a boundary checkpoint whose present replicas have the signatures `sigs` (R282, R283): the injection is
reported only where the voter shows the flipped replica different from every other. -/
def canaryVoter (v : Nat) (sigs : List (Nat × W64)) (s : State) : State :=
  match canInjection (57 + v) s with
  | none => s
  | some (b, _) =>
    let agreeing := sigs.filter fun x => sigs.any fun y => decide (x.1 ≠ y.1) && decide (x.2 = y.2)
    match agreeing[((shiftNo s).toNat / max 1 (s.getFld pgCan 0x040 16 16) + v) % max 1 agreeing.length]? with
    | none => s
    | some x =>
      let flipped := x.2 ^^^ (1#64 <<< (b % 64))
      let reported := sigs.all fun y => decide (y.1 = x.1) || !(s.comparator (57 + v)).shows (decide (y.2 = flipped))
      let s := canDone (57 + v) reported s
      if reported then s else enterSafe .canaryVoter 36 (s.setEvt pgGat 3)

/-- A write of CAN_REQ (R284, R289). -/
def canRequest (m : Byte) (data : W32) (s : State) : State :=
  if m ≠ 0x23 then refuseWrite pgCan 0x04C 0x40 s
  else if 60 ≤ fld data 26 6 then refuseWrite pgCan 0x04C 0x06 s
  else { s with can := { s.can with requests := sparseSet none s.can.requests (fld data 26 6) (some (fld data 20 6, fld data 0 10)) } }

end Sys2Proof.Machine
end

