-- ==== Sys2Proof/Machine/Tipple.lean ====
section
/-!
DEFINITION. Sys2Proof/Machine/Tipple.lean: the Tipple crosspoint matrix (chapter 08): staging, ramps, input forming, the passes,
comparison and release.
-/

namespace Sys2Proof.Machine

/-- The Tipple right after a reset or with its domain just on (R191, R193). -/
def idleTipple : Tipple :=
  { table := [], health := [], bad := [], inDesc := [], outDesc := [], queue := [], gains := [], live := [], fill := [], mix := [],
    formed := [], inMem := [], colMem := [], first := [], skipped := [], compared := [], out := [], log := [] }

/-- The Tipple computes (R204). -/
def tplRuns (s : State) : Bool := s.active pgTpl && decide (s.domain 61 = .on)

/-- The state with the Tipple replaced. -/
def State.setTpl (s : State) (t : Tipple) : State := { s with tpl := t }

/-- A crosspoint entry in effect (R191). -/
def Tipple.entry (t : Tipple) (x : Nat) : W32 := sparseGet 0 t.table x

/-- An input descriptor in effect (R189). -/
def Tipple.input (t : Tipple) (i : Nat) : W32 := sparseGet 0 t.inDesc i

/-- The reset value of an output descriptor (R196). -/
def outReset (j : Nat) : W32 := if j < 96 then w32 (0x20000000 + j * 0x100000) else 0

/-- An output descriptor in effect (R196). -/
def Tipple.output (t : Tipple) (j : Nat) : W32 := sparseGet (outReset j) t.outDesc j

/-! ### Staging -/

/-- The size of a staging table (R205). -/
def tableSize (t : Nat) : Nat := if t = 0 then 131072 else if t = 1 then 512 else if t = 2 then 256 else 0

/-- A staging or read-back address is well formed (R205). -/
def tplAddrOk (v : W32) : Bool := decide (fld v 0 17 < tableSize (fld v 30 2))

/-- The block-specific code of a staged write that breaks a rule of R189, R191 or R196, if it does. -/
def stageBreaks (t x : Nat) (d : W32) : Option Nat :=
  let kind := fld d 29 3
  let dst := fld d 20 9
  if t = 0 then (if fld d 0 5 ≠ 0 then some 0x06 else none)
  else if t = 1 then
    let srcOk := if kind = 1 then true else if kind = 2 then decide (dst < 256) else if kind = 3 then decide (dst < 64) else decide (dst = 0)
    if 5 ≤ kind ∨ !srcOk ∨ fld d 11 9 ≠ 0 ∨ (bit d 10 ∧ kind ≠ 4) then some 0x06 else none
  else
    if fld d 0 19 ≠ 0 then some 0x06
    else if x < 96 then (if kind = 1 ∧ dst = x then none else some 0x43)
    else
      let dstOk := if kind = 2 ∨ kind = 3 then decide (dst < 256) else decide (dst = 0)
      if 5 ≤ kind ∨ kind = 1 ∨ !dstOk then some 0x06 else none

/-- CLASS is 0 in the new value, in the entry in effect, or in its last queued write (R202). -/
def stageClass0 (x : Nat) (d : W32) (s : State) : Bool :=
  let last := s.tpl.queue.reverse.find? fun q => decide (q.table = 0) && decide (q.index = x)
  decide (fld d 5 2 = 0) || decide (fld (s.tpl.entry x) 5 2 = 0)
    || (match last with | some q => decide (fld q.data 5 2 = 0) | none => false)

/-- A refused staged write (R202; STAGE_REJECT by the catalogue of R400). -/
def stageRefuse (code : Nat) (s : State) : State := (refuseWrite pgTpl 0x044 code s).setEvt pgTpl 4

/-- A write of TPL_STAGE_DATA (R202, R205, R36). -/
def stageWrite (m : Byte) (data : W32) (s : State) : State :=
  let a := s.reg pgTpl 0x040
  let t := fld a 30 2
  let x := fld a 0 17
  if t = 0 ∧ m ≠ 0x23 ∧ m ≠ 0xFF ∧ stageClass0 x data s then stageRefuse 0x41 s
  else match stageBreaks t x data with
    | some code => stageRefuse code s
    | none =>
      if 4096 ≤ s.tpl.queue.length then stageRefuse 0x40 s
      else
        let s := s.setTpl { s.tpl with queue := s.tpl.queue ++ [⟨t, x, data, m⟩] }
        let s := s.setReg pgTpl 0x048 (w32 s.tpl.queue.length)
        if bit a 29 then s.setFld pgTpl 0x040 0 17 (if x + 1 = tableSize t then 0 else x + 1) else s

/-- Another output already names the TDM slot or network channel of a descriptor (R203). -/
def destTaken (j : Nat) (d : W32) (t : Tipple) : Bool :=
  (fld d 29 3 = 2 || fld d 29 3 = 3)
    && (List.range 256).any fun k => decide (k ≠ j) && decide (fld (t.output k) 20 12 = fld d 20 12)

/-- One staged write applied (R201, R203). -/
def stageApply (q : Staged) (s : State) : State :=
  let t := s.tpl
  if q.table = 0 then
    s.setTpl { t with table := sparseSet 0 t.table q.index q.data, health := sparseSet EntryHealth.clean t.health q.index .clean,
                      bad := sparseSet false t.bad q.index false }
  else if q.table = 1 then s.setTpl { t with inDesc := sparseSet 0 t.inDesc q.index q.data }
  else if destTaken q.index q.data t then (refuseWrite pgTpl 0x044 0x42 s).setEvt pgTpl 4
  else s.setTpl { t with outDesc := sparseSet (outReset q.index) t.outDesc q.index q.data }

/-- TPL_READ_DATA (R201, R205). -/
def tplReadData (s : State) : W32 :=
  let a := s.reg pgTpl 0x04C
  let x := fld a 0 17
  match fld a 30 2 with
  | 0 => if sparseGet false s.tpl.bad x || decide (sparseGet EntryHealth.clean s.tpl.health x = .uncorrectable) then 0 else s.tpl.entry x
  | 1 => s.tpl.input x
  | _ => s.tpl.output x

/-! ### The input store -/

/-- SCLAMP of a sample (R187). -/
def clampSample (x : W24) : W24 := if x = 0x800000#24 then 0x800001#24 else x

/-- A list with an element put at a position, filled up with `dflt`. -/
def listPut {α : Type} (dflt : α) : List α → Nat → α → List α
  | [], 0, v => [v]
  | _ :: rest, 0, v => v :: rest
  | [], n + 1, v => dflt :: listPut dflt [] n v
  | x :: rest, n + 1, v => x :: listPut dflt rest n v

/-- A sample enters the fill buffer of an input (R187). -/
def fillSample (i k : Nat) (v : Val 24) (s : State) : State :=
  let blk := sparseGet [] s.tpl.fill i
  s.setTpl { s.tpl with fill := sparseSet [] s.tpl.fill i (listPut none blk k (some ⟨clampSample v.bits, v.poison⟩)) }

/-- A whole block enters the fill buffer of an input. -/
def fillBlock (i : Nat) (blk : List (Val 24)) (s : State) : State :=
  s.setTpl { s.tpl with fill := sparseSet [] s.tpl.fill i (blk.map fun v => some ⟨clampSample v.bits, v.poison⟩) }

/-- The blocks of the TDM and microphone inputs that INTAKE delivers (R188). -/
def fillFromFrontEnd (s : State) : State :=
  if !tplRuns s then s
  else
    (List.range 512).foldl (fun s i =>
      let d := s.tpl.input i
      let src := if fld d 29 3 = 2 then some (fld d 20 9) else if fld d 29 3 = 3 then some (256 + fld d 20 9) else none
      match src with
      | none => s
      | some c => match sparseGet none s.aud.capture c with
        | some blk => fillBlock i (blk.map fun x => ⟨x, false⟩) s
        | none => s) s

/-! ### Concealment -/

/-- 128 × a(j) (R181). -/
def concealWeight (j : Nat) : Int := if j = 0 then 128 else if j ≤ 8 then ((2 ^ (8 - j) : Nat) : Int) else 0

/-- A quotient rounded half up (R181). -/
def roundHalfUp (num : Int) (den : Nat) : Int := (2 * num + den) / (2 * den)

/-- SCLAMP of an integer (R181). -/
def sclampInt (x : Int) : Int := max (-0x7FFFFF) (min 0x7FFFFF x)

/-- The block conceal(j) from the last good block (R181). -/
def concealBlock (b : Nat) (g : List Int) (j : Nat) : List Int :=
  let last := g.getD (b - 1) 0
  (List.range b).map fun (i : Nat) =>
    let w := concealWeight (j - 1) * b + (concealWeight j - concealWeight (j - 1)) * ((i : Int) + 1)
    let v := last * b + (g.getD i 0 - last) * ((i : Int) + 1)
    sclampInt (roundHalfUp (w * v) (128 * b * b))

/-- The law of R181: the formed block and the memory afterwards; none for a block not released. -/
def concealLaw (b : Nat) (m : Conceal) (blk : Option (List Int)) : List Int × Conceal :=
  match blk with
  | some x =>
    if m.run = 0 then (x, ⟨x, 0⟩)
    else
      let z := concealBlock b m.good (m.run + 1)
      ((List.range b).map fun i => sclampInt (roundHalfUp (x.getD i 0 * (i + 1) + z.getD i 0 * ((b : Int) - 1 - i)) b), ⟨x, 0⟩)
  | none => (concealBlock b m.good (m.run + 1), ⟨m.good, m.run + 1⟩)

/-- The block of an input of the mix buffer, if it is released (R190). -/
def releasedInput (b i : Nat) (s : State) : Option (List Int) :=
  let d := s.tpl.input i
  let blk := sparseGet [] s.tpl.mix i
  let whole := decide (blk.length = b) && blk.all fun v => match v with
    | some x => !x.poison
    | none => false
  let judged := !bit d 10 || decide (sparseGet Verdict.none s.ons.outcomes (fld d 0 10) = .matched)
  if whole && judged then some (blk.map fun v => match v with | some x => x.bits.toInt | none => 0) else none

/-- One input formed for the present mix (R190), with TPL_IN_FAILw; the memory of R181 of an input of KIND none stays (log 93). -/
def formInput (b i : Nat) (s : State) : State :=
  if fld (s.tpl.input i) 29 3 = 0 then s.setFld pgTpl (0x0A0 + 4 * (i / 32)) (i % 32) 1 0
  else
    let rel := releasedInput b i s
    let r := concealLaw b (sparseGet ⟨[], 0⟩ s.tpl.inMem i) rel
    let s := s.setTpl { s.tpl with formed := sparseSet [] s.tpl.formed i r.1, inMem := sparseSet ⟨[], 0⟩ s.tpl.inMem i r.2 }
    (s.setFld pgTpl (0x0A0 + 4 * (i / 32)) (i % 32) 1 (b2n rel.isNone)).setEvtIf rel.isNone pgTpl 2

/-! ### Gains -/

/-- The gain of an entry before any write: 0 and no ramp (R193). -/
def idleGain : Gain := ⟨0, false, 0, 0, 0, 0⟩

/-- The gain at sample `i` of the present shift (R193). -/
def Gain.at (g : Gain) (i : Nat) : Int :=
  if !g.active then g.c
  else
    let k := g.k + i + 1
    if g.n ≤ k then g.to_ else g.from_ + (g.to_ - g.from_) * k / g.n

/-- The gain after a shift of `b` samples (R193). -/
def Gain.advance (b : Nat) (g : Gain) : Gain :=
  if !g.active then g
  else if g.n ≤ g.k + b then { idleGain with c := g.to_ } else { g with k := g.k + b }

/-- The gain applied to the last sample before a boundary. -/
def Gain.present (g : Gain) : Int := if !g.active ∨ g.k = 0 then g.c else g.from_ + (g.to_ - g.from_) * g.k / g.n

/-- The gain from a boundary on, for the effective target `e` and ramp length `n` samples (R193). -/
def Gain.retarget (e : Int) (n : Nat) (g : Gain) : Gain :=
  if g.active ∧ g.to_ = e then g
  else
    let c := g.present
    if c = e ∨ n = 0 then { idleGain with c := e } else ⟨c, true, c, e, n, 0⟩

/-- The lowest CLASS among a column's entries with MUTE 0 and GAIN not 0 (R192). -/
def columnMin (j : Nat) (t : Tipple) : Option Nat :=
  t.table.foldl (fun m kv =>
    if kv.1 / 512 = j ∧ !bit kv.2 7 ∧ fld kv.2 12 20 ≠ 0 then
      some (match m with | some c => min c (fld kv.2 5 2) | none => fld kv.2 5 2)
    else m) none

/-- The effective target of an entry (R192). -/
def effectiveTarget (x : Nat) (t : Tipple) : Int :=
  let v := t.entry x
  let ducked := bit (t.output (x / 512)) 19 && (match columnMin (x / 512) t with | some c => decide (c < fld v 5 2) | none => false)
  if bit v 7 ∨ ducked then 0 else sgn 20 (fld v 12 20)

/-- The entries that are not idle: those with a value or a gain. -/
def tippleKeys (t : Tipple) : List Nat :=
  (t.gains.map (·.1)).foldl (fun ks k => insertRising k ks) (t.table.map (·.1))

/-- LIMIT of R195. -/
def liveLimit (s : State) : Nat := if rate96 s then 10240 else 20480

/-- Targets, ramps and the live set fixed at a boundary (R192, R193, R195); with `jump` every ramp completes at once (R204). -/
def fixGains (jump : Bool) (s : State) : State :=
  let b := blockLen s
  let t := s.tpl
  let keys := tippleKeys t
  let live := keys.filter fun x =>
    let e := effectiveTarget x t
    let g := sparseGet idleGain t.gains x
    decide (e ≠ 0) || (!jump && (decide (g.present ≠ e) || (g.active && decide (g.to_ = e))))
  let gains := keys.foldl (fun m x =>
    let e := effectiveTarget x t
    let g := sparseGet idleGain m x
    sparseSet idleGain m x (if jump then { idleGain with c := e } else g.retarget e (fld (t.entry x) 8 4 * b))) t.gains
  let limit := liveLimit s
  let per := live.foldl (fun m x => sparseSet 0 m (x / 512) (sparseGet 0 m (x / 512) + 1)) []
  let r := (List.range 256).foldl (fun (acc : Nat × Sparse Nat) j =>
    let n := acc.1 + sparseGet 0 per j
    (n, if limit < n then sparseSet 0 acc.2 j 2 else acc.2)) (0, [])
  let s := s.setTpl { t with gains := gains, live := per, skipped := r.2, first := [], compared := [] }
  let s := s.setReg pgTpl 0x054 (w32 (b2n (decide (limit < live.length)) * 0x80000000 + live.length))
  s.setEvtIf (decide (limit < live.length)) pgTpl 3

/-- The boundary at the Tipple, with the new registers in effect; `changed` says that RATE96 changes (R187, R198, R202, R204). -/
def tippleBoundary (changed : Bool) (s : State) : State :=
  if s.domain 61 ≠ .on then s.setTpl idleTipple
  else
    let b := blockLen s
    let s := s.setTpl { s.tpl with mix := s.tpl.fill, fill := [], formed := [], gains := s.tpl.gains.foldl (fun m kv => sparseSet idleGain m kv.1 (kv.2.advance b)) [] }
    let s := s.tpl.queue.foldl (fun s q => stageApply q s) s
    let s := (s.setTpl { s.tpl with queue := [] }).setReg pgTpl 0x048 0
    if !tplRuns s then
      s.setTpl { s.tpl with mix := [], gains := [], live := [], inMem := [], colMem := [], first := [], skipped := [], compared := [], out := [] }
    else
      let s := if changed then s.setTpl { s.tpl with mix := [], inMem := [], colMem := [] } else s
      (List.range 512).foldl (fun s i => formInput b i s) (fixGains changed s)

/-! ### The passes -/

/-- A weighted sum rounded half away from zero and saturated (R194). -/
def mixRound (acc : Int) : Int :=
  let m : Int := (((acc.natAbs + 0x20000) / 0x40000 : Nat) : Int)
  let y := if acc < 0 then -m else m
  max (-0x7FFFFF) (min 0x7FFFFF y)

/-- Sample `k` of column `j`, with the inputs negated or not (R194, R198). -/
def columnSample (neg : Bool) (j k : Nat) (t : Tipple) : Int :=
  mixRound ((t.gains.filter fun kv => decide (kv.1 / 512 = j)).foldl (fun acc kv =>
    let x := (sparseGet [] t.formed (kv.1 % 512)).getD k 0
    acc + kv.2.at k * (if neg then -x else x)) 0)

/-- Column `j` computed (R194). -/
def columnBlock (neg : Bool) (b j : Nat) (t : Tipple) : List Int := (List.range b).map fun k => columnSample neg j k t

/-- The entries of column `j` as a pass reads them: single errors corrected, uncorrectable ones marked bad (R201). -/
def readColumn (j : Nat) (s : State) : State :=
  (s.tpl.health.filter fun kv => decide (kv.1 / 512 = j)).foldl (fun s kv =>
    match kv.2 with
    | .clean => s
    | .single => (s.setTpl { s.tpl with health := sparseSet EntryHealth.clean s.tpl.health kv.1 .clean }).setEvt pgTpl 5
    | .uncorrectable => (s.setTpl { s.tpl with bad := sparseSet false s.tpl.bad kv.1 true }).setEvt pgTpl 6) s

/-- Some entry of column `j` is marked bad (R201). -/
def columnBad (j : Nat) (t : Tipple) : Bool := t.bad.any fun kv => decide (kv.1 / 512 = j) && kv.2

/-- The first pass of one column (R198); a column with a marked entry is not computed, so none of its entries is read (R201),
nor one past LIMIT, which is OVER_BUDGET (R195, log 94). -/
def firstColumn (j : Nat) (s : State) : State :=
  if sparseGet 0 s.tpl.skipped j ≠ 0 then s
  else
    let s := if columnBad j s.tpl then s else readColumn j s
    if columnBad j s.tpl then s.setTpl { s.tpl with skipped := sparseSet 0 s.tpl.skipped j 3 }
    else s.setTpl { s.tpl with first := sparseSet none s.tpl.first j (some (columnBlock false (blockLen s) j s.tpl)) }

/-- TPL_TAB_SIG: the CRC-32 over all entries in effect (R205). -/
def tableSignature (t : Tipple) : W32 :=
  (List.range 131072).foldl (fun c x => crc32Run c (bytesOf 4 (t.entry x).toNat)) 0xFFFFFFFF#32 ^^^ 0xFFFFFFFF#32

/-- The Tipple at 330.0 µs: the first pass, and the table's signature (R198, R205). -/
def tippleFirstPass (s : State) : State :=
  if !tplRuns s then s
  else
    let s := (List.range 256).foldl (fun s j => firstColumn j s) s
    s.setReg pgTpl 0x058 (tableSignature s.tpl)

/-- A fault of the column comparator (R200). -/
def columnCmpFault (s : State) : State := enterSafe .tippleCmp 38 (s.setEvt pgTpl 7)

/-- The Canary at the column comparator (R200, R282): bit `b` mod 24 of sample `b` mod b_len of the negated result. -/
def canaryColumn (j : Nat) (y y' : List Int) (s : State) : State :=
  match canInjection 32 s with
  | none => s
  | some (b, arg) =>
    let lowest := ((List.range 256).find? fun k => (sparseGet none s.tpl.first k).isSome).getD 256
    if (match arg with | some c => decide (c = j) | none => decide (lowest = j)) then
      let k := b % y.length
      let flipped := (wrap 24 (y'.getD k 0)) ^^^ (1#24 <<< (b % 24))
      let reported := !(s.comparator 32).shows (decide (flipped = wrap 24 (-(y.getD k 0))))
      let s := canDone 32 reported s
      if reported then s else columnCmpFault s
    else s

/-- A column's comparison completes (R199): the negated pass's block against the first pass's. An entry that this pass alone reads
with an uncorrectable error is marked, and the column fails (R201). -/
def columnCompare (j : Nat) (s : State) : State :=
  match sparseGet none s.tpl.first j, sparseGet none s.tpl.compared j with
  | some y, none =>
    let s := readColumn j s
    let y' := columnBlock true y.length j s.tpl
    let same := (s.comparator 32).shows (decide (y' = y.map fun v => -v)) && !columnBad j s.tpl
    let s := s.setTpl { s.tpl with compared := sparseSet none s.tpl.compared j (some same) }
    let s := canaryColumn j y y' (s.setEvtIf (!same) pgTpl 1)
    if s.comparator 32 = .badCode then columnCmpFault s else s
  | _, _ => s

/-- TIPPLE_COLUMN_COMPARE: only while the negated pass runs (R198, R199). -/
def compareCommand (j : Nat) (s : State) : State :=
  if tplRuns s && decide (s.ons.seg = .verdict) then columnCompare j s else s

/-- An entry of the failure log (R205). -/
def failLog (reason j : Nat) (s : State) : State :=
  if 16 ≤ s.tpl.log.length then s.setEvt pgTpl 8
  else s.setTpl { s.tpl with log := s.tpl.log ++ [w32 (0x80000000 + reason * 0x10000000 + fld (shiftNo s) 0 10 * 0x10000 + j)] }

/-- A column released or concealed (R199, R181). -/
def releaseColumn (b j : Nat) (s : State) : State :=
  let t := s.tpl
  let passed := decide (sparseGet none t.compared j = some true)
  let blk := if passed then sparseGet none t.first j else none
  let r := concealLaw b (sparseGet ⟨[], 0⟩ t.colMem j) blk
  let s := s.setTpl { t with colMem := sparseSet ⟨[], 0⟩ t.colMem j r.2
                             out := if s.guard.safe then t.out else sparseSet [] t.out j (r.1.map (wrap 24)) }
  let s := s.setFld pgTpl (0x060 + 4 * (j / 32)) (j % 32) 1 (b2n (!passed))
  if passed then s
  else failLog (if sparseGet 0 t.skipped j = 0 then 1 else sparseGet 0 t.skipped j) j (s.setEvt pgTpl 2)

/-- The Tipple at 650.0 µs: every comparison has completed, every column is released or concealed, and the summary is written
(R199, R200, R205). MM_RUN stays at 3, and a further failing shift sets TIPPLE_FAIL again (log 95). -/
def tippleRelease (s : State) : State :=
  if !tplRuns s then s
  else
    let b := blockLen s
    let s := (List.range 256).foldl (fun s j => columnCompare j s) s
    let count (p : Option Bool → Bool) : Nat := ((List.range 256).filter fun j => p (sparseGet none s.tpl.compared j)).length
    let bad := count fun x => decide (x = some false)
    let good := count fun x => decide (x = some true)
    let run := s.getFld pgTpl 0x05C 25 2
    let run' := if 0 < bad then min 3 (run + 1) else if 0 < good then 0 else run
    let s := s.setTpl { s.tpl with out := [] }
    let s := (List.range 256).foldl (fun s j => releaseColumn b j s) s
    let s := s.setReg pgTpl 0x05C (w32 (run' * 0x2000000 + (256 - good) * 0x10000 + bad))
    if 0 < bad ∧ run' = 3 then enterSafe .tippleFail 38 (s.setEvt pgTpl 9) else s

end Sys2Proof.Machine
end

