-- ==== Sys2Proof/Machine/Winder.lean ====
section
/-!
DEFINITION. Sys2Proof/Machine/Winder.lean: the Winder channels (R305–R312): runs, list entries, elements, stops and resumes.
-/

namespace Sys2Proof.Machine

/-- A register of channel `c` of District `d` (R312). -/
def wndOff (c k : Nat) : Nat := 0x100 + 0x20 * c + k

/-- The key of a channel. -/
def wndKey (d c : Nat) : Nat := 16 * d + c

/-- The fabric domain of a District is ON, so that its channels run (R312). -/
def wndOn (d : Nat) (s : State) : Bool := decide (s.domain (32 + 4 * d) = .on)

/-- WND_CTRLc.TRIG: 0 OFF, 1 SOFT, 2 INTAKE, 3 DRAIN. -/
def wndTrig (d c : Nat) (s : State) : Nat := s.getFld (pgWnd d) (wndOff c 0) 30 2

/-- WND_STATc.STATE is RUNNING. -/
def wndRuns (d c : Nat) (s : State) : Bool := decide (s.getFld (pgWnd d) (wndOff c 0x18) 29 3 = 1)

/-- WND_STATc.STATE set, with START showing whether the channel runs. -/
def wndSetState (d c x : Nat) (s : State) : State :=
  (s.setFld (pgWnd d) (wndOff c 0x18) 29 3 x).setFld (pgWnd d) (wndOff c 0) 0 1 (b2n (decide (x = 1)))

/-- A run starts afresh (R307, R310). -/
def wndStart (d c : Nat) (s : State) : State :=
  if !wndOn d s then s
  else wndSetState d c 1 ((s.setReg (pgWnd d) (wndOff c 0x18) 0).setWinder (wndKey d c) idleWinder)

/-- A stopped run continues (R309). -/
def wndResume (d c : Nat) (s : State) : State := if wndOn d s then wndSetState d c 1 s else s

/-- A START or RESUME is held until the boundary: performed from 665.0 µs on (R307, R309). -/
def wndHolds (s : State) : Bool := decide (s.ons.seg = .lamp)

/-- An entry or repeat ends other than DONE: ERRS, FIRST_ERR, CHEVT and CH_ERR (R309, R312). -/
def wndError (d c : Nat) (s : State) : State :=
  let p := pgWnd d
  let w := s.winder (wndKey d c)
  let n := s.getFld p (wndOff c 0x18) 16 8
  let s := if w.erred then s else s.setFld p (wndOff c 0x18) 8 8 n
  let s := s.setWinder (wndKey d c) { w with erred := true }
  ((s.incSat p (wndOff c 0x18) 0 8).setFld p 0x048 (16 + c) 1 1).setEvt p 2

/-- A run ends (R307, R312). -/
def wndEnd (d c : Nat) (s : State) : State :=
  let s := s.setWinder (wndKey d c) { s.winder (wndKey d c) with job := none, done := 0 }
  ((wndSetState d c 2 s).setFld (pgWnd d) 0x048 c 1 1).setEvt (pgWnd d) 1

/-! ### Memory -/

/-- The channel's requester (R24, R305). -/
def wndRequester (d c : Nat) : Requester := fixedRequester (BitVec.ofNat 8 (0x50 + 16 * d + c))

/-- `n` bytes at `a` lie in memory the channel reaches (R305). -/
def wndReaches (d a n : Nat) : Bool :=
  let inside (lo : Nat) : Bool := decide (lo ≤ a) && decide (a + n ≤ lo + 0x400000)
  inside (0x400000 * d) || inside (0x01000000 + 0x400000 * d)

/-- The REASON of R308 for a refusal by the tests of a bank port. -/
def wndReason (r : Nat) : Nat := if r = 1 then 1 else if r = 2 then 2 else if r = 3 then 3 else 5

/-- The tests of a transfer of `n` bytes, burst by burst (R305): none, or the REASON. -/
def wndCheck (d c : Nat) (k : AccKind) (a n : Nat) (s : State) : Option Nat × State :=
  if !wndReaches d a n then (some 4, s)
  else
    let r := busCheck (wndRequester d c) k a s
    match r.1 with
    | some x => (some (wndReason x), r.2)
    | none =>
      let next := (a / 64 + 1) * 64
      if next < a + n then
        let r' := busCheck (wndRequester d c) k next r.2
        (r'.1.map wndReason, r'.2)
      else (none, r.2)

/-- A checked read. -/
def wndRead (d c a n : Nat) (s : State) : Except Nat Payload × State :=
  let r := wndCheck d c .read a n s
  match r.1 with
  | some x => (.error x, r.2)
  | none => let v := portRead (wndRequester d c).master a n r.2; (.ok v.1, v.2)

/-- A checked write: none when done, else the REASON. -/
def wndWrite (d c a : Nat) (bs : Payload) (s : State) : Option Nat × State :=
  let r := wndCheck d c .write a bs.length s
  match r.1 with
  | some x => (some x, r.2)
  | none => (none, portWrite (wndRequester d c).master none a bs r.2)

/-! ### Elements -/

/-- Source and destination kinds of R306. -/
def kindMem : Nat := 0
def kindCapture : Nat := 1
def kindTipple : Nat := 2

/-- The operations of R308. -/
def opMov : Nat := 0
def opFill : Nat := 1
def opScan : Nat := 2
def opXform : Nat := 3

/-- The element size in bytes (R131). -/
def elementSize (op : Nat) (word : Bool) : Nat := if op = opXform then 24 else if word ∧ op ≠ opScan then 8 else 3

/-- Endpoint rules of a transfer of `count` elements (R306, R308): the use is allowed. -/
def endpointOk (op sk dk src dst count : Nat) (word : Bool) (s : State) : Bool :=
  if sk = kindMem ∧ dk = kindMem then true
  else
    let b := blockLen s
    let size := decide (count = if op = opXform then b / 8 else b) && !(word && decide (op = opMov ∨ op = opFill))
    let srcOk := if sk = kindMem then true
      else if sk = kindCapture then decide (src < 320) && decide (s.ons.seg ≠ .lamp)
      else decide (src < 256) && decide (fld (s.tpl.output src) 29 3 = 4) && decide (s.ons.seg = .drain ∨ s.ons.seg = .cutoff)
    let dstOk := if dk = kindMem then true
      else decide (dk = kindTipple) && decide (dst < 512) && decide (fld (s.tpl.input dst) 29 3 = 4) && decide (op = opMov ∨ op = opFill)
    size && srcOk && dstOk

/-- The alignment rules of R308. -/
def elementAligned (op sk dk src dst : Nat) (word : Bool) : Bool :=
  let need := decide (op = opXform) || (word && decide (op = opMov ∨ op = opFill))
  let srcOk := decide (op = opFill) || decide (sk ≠ kindMem) || decide (src % 8 = 0)
  let dstOk := decide (op = opScan) || decide (dk ≠ kindMem) || decide (dst % 8 = 0)
  !need || (srcOk && dstOk)

/-- The bytes of a sample with its mark on each. -/
def sampleBytes (v : Val 24) : Payload := (bytesOf 3 v.bits.toNat).map (·, v.poison)

/-- The sample a payload of three bytes holds. -/
def sampleOf (bs : Payload) : Val 24 := ⟨BitVec.ofNat 24 (payloadNum bs), payloadPoison bs⟩

/-- Sample `k` that a CAPTURE or TIPPLE source returns (R306). -/
def endpointSample (sk src k : Nat) (s : State) : Val 24 :=
  if sk = kindCapture then
    match sparseGet none s.aud.capture src with
    | some blk => ⟨blk.getD k 0, false⟩
    | none => ⟨0, true⟩
  else ⟨(sparseGet [] s.tpl.out src).getD k 0, false⟩

/-- The transform of BXFORM on a group of samples (R131). -/
def groupTransform (negate : Bool) (x : List (Val 24)) : List (Val 24) :=
  x.reverse.map fun v => if negate then ⟨-(clampSample v.bits), v.poison⟩ else v

/-- The samples of a group of 24 bytes. -/
def groupOfBytes (bs : Payload) : List (Val 24) := (List.range 8).map fun i => sampleOf ((bs.drop (3 * i)).take 3)

/-- The magnitude a BSCAN element contributes (R131). -/
def scanPeak (peak v : Val 24) : Val 24 :=
  let m := (clampSample v.bits).toInt.natAbs
  ⟨BitVec.ofNat 24 (max peak.bits.toNat m), peak.poison || v.poison⟩

/-- Element `k` read from its source. -/
def loadElement (d c op sk src k n : Nat) (s : State) : Except Nat Payload × State :=
  if sk = kindMem then wndRead d c src n s
  else if op = opXform then (.ok ((List.range 8).flatMap fun i => sampleBytes (endpointSample sk src (8 * k + i) s)), s)
  else (.ok (sampleBytes (endpointSample sk src k s)), s)

/-- Element `k` written to its destination: none when done, else the REASON. -/
def storeElement (d c dk dst k : Nat) (bs : Payload) (s : State) : Option Nat × State :=
  if dk = kindMem then wndWrite d c dst bs s else (none, fillSample dst k (sampleOf bs) s)

/-! ### Privileged channels -/

/-- The address of the current list entry (R307). -/
def wndEntryAddr (d c : Nat) (s : State) : Nat :=
  (s.reg (pgWnd d) (wndOff c 0x10)).toNat + 16 * s.getFld (pgWnd d) (wndOff c 0x18) 16 8

/-- The current entry ends with a status word; the run ends with LAST, entry 255, or a refused status write (R307–R309). -/
def wndFinish (d c result reason : Nat) (s : State) : State :=
  let w := s.winder (wndKey d c)
  let ctl := match w.job with | some j => j.ctl | none => 0
  let n := s.getFld (pgWnd d) (wndOff c 0x18) 16 8
  let r := wndWrite d c (wndEntryAddr d c s + 12) (cleanBytes (bytesOf 4 (result * 0x10000000 + reason * 0x1000000 + w.done))) s
  match r.1 with
  | some _ => wndEnd d c (wndError d c r.2)
  | none =>
    let s := if result = 1 then r.2 else wndError d c r.2
    if bit ctl 31 ∨ n = 255 then wndEnd d c s
    else (s.setWinder (wndKey d c) { s.winder (wndKey d c) with job := none, done := 0 }).setFld (pgWnd d) (wndOff c 0x18) 16 8 (n + 1)

/-- An entry whose elements are all done: BSCAN's peak, then the status (R307, R308). -/
def wndComplete (d c : Nat) (j : WinderJob) (s : State) : State :=
  if fld j.ctl 28 3 = opScan then
    let v := j.peak.bits.toNat + b2n j.peak.poison * 0x1000000
    let r := wndWrite d c (wndEntryAddr d c s + 4) (cleanBytes (bytesOf 4 v)) s
    match r.1 with
    | some _ => wndEnd d c (wndError d c r.2)
    | none => wndFinish d c 1 0 r.2
  else wndFinish d c (if j.poisoned then 4 else 1) 0 s

/-- One element of the current entry: none when it is done, else the REASON (R307 step 3). -/
def wndElement (d c : Nat) (j : WinderJob) (s : State) : Option Nat × State :=
  let p := pgWnd d
  let w := s.winder (wndKey d c)
  let op := fld j.ctl 28 3
  let sk := fld j.ctl 24 2
  let dk := fld j.ctl 22 2
  let n := elementSize op (bit j.ctl 26)
  let src := (s.reg p (wndOff c 4)).toNat
  let dst := (s.reg p (wndOff c 8)).toNat
  let step (j : WinderJob) (s : State) : State :=
    let s := if sk = kindMem ∧ op ≠ opFill then s.setReg p (wndOff c 4) (w32 (src + n)) else s
    let s := if dk = kindMem ∧ op ≠ opScan then s.setReg p (wndOff c 8) (w32 (dst + n)) else s
    let s := s.setReg p (wndOff c 0xC) (s.reg p (wndOff c 0xC) - 1)
    s.setWinder (wndKey d c) { s.winder (wndKey d c) with job := some j, done := w.done + 1 }
  let put (bs : Payload) (s : State) : Option Nat × State :=
    let r := storeElement d c dk dst w.done bs s
    match r.1 with
    | some x => (some x, r.2)
    | none => (none, step { j with poisoned := j.poisoned || (decide (dk = kindTipple) && payloadPoison bs) } r.2)
  if op = opFill then
    put (if n = 8 then cleanBytes (bytesOf 8 (wrap 64 j.fillValue.toInt).toNat) else sampleBytes ⟨j.fillValue, false⟩) s
  else
    let r := loadElement d c op sk src w.done n s
    match r.1 with
    | .error x => (some x, r.2)
    | .ok bs =>
      if op = opScan then (none, step { j with peak := scanPeak j.peak (sampleOf bs) } r.2)
      else if op = opXform then put ((groupTransform (bit j.ctl 27) (groupOfBytes bs)).flatMap sampleBytes) r.2
      else put bs r.2

/-- Up to `n` elements of the current entry, then its end if they were the last (R307, R309). -/
def wndElements (d c : Nat) : Nat → State → State
  | 0, s => s
  | n + 1, s =>
    match (s.winder (wndKey d c)).job with
    | none => s
    | some j =>
      if (s.reg (pgWnd d) (wndOff c 0xC)) = 0 then wndComplete d c j s
      else
        let r := wndElement d c j s
        match r.1 with
        | some x => wndFinish d c 2 x r.2
        | none =>
          if (r.2.reg (pgWnd d) (wndOff c 0xC)) = 0 then
            match (r.2.winder (wndKey d c)).job with
            | some j' => wndComplete d c j' r.2
            | none => r.2
          else wndElements d c n r.2

/-- The rules of an entry read from the list: it is executed unless this is false (R306, R308). -/
def entryOk (w0 w1 w2 : W32) (s : State) : Bool :=
  let op := fld w2 28 3
  let sk := fld w2 24 2
  let dk := fld w2 22 2
  let word := bit w2 26
  decide (op ≤ opXform) && decide (fld w2 16 6 = 0) && decide (sk ≠ 3) && decide (dk ≠ 3) && decide (dk ≠ kindCapture)
    && !(decide (op = opFill) && decide (sk ≠ kindMem)) && !(decide (op = opScan) && decide (dk ≠ kindMem))
    && endpointOk op sk dk w0.toNat w1.toNat (fld w2 0 16) word s && elementAligned op sk dk w0.toNat w1.toNat word

/-- The next entry of the list is read (R307 steps 1 and 2, R309): a refused or poisoned read ends the run. -/
def wndOpen (d c : Nat) (s : State) : State :=
  let a := wndEntryAddr d c s
  let r := if a % 16 ≠ 0 then (.error 5, s) else wndRead d c a 16 s
  match r.1 with
  | .error _ => wndEnd d c (wndError d c r.2)
  | .ok bs =>
    if payloadPoison bs then wndEnd d c (wndError d c r.2)
    else
      let word (k : Nat) : W32 := w32 (payloadNum ((bs.drop (4 * k)).take 4))
      let s := r.2
      let s := ((s.setReg (pgWnd d) (wndOff c 4) (word 0)).setReg (pgWnd d) (wndOff c 8) (word 1)).setReg (pgWnd d) (wndOff c 0xC)
        (w32 (fld (word 2) 0 16))
      let s := s.setWinder (wndKey d c)
        { s.winder (wndKey d c) with job := some ⟨word 2, BitVec.ofNat 24 (word 0).toNat, ⟨0, false⟩, false⟩, done := 0 }
      if entryOk (word 0) (word 1) (word 2) s then s else wndFinish d c 2 5 s

/-! ### Channels 4–15 -/

/-- One element of a repeat: none when it is done, else the REASON (R310). -/
def copyElement (d c : Nat) (s : State) : Option Nat × State :=
  let p := pgWnd d
  let w := s.winder (wndKey d c)
  let ctl := s.reg p (wndOff c 0)
  let sk := fld ctl 28 2
  let dk := fld ctl 26 2
  let word := bit ctl 25
  let n := elementSize opMov word
  let rep := s.getFld p (wndOff c 0x18) 16 8
  let place (off stride kind : Nat) : Nat :=
    let base := ((s.reg p (wndOff c off)).toNat : Int) + rep * sgn 16 (s.getFld p (wndOff c 0x10) stride 16)
    (wrap 32 (base + if kind = kindMem then (w.done * n : Nat) else (0 : Nat))).toNat
  let src := place 4 0 sk
  let dst := place 8 16 dk
  let ok := decide (sk ≠ 3) && decide (dk ≠ 3) && decide (dk ≠ kindCapture)
    && endpointOk opMov sk dk src dst (s.getFld p (wndOff c 0xC) 0 16) word s && elementAligned opMov sk dk src dst word
  if !ok then (some 5, s)
  else
    let r := loadElement d c opMov sk src w.done n s
    match r.1 with
    | .error x => (some x, r.2)
    | .ok bs =>
      let t := storeElement d c dk dst w.done bs r.2
      match t.1 with
      | some x => (some x, t.2)
      | none =>
        let v := t.2.winder (wndKey d c)
        let hurt := decide (dk = kindTipple) && payloadPoison bs
        (none, t.2.setWinder (wndKey d c)
          { v with done := w.done + 1, job := if hurt then some ⟨0, 0, ⟨0, false⟩, true⟩ else v.job })

/-- The end of a repeat (R310): POISON counts as a repeat not ending DONE (R306, R312). -/
def copyRepeatEnd (d c : Nat) (s : State) : State :=
  let p := pgWnd d
  let rep := s.getFld p (wndOff c 0x18) 16 8
  let s := if (s.winder (wndKey d c)).job.isSome then wndError d c s else s
  let s := s.setWinder (wndKey d c) { s.winder (wndKey d c) with done := 0, job := none }
  if s.getFld p (wndOff c 0x14) 0 8 ≤ rep then wndEnd d c s else s.setFld p (wndOff c 0x18) 16 8 (rep + 1)

/-- Up to `n` elements of the current repeat (R310). -/
def copyElements (d c : Nat) : Nat → State → State
  | 0, s => s
  | n + 1, s =>
    let count := s.getFld (pgWnd d) (wndOff c 0xC) 0 16
    if count ≤ (s.winder (wndKey d c)).done then copyRepeatEnd d c s
    else
      let r := copyElement d c s
      match r.1 with
      | some _ => wndEnd d c (wndError d c r.2)
      | none =>
        if count ≤ (r.2.winder (wndKey d c)).done then copyRepeatEnd d c r.2 else copyElements d c n r.2

/-! ### Commands -/

/-- A running channel performs up to `n` elements of its entry, or of its repeat (R307, R310). -/
def winderEntry (d c n : Nat) (s : State) : State :=
  if !wndRuns d c s then s
  else if 4 ≤ c then copyElements d c (n + 1) s
  else
    let s := if (s.winder (wndKey d c)).job.isNone then wndOpen d c s else s
    if wndRuns d c s then wndElements d c (n + 1) s else s

/-- A run is stopped at an element boundary, by STOP or late: the entry or repeat that ENTRY names does not end DONE. A privileged channel writes
its entry STOPPED, and a refusal of that write ends the run (R309, R310, R312, R50, R52). -/
def winderStop (d c : Nat) (late : Bool) (s : State) : State :=
  if !wndRuns d c s then s
  else
    let s := s.setFld (pgWnd d) (wndOff c 0x18) 28 1 (b2n late)
    if c < 4 then
      let n := (s.winder (wndKey d c)).done
      let r := wndWrite d c (wndEntryAddr d c s + 12) (cleanBytes (bytesOf 4 (0x30000000 + n))) s
      let t := wndError d c r.2
      if r.1.isSome then wndEnd d c t else wndSetState d c 3 t
    else wndSetState d c 3 (wndError d c s)

/-- A write of 1 to START (R307, R310): ignored while the channel runs or with TRIG OFF, held from 665.0 µs on. -/
def winderStart (d c : Nat) (s : State) : State :=
  if wndRuns d c s ∨ wndTrig d c s = 0 then s
  else if wndHolds s then s.setWinder (wndKey d c) { s.winder (wndKey d c) with heldStart := true }
  else wndStart d c s

/-- A write of 1 to RESUME (R309): a stopped run of a privileged channel continues, from the boundary if performed after 665.0 µs. -/
def winderResume (d c : Nat) (s : State) : State :=
  if 4 ≤ c ∨ s.getFld (pgWnd d) (wndOff c 0x18) 29 3 ≠ 3 then s
  else if wndHolds s then s.setWinder (wndKey d c) { s.winder (wndKey d c) with heldResume := true }
  else wndResume d c s

/-- Every channel, by District and number. -/
def wndAll : List (Nat × Nat) := (List.range 64).map fun i => (i / 16, i % 16)

/-- The boundary at the Winders: INTAKE runs and held starts and resumes (R46, R307, R309). -/
def winderBoundary (s : State) : State :=
  wndAll.foldl (fun s x =>
    let w := s.winder (wndKey x.1 x.2)
    let s := s.setWinder (wndKey x.1 x.2) { w with heldStart := false, heldResume := false }
    if x.2 < 4 ∧ wndTrig x.1 x.2 s = 2 then (if wndRuns x.1 x.2 s then s else wndStart x.1 x.2 s)
    else if w.heldStart then wndStart x.1 x.2 s
    else if w.heldResume then wndResume x.1 x.2 s
    else s) s

/-- The start of DRAIN: channels with TRIG DRAIN start (R307). -/
def winderDrain (s : State) : State :=
  wndAll.foldl (fun s x => if wndTrig x.1 x.2 s = 3 ∧ !wndRuns x.1 x.2 s then wndStart x.1 x.2 s else s) s

/-- A District's INTAKE transfer is still in progress (R52). -/
def intakeBusy (d : Nat) (s : State) : Bool := (List.range 4).any fun c => decide (wndTrig d c s = 2) && wndRuns d c s

/-- The INTAKE transfers of a District in progress at 40.0 µs are stopped (R52). -/
def intakeStop (d : Nat) (s : State) : State :=
  (List.range 4).foldl (fun s c => if wndTrig d c s = 2 then winderStop d c true s else s) s

/-- Some transfer is in progress at 665.0 µs (R50). -/
def drainBusy (s : State) : Bool := wndAll.any fun x => wndRuns x.1 x.2 s

/-- Transfers in progress at 665.0 µs are stopped (R50). -/
def drainStop (s : State) : State := wndAll.foldl (fun s x => winderStop x.1 x.2 true s) s

/-- Some channel of a District lacks a credit (R311). -/
def creditLost (d : Nat) (s : State) : Bool :=
  wndOn d s && (decide (s.reg (pgWnd d) 0x040 ≠ 0x44444444#32) || decide (s.reg (pgWnd d) 0x044 ≠ 0x44444444#32))

/-- The credit check at 665.0 µs (R311, R404). -/
def creditCheck (s : State) : State :=
  (List.range 4).foldl (fun s d => if creditLost d s then enterSafe .creditLost (48 + d) (s.setEvt (pgWnd d) 3) else s) s

end Sys2Proof.Machine
end

