-- ==== Sys2Proof/Machine/Banks.lean ====
section
/-!
DEFINITION. Sys2Proof/Machine/Banks.lean: bank invalidation (R300), the ECC page's commands (R324, R327, R329) and the scrubber
(R326, R330).
-/

namespace Sys2Proof.Machine

/-! ### Invalidation -/

/-- Words of a bank cleared, apart from retired panels (R300, R324); a bank that is not ON is left as it is (log 42). -/
def clearRange (b lo hi : Nat) (s : State) : State :=
  if bankPower b s = .on then s.setMem (s.mem.clearWords lo hi (fun q => panelRetired (4096 * q) s)) else s

/-- A write of 1 to BNK_INV_CTRL.GO with WORDS (R300, R304): part of the range is cleared at once, the rest when it completes. An invalidation of the
inactive Roster buffer is no write of R57 and cancels no switch: DESIGN CHOICE (log 77). -/
def invalidateGo (b words : Nat) (s : State) : State :=
  let p := pgBnk b
  let off := s.getFld p 0x044 3 21
  if bit (s.reg p 0x048) 31 then refuseWrite p 0x048 0x42 s
  else if words = 0 ∨ bankSize b < 8 * (off + words) then refuseWrite p 0x048 0x06 s
  else
    let s := s.setReg p 0x048 (w32 (0x80000000 + words))
    let r := drawFree s
    let lo := bankBase b / 8 + off
    let hi := lo + words
    let mid := min hi (lo + Config.clearedAtGo r.1)
    let s := clearRange b lo mid r.2
    s.setBank b { s.bank b with inv := some (lo, mid, hi) }

/-- The panel in which the second part of an invalidation begins has the parity of what is stored, if the invalidation covers it
entirely: 0 where nothing has been written to it since (R317). -/
def clearJoint (b lo mid hi : Nat) (s : State) : State :=
  let q := mid / 512
  if mid % 512 ≠ 0 ∧ lo ≤ 512 * q ∧ 512 * q + 512 ≤ hi ∧ !panelRetired (4096 * q) s ∧ bankPower b s = .on then
    s.setMem (s.mem.rebuildParity q)
  else s

/-- The invalidation completes (R300). -/
def invalidateDone (b : Nat) (s : State) : State :=
  match (s.bank b).inv with
  | none => s
  | some (lo, mid, hi) =>
    let s := clearJoint b lo mid hi (clearRange b mid hi s)
    let s := s.setBank b { s.bank b with inv := none }
    (s.setFld (pgBnk b) 0x048 31 1 0).setEvt (pgBnk b) 3

/-! ### The ECC page -/

/-- The banks of a group. -/
def groupBanks (g : Nat) : List Nat :=
  if g < 4 then (List.range 8).map (8 * g + ·) else if g < 8 then (List.range 4).map (32 + 4 * (g - 4) + ·)
  else if g = 8 then (List.range 4).map (48 + ·) else (List.range 24).map (52 + ·)

/-- Every ledger entry cleared (R329 ECC_CLR.ALL). -/
def ledgerClear (p : Nat) (s : State) : State :=
  let s := (List.range 64).foldl (fun s i => (s.setReg p (0x200 + 8 * i) 0).setReg p (0x204 + 8 * i) 0) s
  s.setFld p 0x048 0 7 0

/-- One ledger entry cleared (R329 ECC_CLR.ONE). -/
def ledgerClearOne (p i : Nat) (s : State) : State :=
  let s := (s.setReg p (0x200 + 8 * i) 0).setReg p (0x204 + 8 * i) 0
  s.setFld p 0x048 0 7 (ledgerUsed p s)

/-- ECC_CNT and DROPPED cleared (R329 ECC_CLR.COUNTS). -/
def eccCountsClear (p : Nat) (s : State) : State := (s.setReg p 0x040 0).setFld p 0x048 16 16 0

/-- A write of ECC_CLR (R329). -/
def eccClrWrite (g : Nat) (data : W32) (s : State) : State :=
  let p := pgEcc g
  let s := if bit data 31 then ledgerClear p s else s
  let s := if bit data 30 then eccCountsClear p s else s
  if bit data 8 then ledgerClearOne p (fld data 0 6) s else s

/-- A write of ECC_RETIREw (R324, R329). -/
def eccRetireWrite (m : Byte) (g w : Nat) (data : W32) (s : State) : State :=
  let p := pgEcc g
  let off := 0x400 + 4 * w
  if m ≠ 0x23 ∧ m ≠ 0xFF then refuseWrite p off 0x40 s
  else
    let room := min 32 (groupPanels g - 32 * w)
    s.setReg p off (s.reg p off ||| w32 (data.toNat % 2 ^ room))

/-- The banks of a group that are not ON, which a self-test skips (R327). -/
def skippedBanks (g : Nat) (s : State) : Nat := ((groupBanks g).filter fun b => decide (bankPower b s ≠ .on)).length

/-- A write of 1 to ECC_ST_CTRL.GO (R327, R329). -/
def selftestGo (g : Nat) (s : State) : State :=
  let p := pgEcc g
  if bit (s.reg p 0x04C) 0 then refuseWrite p 0x04C 0x42 s
  else
    (s.setFld p 0x04C 0 1 1).setReg p 0x050 (w32 (0x20000000 + skippedBanks g s))

/-- The word k that step 1 of R327 writes. -/
def testWord (k : Nat) : W64 := 0xA5A5A5A5A5A5A5A5#64 ^^^ (BitVec.ofNat 64 k * 0x0001000100010001#64)

/-- The test panel after step 1 of R327: its 512 words with their check bits, and its parity. -/
def testPanel : Mem := ((List.range 512).foldl (fun (m : Mem) k => m.putWord k (testWord k) false) ⟨[], [], [], [], []⟩).rebuildParity 0

/-- The memory with stored bits `j` to `j + n − 1` of word `w` flipped: bits 0–63 are data, 64–71 the check byte. -/
def Mem.flip (m : Mem) (w j n : Nat) : Mem :=
  let v : BitVec 72 := BitVec.ofNat 72 (2 ^ j * (2 ^ n - 1))
  let i := m.info w
  { m with data := putBytes m.data (8 * w) (bytesOf 8 (m.raw w ^^^ v.truncate 64).toNat)
           words := sparseSet noWord m.words w { i with check := i.check ^^^ (v >>> 64).truncate 8 } }

/-- The test panel after the decoder's work on it. -/
def Mem.repaired (m : Mem) : Mem :=
  (List.range 4).foldl (fun m c => (m.writeBackGroup 0 c (m.decodeGroup 0 c)).1) m

/-- A step of R327 on a test panel: whether its outcome is the required one, and the panel it leaves. -/
def selftestStep (m : Mem) (step : Nat) : Bool × Mem :=
  let is (m : Mem) (k : Nat) (poison : Bool) : Bool := decide ((m.decoded k).2 = (testWord k, poison))
  match step with
  | 1 =>
    let m := testPanel
    ((List.range 4).all fun c => (List.range 132).all fun t => decide ((m.panelWord 0 c t).cls = .clean), m)
  | 2 => ((List.range 72).all fun j =>
      let f := m.flip 0 j 1
      decide ((f.decoded 0).1 = if j < 64 then .singleData j else .singleCheck) && is f 0 false, m)
  | 3 => ((List.range 72).all fun j =>
      let f := (m.flip 1 j 1).flip 1 ((j + 1) % 72) 1
      f.isMulti 1 && decide ((f.repaired.decoded 1).2.1 = testWord 1), m)
  | 4 =>
    let m := m.putWord 2 (testWord 2) true
    (decide ((m.decoded 2) = (.marked, testWord 2, true)), m)
  | 5 =>
    let m := ((m.putWord 3 (testWord 3) true).flip 3 0 1).repaired
    (is m 3 true, m)
  | 6 =>
    let m := (((List.range 7).foldl (fun (f : Mem) i => f.flip (101 + i) 0 64) (m.flip 100 19 45)).flip 108 0 19).repaired
    ((List.range 9).all fun i => is m (100 + i) false, m)
  | 7 =>
    let m := ((List.range 17).foldl (fun (f : Mem) i => f.flip (200 + i) 0 2) m).repaired
    ((List.range 17).all fun i => if i % 4 = 0 then (m.decoded (200 + i)).2.2 else is m (200 + i) false, m)
  | _ =>
    let m : Mem := { m with words := sparseSet noWord m.words 4 { m.info 4 with validB := false } }
    (is m 4 false, m)

/-- The steps of R327 on the test panel of a bank with sound checkers: the first step that fails, if any, and the panel they leave. -/
def selftestRun : Option Nat × Mem :=
  [1, 2, 3, 4, 5, 6, 7, 8].foldl (fun r k =>
    let x := selftestStep r.2 k
    (if r.1.isNone && !x.1 then some k else r.1, x.2)) (none, testPanel)

/-- The banks of a group that are ON, each with its index in the group. -/
def testedBanks (g : Nat) (s : State) : List (Nat × Nat) := (groupBanks g).zipIdx.filter fun b => decide (bankPower b.1 s = .on)

/-- The outcome of the self-test of a group: the index of the first bank that fails, with its first failing step; `broken` is a bank whose
checkers are faulty, with the step at which that shows (R327). -/
def selftestOutcome (g : Nat) (broken : Option (Nat × Nat)) (s : State) : Option (Nat × Nat) :=
  (testedBanks g s).findSome? fun b =>
    (match broken with | some (n, k) => if n = b.1 then some k else selftestRun.1 | none => selftestRun.1).map fun k => (b.2, k)

/-- The test panels of a group after the steps. -/
def runTestPanels (g : Nat) (s : State) : State :=
  { s with panels := (testedBanks g s).foldl (fun ps b => sparseSet none ps b.1 (some selftestRun.2)) s.panels }

/-- ECC_ST_STAT and the events of a self-test with its outcome, the first failing bank of the group and its step (R327, R329). -/
def selftestShow (g : Nat) (outcome : Option (Nat × Nat)) (s : State) : State :=
  let p := pgEcc g
  let s := s.setEvt p 5
  match outcome with
  | none => s.setFld p 0x050 29 3 2
  | some (b, step) => (((s.setFld p 0x050 29 3 3).setFld p 0x050 24 5 b).setFld p 0x050 20 4 step).setEvt p 6

/-- The boot ROM's self-test of every group (R327, R451): `broken` is a bank whose checkers fail, with the step at which that shows. -/
def selftestBoot (broken : Option (Nat × Nat)) (s : State) : State :=
  (List.range 10).foldl (fun s g =>
    selftestShow g (selftestOutcome g broken s) ((runTestPanels g s).setReg (pgEcc g) 0x050 (w32 (skippedBanks g s)))) s

/-- The first bank that fails the boot ROM's self-test. -/
def selftestFirst (broken : Option (Nat × Nat)) (s : State) : Option Nat :=
  (List.range 10).findSome? fun g => (selftestOutcome g broken s).map fun x => (groupBanks g).getD x.1 0

/-- The self-test completes: with `broken` a bank whose checkers are faulty, and the step at which that shows (R327, R329). -/
def selftestDone (g : Nat) (broken : Option (Nat × Nat)) (s : State) : State :=
  let p := pgEcc g
  if !bit (s.reg p 0x04C) 0 then s
  else
    let outcome := selftestOutcome g broken s
    let s := selftestShow g outcome (runTestPanels g (s.setFld p 0x04C 0 1 0))
    if outcome.isSome ∧ s.life.phase = .running then enterSafe .eccSelftest (104 + g) s else s

/-! ### The scrubber -/

/-- The scrub of a group, if one runs. -/
def scrubOf (g : Nat) (s : State) : Option Scrub := sparseGet none s.scrub g

/-- The state with the scrub of a group set. -/
def setScrub (g : Nat) (v : Option Scrub) (s : State) : State := { s with scrub := sparseSet none s.scrub g v }

/-- A word was SINGLE or MULTI: SCB_FIRST and SCB_LAST hold the lowest and the highest such address (R330). -/
def scrubFound (g w : Nat) (s : State) : State :=
  let p := pgScb g
  match scrubOf g s with
  | none => s
  | some c =>
    let a := 8 * w
    let first := if c.found then min a (s.reg p 0x060).toNat else a
    let last := if c.found then max a (s.reg p 0x064).toNat else a
    setScrub g (some { c with found := true }) ((s.setReg p 0x060 (w32 first)).setReg p 0x064 (w32 last))

/-- A summary count of the scrubber (R330). -/
def scrubCount (g off n : Nat) (s : State) : State := s.setReg (pgScb g) off (w32 (((s.reg (pgScb g) off).toNat + n) % 0x200000))

/-- What a panel decode of the scrubber adds to its summary: the SINGLE words corrected, the failing words, the words it poisoned or the
panel repaired (R330). -/
def scrubRepaired (g : Nat) (r : PanelWork × State) : State :=
  let s := r.1.found.foldl (fun s w => scrubFound g w s) (scrubCount g 0x054 r.1.corrected r.2)
  if r.1.failed then scrubCount g 0x05C r.1.poisoned s else scrubCount g 0x058 1 s

/-- One word scrubbed (R326, R314, R318). -/
def scrubWord (g w : Nat) (s : State) : State :=
  let s := touchValid w (scrubCount g 0x050 1 s)
  if s.mem.isMulti w then
    let s := repairQueued w s
    if s.mem.isMulti w then scrubRepaired g (repairPanel .scrub w s) else s
  else match (s.mem.decoded w).1 with
    | .singleData _ => scrubCount g 0x054 1 (readWord .scrub w (scrubFound g w s)).2.2
    | .singleCheck => scrubCount g 0x054 1 (readWord .scrub w (scrubFound g w s)).2.2
    | _ => s

/-- The decoder would fail on a panel that has no erasure: no word of it, data or parity, is MULTI (R318, R326). -/
def failsUnerased (panel : Nat) (m : Mem) : Bool :=
  let gs := (List.range 4).map (m.decodeGroup panel)
  gs.any GroupDecode.failed && !gs.any fun g => g.words.any fun w => decide (w.cls = .multi)

/-- The parity check of a panel that lies wholly in the range (R326). A decode that fails with no erasure changes no data word: the parity
is rewritten from the data (log 66). -/
def scrubParity (g panel : Nat) (s : State) : State :=
  if s.mem.parityMatches panel then s
  else if failsUnerased panel s.mem then
    scrubCount g 0x058 1 (eccEvent .parity .scrub (4096 * panel) (s.setMem (s.mem.rebuildParity panel)))
  else scrubRepaired g (repairPanel .scrub (512 * panel) s)

/-- A panel is skipped (R326). -/
def scrubSkips (panel : Nat) (s : State) : Bool :=
  panelRetired (4096 * panel) s || (match bankOf (4096 * panel) with
    | some b => decide (bankPower b s ≠ .on)
    | none => true)

/-- `n` words of a scrub from word `w` on (R326). -/
def scrubRun (g : Nat) (c : Scrub) : Nat → Nat → State → State
  | 0, _, s => s
  | n + 1, w, s =>
    let panel := w / 512
    let s := if scrubSkips panel s then
        (if w = c.lo ∨ w % 512 = 0 then s.setFld (pgScb g) 0x04C 0 16 (s.getFld (pgScb g) 0x04C 0 16 + 1) else s)
      else
        let s := scrubWord g w s
        if c.parity ∧ w % 512 = 511 ∧ c.lo ≤ 512 * panel then scrubParity g panel s else s
    scrubRun g c n (w + 1) s

/-- A write of 1 to SCB_CTRL.GO (R326, R330). -/
def scrubGo (g : Nat) (s : State) : State :=
  let p := pgScb g
  let lo := (s.reg p 0x040).toNat / 8
  let n := s.getFld p 0x044 0 21
  if bit (s.reg p 0x048) 0 then s
  else if n = 0 ∨ lo < groupBase g / 8 ∨ groupBase g / 8 + 512 * groupPanels g < lo + n then refuseWrite p 0x048 0x06 s
  else
    let s := [0x04C, 0x050, 0x054, 0x058, 0x05C, 0x060, 0x064].foldl (fun s off => s.setReg p off 0) s
    let s := (s.setFld p 0x048 0 1 1).setFld p 0x04C 29 3 1
    setScrub g (some ⟨lo, lo + n, bit (s.reg p 0x048) 8, false⟩) s

/-- STOP ends the scrub after its current word (R326). -/
def scrubStop (g : Nat) (s : State) : State :=
  match scrubOf g s with
  | none => s
  | some c =>
    let r := drawFree s
    let s := scrubRun g c (min (c.hi - c.lo) (Config.scrubbedAtStop r.1)) c.lo r.2
    setScrub g none ((s.setFld (pgScb g) 0x048 0 1 0).setFld (pgScb g) 0x04C 29 3 3)

/-- The scrub completes (R326). -/
def scrubDone (g : Nat) (s : State) : State :=
  match scrubOf g s with
  | none => s
  | some c =>
    let s := scrubRun g c (c.hi - c.lo) c.lo s
    setScrub g none (((s.setFld (pgScb g) 0x048 0 1 0).setFld (pgScb g) 0x04C 29 3 2).setEvt (pgScb g) 1)

/-! ### Copies of an Overman bank -/

/-- The words of Overman bank `src` copied to bank `dst` with corrected data and poison marks (R276, R450 step 6). A retired panel reads as
poison, and what is written to one is discarded (R324). -/
def copyOvermanBank (src dst : Nat) (s : State) : State :=
  let lo := bankBase src / 8
  let to_ := bankBase dst / 8
  let bad := (List.range 512).filter fun q => panelRetired (bankBase src + 4096 * q) s
  let s := s.setMem (s.mem.clearWords to_ (to_ + 0x40000) (fun q => panelRetired (4096 * q) s))
  let put (w : Nat) (v : W64) (poison : Bool) (s : State) : State :=
    if panelRetired (8 * (w - lo + to_)) s then s else s.putWord (w - lo + to_) v poison
  let listed := (s.mem.words.map (·.1)).filter fun w => decide (lo ≤ w) && decide (w < lo + 0x40000) && !panelRetired (8 * w) s && s.mem.valid w
  let s := listed.foldl (fun s w => let r := readWord .access w s; put w r.1 r.2.1 r.2.2) s
  (bad.flatMap fun q => (List.range 512).map (lo + 512 * q + ·)).foldl (fun s w => put w 0 true s) s

end Sys2Proof.Machine
end

