-- ==== Sys2Proof/Machine/Crypto.lean ====
section
/-!
DEFINITION. Sys2Proof/Machine/Crypto.lean: the SHA-256, HMAC-SHA-256 and ECDSA P-256 that R424 and R453 name, as FIPS 180-4,
RFC 2104 and FIPS 186-4 define them (log 45).
-/

namespace Sys2Proof.Machine

/-! ### SHA-256 -/

/-- The first 32 bits of the fraction of the root of order `e` of a number. -/
def rootFraction (e p : Nat) : W32 := w32 (rootFrom e (p * 2 ^ (32 * e)) 36 0)

/-- The primes below 312, of which there are 64. -/
def smallPrimes : List Nat := ((List.range 312).drop 2).filter fun p => ((List.range p).drop 2).all fun d => decide (p % d ≠ 0)

/-- The round constants of SHA-256: cube roots. -/
def shaK : List W32 := smallPrimes.map (rootFraction 3)

/-- The initial hash value of SHA-256: square roots. -/
def shaInit : List W32 := (smallPrimes.take 8).map (rootFraction 2)

/-- A number whose bytes are listed most significant first. -/
def bigEndian (bs : List Byte) : Nat := bs.foldl (fun n b => n * 256 + b.toNat) 0

/-- The low `n` bytes of a number, most significant first. -/
def bytesBig (n x : Nat) : List Byte := (bytesOf n x).reverse

/-- The message schedule, newest word first, with `n` words to add. -/
def shaSchedule : Nat → List W32 → List W32
  | 0, w => w
  | n + 1, w =>
    let a := w.getD 1 0
    let b := w.getD 14 0
    let s1 := a.rotateRight 17 ^^^ a.rotateRight 19 ^^^ (a >>> 10)
    let s0 := b.rotateRight 7 ^^^ b.rotateRight 18 ^^^ (b >>> 3)
    shaSchedule n ((s1 + w.getD 6 0 + s0 + w.getD 15 0) :: w)

/-- One round. -/
def shaRound (v : List W32) (kw : W32 × W32) : List W32 :=
  match v with
  | [a, b, c, d, e, f, g, h] =>
    let s1 := e.rotateRight 6 ^^^ e.rotateRight 11 ^^^ e.rotateRight 25
    let ch := (e &&& f) ^^^ (~~~e &&& g)
    let t1 := h + s1 + ch + kw.1 + kw.2
    let s0 := a.rotateRight 2 ^^^ a.rotateRight 13 ^^^ a.rotateRight 22
    let maj := (a &&& b) ^^^ (a &&& c) ^^^ (b &&& c)
    [t1 + s0 + maj, a, b, c, d + t1, e, f, g]
  | _ => v

/-- One 64-byte block. -/
def shaBlock (h : List W32) (block : List Byte) : List W32 :=
  let words := (List.range 16).map fun i => w32 (bigEndian ((block.drop (4 * i)).take 4))
  let sched := (shaSchedule 48 words.reverse).reverse
  List.zipWith (· + ·) h ((shaK.zip sched).foldl shaRound h)

/-- `n` blocks. -/
def shaBlocks : Nat → List W32 → List Byte → List W32
  | 0, h, _ => h
  | n + 1, h, bs => shaBlocks n (shaBlock h (bs.take 64)) (bs.drop 64)

/-- The SHA-256 digest of a message, 32 bytes. -/
def sha256 (m : List Byte) : List Byte :=
  let pad := (119 - m.length % 64) % 64
  let bs := m ++ [0x80] ++ List.replicate pad 0 ++ bytesBig 8 (8 * m.length)
  (shaBlocks (bs.length / 64) shaInit bs).flatMap fun w => bytesBig 4 w.toNat

/-- HMAC-SHA-256 under a key of 32 bytes. -/
def hmacSha256 (key m : List Byte) : List Byte :=
  let k := key ++ List.replicate 32 0
  sha256 (k.map (· ^^^ 0x5c) ++ sha256 (k.map (· ^^^ 0x36) ++ m))

/-! ### ECDSA P-256 -/

/-- The field prime, the order and the coefficient b of P-256. -/
def ecP : Nat := 0xFFFFFFFF00000001000000000000000000000000FFFFFFFFFFFFFFFFFFFFFFFF
def ecN : Nat := 0xFFFFFFFF00000000FFFFFFFFFFFFFFFFBCE6FAADA7179E84F3B9CAC2FC632551
def ecB : Nat := 0x5AC635D8AA3A93E7B3EBBD55769886BC651D06B0CC53B0F63BCE3C3E27D2604B

/-- A point of the curve; none is the point at infinity. -/
abbrev EcPoint := Option (Nat × Nat)

/-- The base point of P-256. -/
def ecG : EcPoint :=
  some (0x6B17D1F2E12C4247F8BCE6E563A440F277037D812DEB33A0F4A13945D898C296,
        0x4FE342E2FE1A7F9B8EE7EB4A7C0F9E162BCE33576B315ECECBB6406837BF51F5)

/-- `b` to the power of a number of at most `n` bits, modulo `m`. -/
def powMod (m : Nat) : Nat → Nat → Nat → Nat
  | 0, _, _ => 1 % m
  | n + 1, b, e =>
    let r := powMod m n (b * b % m) (e / 2)
    if e % 2 = 1 then r * b % m else r

/-- The inverse modulo a prime. -/
def invMod (m x : Nat) : Nat := powMod m 256 (x % m) (m - 2)

/-- The sum of two points. -/
def ecAdd (p q : EcPoint) : EcPoint :=
  match p, q with
  | none, q => q
  | p, none => p
  | some (x1, y1), some (x2, y2) =>
    if x1 = x2 ∧ (y1 + y2) % ecP = 0 then none
    else
      let l := if x1 = x2 then (3 * x1 * x1 + (ecP - 3)) * invMod ecP (2 * y1) % ecP
               else (y2 + ecP - y1) * invMod ecP (x2 + ecP - x1) % ecP
      let x3 := (l * l + 2 * ecP - x1 - x2) % ecP
      some (x3, (l * (x1 + ecP - x3) + ecP - y1) % ecP)

/-- A multiple of a point by a number of at most `n` bits. -/
def ecMul : Nat → Nat → EcPoint → EcPoint
  | 0, _, _ => none
  | n + 1, k, p =>
    let r := ecMul n (k / 2) (ecAdd p p)
    if k % 2 = 1 then ecAdd r p else r

/-- A pair of coordinates is a point of the curve. -/
def ecOnCurve (x y : Nat) : Bool :=
  decide (x < ecP) && decide (y < ecP) && decide (y * y % ecP = (x * x * x + (ecP - 3) * x + ecB) % ecP)

/-- A signature (r, s) over a digest verifies under a public key (ECDSA). -/
def ecdsaVerifies (digest : List Byte) (x y r s : Nat) : Bool :=
  if !ecOnCurve x y || r = 0 || s = 0 || decide (ecN ≤ r) || decide (ecN ≤ s) then false
  else
    let w := invMod ecN s
    let u := bigEndian digest * w % ecN
    let v := r * w % ecN
    match ecAdd (ecMul 256 u ecG) (ecMul 256 v (some (x, y))) with
    | none => false
    | some (a, _) => decide (a % ecN = r)

end Sys2Proof.Machine
end

