-- ==== Sys2Proof/Machine/Tallies.lean ====
section
/-!
DEFINITION. Sys2Proof/Machine/Tallies.lean: stream entries, the Tally pools, reservation and the Lamp check (R365–R372), and the gPTP
engine (R348, R349).
-/

namespace Sys2Proof.Machine

/-! ### Stream entries -/

/-- The page and offset of a word of receive stream `i` (R373). -/
def rxsPage (i : Nat) : Nat := pgAdt (8 + i / 32)
def rxsOff (i k : Nat) : Nat := 0x100 + 0x30 * (i % 32) + k

/-- The page and offset of a word of transmit stream `i` (R373). -/
def txsPage (i : Nat) : Nat := pgAdt (16 + i / 32)
def txsOff (i k : Nat) : Nat := 0x100 + 0x30 * (i % 32) + k

/-- A word of a stream entry in effect (R373: every configuration change takes effect at the next boundary). -/
def rxEff (i k : Nat) (s : State) : W32 := s.effReg (rxsPage i) (rxsOff i k)
def txEff (i k : Nat) (s : State) : W32 := s.effReg (txsPage i) (txsOff i k)

/-- A stream of a holder key is enabled, by its control word in effect. -/
def holderCtl (h : Nat) (s : State) : W32 := if h < 256 then rxEff h 0 s else txEff (h - 256) 0 s

/-- FLOOR and CEIL of a holder in effect (R366). -/
def holderLimits (h : Nat) (s : State) : W32 := if h < 256 then rxEff h 0x10 s else txEff (h - 256) 0x1C s

/-- A holder of pool `q`: an enabled stream that names it (R366). -/
def isHolder (q h : Nat) (s : State) : Bool := bit (holderCtl h s) 31 && decide (fld (holderCtl h s) 28 2 = q)

/-- The holders of a pool: receive streams, then transmit streams, in ascending index (R371). -/
def holders (q : Nat) (s : State) : List Nat := (List.range 384).filter fun h => isHolder q h s

/-- floor(h) (R366). -/
def holderFloor (h : Nat) (s : State) : Nat := fld (holderLimits h s) 16 16

/-- The rate of the present shift (R350). -/
def sampleRate (s : State) : Nat := if rate96 s then 96000 else 48000

/-- AON_MCLK_OFFSET in effect. -/
def mclkOffset (s : State) : Int := s.effFld pgAon 0x104 0 21

/-- The sample index of a gPTP time (R350). -/
def sampleIndex (t : Int) (s : State) : Int := (t - mclkOffset s) * sampleRate s / 1000000000

/-- Stream frames are received and transmitted (R351), outside SAFE (R405). -/
def streamsRun (s : State) : Bool :=
  let st := s.getFld pgAon 0x108 0 3
  decide (s.effFld pgAon 0x100 0 2 = 1) && (decide (st = 2) || decide (st = 3))

/-! ### Pools -/

/-- A pool right after a reset. -/
def idlePool : Pool := ⟨false, 0, 0, 0, [], []⟩

/-- A pool of the state. -/
def State.pool (s : State) (q : Nat) : Pool := sparseGet idlePool s.adit.pools q

/-- The state with a pool replaced. -/
def State.setPool (s : State) (q : Nat) (v : Pool) : State :=
  { s with adit := { s.adit with pools := sparseSet idlePool s.adit.pools q v } }

/-- held(h) (R366). -/
def heldBy (h : Nat) (s : State) : Nat := sparseGet 0 s.adit.held h

/-- The state with held(h) set. -/
def setHeld (h n : Nat) (s : State) : State := { s with adit := { s.adit with held := sparseSet 0 s.adit.held h n } }

/-- The sum of the floors of a pool's holders other than `h`, and the part of them not held (R367). -/
def otherFloors (q h : Nat) (s : State) : Nat × Nat :=
  ((holders q s).filter fun g => decide (g ≠ h)).foldl (fun acc g =>
    (acc.1 + holderFloor g s, acc.2 + (holderFloor g s - heldBy g s))) (0, 0)

/-- ceil(h) in its pool (R366). -/
def holderCeil (q h : Nat) (s : State) : Nat := min (fld (holderLimits h s) 0 16) (s.pool q).size

/-- The grant condition of R367 apart from the queue. -/
def grantFits (q h n : Nat) (s : State) : Bool :=
  decide (heldBy h s + n ≤ holderCeil q h s) && decide (n + (otherFloors q h s).2 ≤ (s.pool q).free)

/-- A request can never be granted (R367). -/
def requestImpossible (q h n : Nat) (s : State) : Bool :=
  decide (holderCeil q h s < n) || decide ((s.pool q).size < n + (otherFloors q h s).1)

/-- The lowest `n` FREE Tallies of a pool (R367). -/
def lowestFree (p : Pool) (n : Nat) : List Nat :=
  ((List.range p.size).filter fun t => decide (sparseGet none p.tags t = none)).take n

/-- `n` Tallies granted to a holder: their numbers, and the state (R367). -/
def grant (q h n : Nat) (s : State) : List Nat × State :=
  let p := s.pool q
  let ts := lowestFree p n
  let p := { p with free := p.free - n, tags := ts.foldl (fun m t => sparseSet none m t (some h)) p.tags }
  (ts, setHeld h (heldBy h s + n) (s.setPool q p))

/-- Tallies of a holder released (R369). -/
def release (q h : Nat) (ts : List Nat) (s : State) : State :=
  let p := s.pool q
  let p := { p with free := p.free + ts.length, tags := ts.foldl (fun m t => sparseSet none m t none) p.tags }
  setHeld h (heldBy h s - ts.length) (s.setPool q p)

/-- A failed request on its pool's page: POOL_SHORT, and WAITED or IMMEDIATE (R368, R374). -/
def poolShort (q : Nat) (waited : Bool) (s : State) : State :=
  (s.incSat (pgTly q) 0x048 (if waited then 16 else 0) 16).setEvt (pgTly q) 1

/-- SHORT of a holder's stream, with its event (R354, R360, R373). -/
def streamShort (h : Nat) (s : State) : State :=
  if h < 256 then (s.incSat (rxsPage h) (rxsOff h 0x1C) 8 8).setEvt (rxsPage h) 2
  else (s.incSat (txsPage (h - 256)) (txsOff (h - 256) 0x24) 24 8).setEvt (txsPage (h - 256)) 1

/-- What became of a request (R367, R368). -/
inductive Answer where
  | granted (tallies : List Nat)
  | queued
  | failed
  deriving DecidableEq, Repr

/-- A request of `n` Tallies by holder `h` of pool `q` (R367, R368, R370); from 650.0 µs on, one that does not fit at once fails. -/
def request (q h n : Nat) (port : Option Nat) (s : State) : Answer × State :=
  let late := decide (s.ons.seg = .drain ∨ s.ons.seg = .cutoff ∨ s.ons.seg = .lamp)
  if !(s.pool q).active || requestImpossible q h n s then (.failed, streamShort h (poolShort q false s))
  else if (s.pool q).queue.isEmpty && grantFits q h n s then
    let r := grant q h n s
    (.granted r.1, r.2)
  else if late then (.failed, streamShort h (poolShort q false s))
  else (.queued, s.setPool q { s.pool q with queue := (s.pool q).queue ++ [⟨h, n, port⟩] })

/-- The floors of the enabled streams that name a pool (R365, R374 TLY_STAT). -/
def poolFloors (q : Nat) (s : State) : Nat := (holders q s).foldl (fun n h => n + holderFloor h s) 0

/-- TLY_STAT (R374). -/
def poolStat (q : Nat) (s : State) : W32 :=
  if (s.pool q).active then w32 (poolFloors q s % 0x10000 * 0x10000 + (s.pool q).free) else w32 (poolFloors q s % 0x10000 * 0x10000)

/-- Two pools' ranges overlap (R365). -/
def poolsOverlap (a b : Pool) : Bool := decide (a.base < b.base + b.size) && decide (b.base < a.base + a.size)

/-- A pool as from a boundary, by its ENABLE in effect: unchanged, ended, or begun; none where POOL_OVERLAP refuses it for a pool that stays active
or, lower in index, has begun (R365). -/
def poolNext (q : Nat) (s : State) : Option Pool :=
  let p := s.pool q
  match p.active, s.active (pgTly q) with
  | true, false => some idlePool
  | false, true =>
    let size := s.getFld (pgTly q) 0x040 0 16
    let cand : Pool := ⟨true, s.getFld (pgTly q) 0x040 16 16, size, size, [], []⟩
    let stays (k : Nat) : Bool := (s.pool k).active && s.active (pgTly k)
    let clash := (List.range 4).any fun k => decide (k ≠ q) && stays k && poolsOverlap cand (s.pool k)
    if clash ∨ size < poolFloors q s then none else some cand
  | _, _ => some p

/-- The state with the pools as from a boundary (R301, R365). -/
def poolsNext (s : State) : State := (List.range 4).foldl (fun s q => s.setPool q ((poolNext q s).getD (s.pool q))) s

/-- An active pool has Tallies in a bank (R365). -/
def poolInBank (b : Nat) (p : Pool) : Bool :=
  let lo := 0x01000000 + 256 * p.base
  p.active && decide (lo < bankBase b + bankSize b) && decide (bankBase b < lo + 256 * p.size)

/-- A bank holds an enabled pool (R301, R365). -/
def bankHasPool (b : Nat) (s : State) : Bool := (List.range 4).any fun q => poolInBank b (s.pool q)

/-- The pools with Tallies in a bank end with its power (R12, R365). -/
def losePools (b : Nat) (s : State) : State :=
  (List.range 4).foldl (fun s q => if poolInBank b (s.pool q) then s.setPool q idlePool else s) s

/-! ### The Lamp check -/

/-- The first check of R371 that fails for a pool: its number, and the holder of checks 3 and 5. -/
def lampFailure (q : Nat) (busy : Bool) (s : State) : Option (Nat × Nat) :=
  let p := s.pool q
  let tags := (List.range p.size).map fun t => sparseGet none p.tags t
  let hs := holders q s
  let named (h : Nat) : Nat := (tags.filter fun t => decide (t = some h)).length
  if !p.queue.isEmpty || busy then some (1, 0)
  else if (tags.filter (·.isNone)).length ≠ p.free then some (2, 0)
  else match hs.find? (fun h => decide (named h ≠ heldBy h s)) with
    | some h => some (3, h)
    | none =>
      if p.free + hs.foldl (fun n h => n + heldBy h s) 0 ≠ p.size then some (4, 0)
      else match tags.findSome? (fun t => match t with
          | some h => if hs.contains h then none else some h
          | none => none) with
        | some h => some (5, h)
        | none => none

/-- The record of a pool's Lamp check (R371, R372, R374). -/
def lampCheckPool (q : Nat) (busy : Bool) (s : State) : State :=
  if !(s.pool q).active then s
  else match lampFailure q busy s with
    | none => s.incSat (pgTly q) 0x04C 0 16
    | some (n, h) =>
      let v := 0x80000000 + n * 0x10000000 + (if n = 3 ∨ n = 5 then (if h < 256 then h * 0x10000 else 0x1000000 + (h - 256) * 0x10000) else 0)
      let s := if bit (s.reg (pgTly q) 0x04C) 31 then s else s.setReg (pgTly q) 0x04C (w32 (v + s.getFld (pgTly q) 0x04C 0 16))
      enterSafe .lampFail (144 + q) (s.setEvt (pgTly q) 2)

/-! ### gPTP -/

/-- A port takes part in gPTP (R348), in effect. -/
def ptpPort (p : Nat) (s : State) : Bool := bit (s.effReg (pgAdt 5) 0x040) (8 + p)

/-- The device's own identity as BMCA compares it: priority1, quality, priority2, identity (R348, log 43). -/
def ownIdentity (s : State) : Nat :=
  s.effFld (pgAdt 5) 0x040 24 8 * 2 ^ 104 + Config.clockQuality % 2 ^ 32 * 2 ^ 72 + s.effFld (pgAdt 5) 0x040 16 8 * 2 ^ 64
    + Config.clockIdentity % 2 ^ 64

/-- The best identity heard on the enabled ports, with its port (R348). -/
def bestHeard (s : State) : Option (Nat × Nat) :=
  (List.range 4).foldl (fun best p =>
    match sparseGet none s.adit.ptp.heard p with
    | none => best
    | some v =>
      if !ptpPort p s then best
      else match best with
        | none => some (v, p)
        | some b => if v < b.1 then some (v, p) else best) none

/-- The slave port that BMCA selects (R348): the port of the best identity heard, unless the device is grandmaster. -/
def slavePort (gm : Bool) (s : State) : Option (Nat × Nat) := if gm then none else bestHeard s

/-- The roles and SYNC after any change (R348, R349): GM, SLAVE_PORT, OFFSET, SYNC, PTP_UNSYNC and GM_CHANGE. What was received on another
slave port counts no more. -/
def ptpUpdate (s : State) : State :=
  let p := pgAdt 5
  let any := (List.range 4).any fun k => ptpPort k s
  let own := ownIdentity s
  let gm := any && bit (s.effReg p 0x040) 4 && (match bestHeard s with | some b => decide (own ≤ b.1) | none => true)
  let slave := slavePort gm s
  let e := s.adit.ptp
  let moved := decide (slave.map (·.2) ≠ e.slave)
  let recent := e.syncRecent && !moved
  let capable := match slave with | some b => bit (s.reg p 0x044) (2 + b.2) | none => false
  let sync := gm || (capable && recent && decide (e.offset.natAbs ≤ 1000))
  let master := if gm then some (own % 2 ^ 64) else slave.map fun b => b.1 % 2 ^ 64
  let was := bit (s.reg p 0x044) 0
  let off := if gm then 0 else max (-32768) (min 32767 e.offset)
  let v := s.getFld p 0x044 2 4 * 4 + b2n sync + b2n gm * 2 + (match slave with | some b => b.2 | none => 0) * 0x40
    + (wrap 16 off).toNat * 0x10000
  let changed := decide (e.grandmaster ≠ master)
  let e := { e with grandmaster := master, slave := slave.map (·.2), syncRecent := recent }
  let s := { s.setReg p 0x044 (w32 v) with adit := { s.adit with ptp := e } }
  (s.setEvtIf (was && !sync) p 1).setEvtIf changed p 2

/-- The state with the gPTP engine replaced and its roles brought up to date. -/
def setPtp (e : PtpEngine) (s : State) : State := ptpUpdate { s with adit := { s.adit with ptp := e } }

/-- The domain of a port is ON (R22). -/
def aditPortOn (p : Nat) (s : State) : Bool := decide (s.domain (if p < 2 then 58 else 59) = .on)

/-- The link of a port is up (R373 ADT_PORT_STAT). -/
def linkUp (p : Nat) (s : State) : Bool := bit (s.reg (pgAdt p) 0x050) 31

/-- A port that has exchanged nothing. -/
def idlePtpPort : PtpPort := ⟨none, none, none, 0, none, [], []⟩

/-- The exchanges of a port. -/
def PtpEngine.port (e : PtpEngine) (p : Nat) : PtpPort := sparseGet idlePtpPort e.ports p

/-- The engine with a port's exchanges replaced. -/
def PtpEngine.setPort (e : PtpEngine) (p : Nat) (v : PtpPort) : PtpEngine := { e with ports := sparseSet idlePtpPort e.ports p v }

/-- AS_CAPABLE of a port written, and the roles brought up to date (R349). -/
def setCapable (p : Nat) (b : Bool) (s : State) : State := ptpUpdate (s.setFld (pgAdt 5) 0x044 (2 + p) 1 (b2n b))

/-- The engine exchanges messages on a port: it takes part, it and the engine's domain are ON, and its link is up (R22, R347, R348). -/
def ptpServes (p : Nat) (s : State) : Bool := ptpPort p s && aditPortOn p s && aditPortOn 0 s && linkUp p s

/-- A Sync's origin time is known: OFFSET is its receipt less its origin and the path's delay (R345, R349). -/
def ptpOffset (p : Nat) (received origin : Int) (e : PtpEngine) : PtpEngine :=
  { e with offset := received - origin - (e.port p).delay, syncRecent := true }

/-- A message is queued for transmission on a port. -/
def PtpEngine.push (e : PtpEngine) (p : Nat) (k : PtpKind) : PtpEngine := { e with queue := e.queue ++ [(p, k)] }

/-- A gPTP message of domain 0 that reaches the engine on an enabled port (R345, R348, R349): the other domains are not supported. A Sync counts on
the slave port only, a two-step one with its Follow_Up. A peer delay exchange is (t4 − t1 − (t3 − t2)) / 2 long, rounded down (log 29). -/
def ptpReceive (p : Nat) (m : PtpMsg) (s : State) : State :=
  let e := s.adit.ptp
  let slave := decide (e.slave = some p)
  let v := e.port p
  if !ptpServes p s || decide (m.domain ≠ 0) then s
  else match m.body with
    | .announce x => setPtp { e with heard := sparseSet none e.heard p (some x) } s
    | .sync q origin =>
      if !slave then s
      else match origin with
        | some o => setPtp (ptpOffset p m.time o e) s
        | none => setPtp (e.setPort p { v with sync := some (q, m.time) }) s
    | .followUp q origin =>
      (match v.sync with
        | some (q', t) => if slave && decide (q' = q) then setPtp (ptpOffset p t origin (e.setPort p { v with sync := none })) s else s
        | none => s)
    | .pdelayReq q =>
      let e := e.setPort p { v with requests := sparseSet none v.requests q.toNat (some m.time) }
      setPtp ((e.push p (.pdelayResp q)).push p (.pdelayRespFollowUp q)) s
    | .pdelayResp q t2 =>
      (match v.asked with
        | some (q', _) => if q' = q then setPtp (e.setPort p { v with answered := some (q, t2, m.time) }) s else s
        | none => s)
    | .pdelayRespFollowUp q t3 =>
      (match v.asked, v.answered with
        | some (q1, t1), some (q2, t2, t4) =>
          if q1 = q ∧ q2 = q then
            let delay := (t4 - t1 - (t3 - t2)) / 2
            setCapable p (decide (delay ≤ Config.propDelayThresh))
              (setPtp (e.setPort p { v with asked := none, answered := none, delay := delay }) s)
          else s
        | _, _ => s)

/-- The engine sends a message on an enabled port: Sync and Follow_Up only as grandmaster (R348). It waits for the port (R361). -/
def ptpSend (port : Nat) (kind : PtpKind) (s : State) : State :=
  let timing : Bool := match kind with
    | .sync => true
    | .followUp => true
    | _ => false
  if !ptpServes port s || (timing && !bit (s.reg (pgAdt 5) 0x044) 1) then s
  else { s with adit := { s.adit with ptp := s.adit.ptp.push port kind } }

/-- What a message says as it leaves a port (R345, R348): Sync is two-step, its Follow_Up has the Sync's number and its timestamp as the origin time; a
Pdelay_Resp has the time the request was received, its follow-up the time the response was sent; Announce has the identity of the grandmaster.
None where there is nothing that the message could say. -/
def ptpBody (port : Nat) (kind : PtpKind) (s : State) : Option PtpBody :=
  let v := s.adit.ptp.port port
  match kind with
  | .sync => some (.sync (match v.syncSent with | some x => x.1 + 1 | none => 0) none)
  | .followUp => v.syncSent.map fun x => .followUp x.1 x.2
  | .announce => some (.announce (if bit (s.reg (pgAdt 5) 0x044) 1 then ownIdentity s else match bestHeard s with | some b => b.1 | none => ownIdentity s))
  | .pdelayReq q => some (.pdelayReq q)
  | .pdelayResp q => (sparseGet none v.requests q.toNat).map fun t => .pdelayResp q t
  | .pdelayRespFollowUp q => (sparseGet none v.responses q.toNat).map fun t => .pdelayRespFollowUp q t

/-- What a port keeps of a message that it has sent at a time of its MII (R345, R348). -/
def PtpPort.sends (v : PtpPort) (body : PtpBody) (time : Int) : PtpPort :=
  match body with
  | .sync q _ => { v with syncSent := some (q, time) }
  | .pdelayReq q => { v with asked := some (q, time), answered := none }
  | .pdelayResp q _ => { v with requests := sparseSet none v.requests q.toNat none, responses := sparseSet none v.responses q.toNat (some time) }
  | .pdelayRespFollowUp q _ => { v with responses := sparseSet none v.responses q.toNat none }
  | _ => v

/-- A message has left a port at a time of its MII (R345, R348). -/
def ptpSent (port : Nat) (kind : PtpKind) (time : Int) (s : State) : State :=
  match ptpBody port kind s with
  | none => s
  | some b =>
    let e := s.adit.ptp
    { s with adit := { s.adit with ptp := { e.setPort port ((e.port port).sends b time) with sent := some (port, b, time) } } }

/-- No Sync on the slave port for 3 sync intervals (R349). -/
def ptpSyncLost (s : State) : State := setPtp { s.adit.ptp with syncRecent := false } s

/-- What was heard on a port lapses. -/
def ptpForget (p : Nat) (s : State) : State :=
  setPtp { s.adit.ptp with heard := sparseSet none s.adit.ptp.heard p none } s

/-- No Announce on the slave port for the announce receipt timeout (R348): what was heard there lapses. -/
def ptpAnnounceLost (s : State) : State :=
  match s.adit.ptp.slave with
  | some p => ptpForget p s
  | none => s

/-- The length of a shift by the reference clock, in thirds of a ns: 2,000,000 at the media clock's nominal rate, less as the correction makes that
clock faster (R206, R207); a part of a third is rounded freely (log 37). -/
def shiftThirds (s : State) : Nat := divFree 9 (2000000 * 3000000000) (3000000000 + s.aud.correction).toNat

/-- The engine's own time runs through a shift by the reference clock (R348), in thirds of a ns. -/
def ptpAdvance (s : State) : State :=
  { s with adit := { s.adit with ptp := { s.adit.ptp with time := s.adit.ptp.time.map fun t => t + shiftThirds s } } }

/-- The gPTP time of a boundary, in thirds of a ns (R348, R350): as grandmaster the engine's own, from 0 where the engine starts; as slave it is the
grandmaster's, at the grid point. -/
def ptpTime (grid : Int) (s : State) : State :=
  let e := s.adit.ptp
  let any := (List.range 4).any fun k => ptpPort k s
  let t : Int := match e.time with
    | none => 0
    | some t => if e.slave.isSome then 3 * mclkOffset s + 2000000 * grid else t
  { s with adit := { s.adit with ptp := { e with time := if any then some t else none } } }

end Sys2Proof.Machine
end

