-- ==== Sys2Proof/Machine/Receive.lean ====
section
/-!
DEFINITION. Sys2Proof/Machine/Receive.lean: received frames: the MAC and the FIFOs (R347), the parser (R352, R353), elimination
(R357, R358), copies into Tallies (R354), landing and delivery (R355, R356).
-/

namespace Sys2Proof.Machine

/-! ### Bytes of a frame -/

/-- The big-endian number of `n` bytes at an offset of a frame. -/
def beAt (bs : List Byte) (off n : Nat) : Nat := ((bs.drop off).take n).foldl (fun v b => v * 256 + b.toNat) 0

/-- The 16-bit one's complement sum of bytes. -/
def onesSum : List Byte → Nat → Nat
  | a :: b :: rest, acc => let v := acc + a.toNat * 256 + b.toNat; onesSum rest (v % 65536 + v / 65536)
  | [a], acc => let v := acc + a.toNat * 256; v % 65536 + v / 65536
  | [], acc => acc

/-- Bytes of a sample of a WIDTH code (R352, R373). -/
def widthBytes (w : Nat) : Nat := if w = 0 then 2 else if w = 1 then 3 else 4

/-- Where the parts of a frame lie: the EtherType, its offset's end, and the R-TAG's sequence number (R352). -/
structure Layers where
  etherType : Nat
  off : Nat
  rtag : Option (BitVec 16)
  deriving DecidableEq, Repr

/-- The optional 802.1Q tag, then the optional R-TAG (R352). -/
def layersOf (bs : List Byte) : Layers :=
  let q := if beAt bs 12 2 = 0x8100 then 16 else 12
  if beAt bs q 2 = 0xF1C1 then ⟨beAt bs (q + 6) 2, q + 8, some (BitVec.ofNat 16 (beAt bs (q + 4) 2))⟩
  else ⟨beAt bs q 2, q + 2, none⟩

/-- The stream entries of a port that are enabled and have a format (R352). -/
def rxCandidates (port fmt : Nat) (s : State) : List Nat :=
  (List.range 256).filter fun i =>
    let c := rxEff i 0 s
    bit c 31 && bit c (24 + port) && decide (fld c 18 2 = fmt)

/-- The entry an AAF frame matches, by stream_id (R352). -/
def matchAaf (port : Nat) (bs : List Byte) (off : Nat) (s : State) : Option Nat :=
  (rxCandidates port 0 s).find? fun i =>
    decide ((rxEff i 4 s).toNat = beAt bs (off + 4) 4) && decide ((rxEff i 8 s).toNat = beAt bs (off + 8) 4)

/-- The entry an AES67 frame matches, by destination address and port and, with PT_EN, payload type (R352). -/
def matchAes (port : Nat) (bs : List Byte) (off : Nat) (s : State) : Option Nat :=
  let udp := off + 4 * (beAt bs off 1 % 16)
  (rxCandidates port 1 s).find? fun i =>
    let k := rxEff i 8 s
    decide ((rxEff i 4 s).toNat = beAt bs (off + 16) 4) && decide (fld k 0 16 = beAt bs (udp + 2) 2)
      && (!bit k 23 || decide (fld k 16 7 = beAt bs (udp + 9) 1 % 128))

/-- What a frame is to the parser (R352). -/
inductive Parsed where
  | gptp
  | stream (i : Nat) (lay : Layers)
  | unmatched
  deriving DecidableEq, Repr

/-- The parser's classification of a frame (R352). -/
def parseFrame (port : Nat) (bs : List Byte) (s : State) : Parsed :=
  let l := layersOf bs
  let found := if l.etherType = 0x22F0 ∧ beAt bs l.off 1 = 2 then matchAaf port bs l.off s
    else if l.etherType = 0x0800 ∧ beAt bs (l.off + 9) 1 = 17 then matchAes port bs l.off s
    else none
  if l.etherType = 0x88F7 then .gptp
  else match found with
    | some i => .stream i l
    | none => .unmatched

/-! ### gPTP frames -/

/-- A number read as signed in `n` bits. -/
def signedIn (n v : Nat) : Int := if 2 ^ (n - 1) ≤ v then (v : Int) - ((2 ^ n : Nat) : Int) else v

/-- A timestamp field of 6 bytes of seconds and 4 of nanoseconds, in ns (IEEE 802.1AS; log 29). -/
def ptpStamp (bs : List Byte) (off : Nat) : Int := beAt bs off 6 * 1000000000 + beAt bs (off + 6) 4

/-- A gPTP message read from the bytes after its EtherType, in the layout of IEEE 802.1AS-2020 (R345; PRESUMED, log 29); none for a type that
the engine does not read. -/
def ptpDecode (bs : List Byte) (time : Int) : Option PtpMsg :=
  let q := BitVec.ofNat 16 (beAt bs 30 2)
  let correction : Int := signedIn 64 (beAt bs 8 8) / 65536
  let stamp := ptpStamp bs 34 + correction
  let body : Option PtpBody := match beAt bs 0 1 % 16 with
    | 0x0 => some (.sync q (if beAt bs 6 1 / 2 % 2 = 1 then none else some stamp))
    | 0x2 => some (.pdelayReq q)
    | 0x3 => some (.pdelayResp q stamp)
    | 0x8 => some (.followUp q stamp)
    | 0xA => some (.pdelayRespFollowUp q stamp)
    | 0xB => some (.announce (beAt bs 47 14))
    | _ => none
  body.map fun b => ⟨BitVec.ofNat 8 (beAt bs 4 1), time, b⟩

/-- A frame of EtherType 0x88F7 goes to the gPTP engine (R352). -/
def ptpFrame (p : Nat) (f : RxFrame) (s : State) : State :=
  match ptpDecode (f.bytes.drop (layersOf f.bytes).off) f.time with
  | some m => ptpReceive p m s
  | none => s

/-! ### Tests of R353 -/

/-- The AAF codes of IEEE 1722 for a WIDTH, and for the rate in effect (R345, R353). -/
def aafFormat (width : Nat) : Nat := if width = 0 then 4 else if width = 1 then 3 else 2
def aafRate (s : State) : Nat := if rate96 s then 7 else 5

/-- The header tests of an AAF frame (R353), which is not in sparse timestamp mode (R345, its sp bit by IEEE 1722, log 29): the payload's offset and
length in bytes. -/
def aafPayload (i : Nat) (bs : List Byte) (off : Nat) (s : State) : Option (Nat × Nat) :=
  let c := rxEff i 0 s
  let b1 := beAt bs (off + 1) 1
  let chans := beAt bs (off + 17) 2 % 1024
  let len := beAt bs (off + 20) 2
  if b1 / 128 = 1 ∧ b1 % 2 = 1 ∧ beAt bs (off + 22) 1 / 16 % 2 = 0 ∧ beAt bs (off + 16) 1 = aafFormat (fld c 16 2) ∧ beAt bs (off + 17) 1 / 16 = aafRate s
      ∧ chans = fld c 9 7 + 1 ∧ off + 24 + len ≤ bs.length then some (off + 24, len) else none

/-- The header tests of an AES67 frame (R353): the payload's offset and length in bytes. -/
def aesPayload (bs : List Byte) (off : Nat) : Option (Nat × Nat) :=
  let ip := (bs.drop off).take 20
  let udp := off + 20
  let ulen := beAt bs (udp + 4) 2
  let pseudo := (ip.drop 12) ++ [0#8, 17#8] ++ ((bs.drop (udp + 4)).take 2)
  let usum := onesSum (pseudo ++ (bs.drop udp).take ulen) 0
  let rtp := udp + 8
  if beAt bs off 1 = 0x45 ∧ beAt bs (off + 6) 2 % 0x4000 = 0 ∧ onesSum ip 0 = 0xFFFF ∧ 20 ≤ ulen ∧ udp + ulen ≤ bs.length
      ∧ (beAt bs (udp + 6) 2 = 0 ∨ usum = 0xFFFF) ∧ beAt bs rtp 1 / 64 = 2 ∧ beAt bs rtp 1 % 32 = 0
  then some (rtp + 12, ulen - 20) else none

/-- The value nearest to `x` that is congruent to `c` modulo 2^32 (R353); of two equally near ones, free (log 37). -/
def nearestTo (x : Int) (c : Int) : Int :=
  let d := (c - x) % 0x100000000
  if d < 0x80000000 ∨ (d = 0x80000000 ∧ Config.roundUp 5 x.natAbs = true) then x + d else x + d - 0x100000000

/-- The index of a frame's first sample (R353). -/
def firstIndex (i : Nat) (time : Int) (bs : List Byte) (off : Nat) (s : State) : Int :=
  let ofs : Int := (rxEff i 0xC s).toNat
  if fld (rxEff i 0 s) 18 2 = 1 then nearestTo (sampleIndex time s) (beAt bs (off + 32) 4 - ofs)
  else sampleIndex (nearestTo time (beAt bs (off + 12) 4 - ofs)) s

/-- The delivery shift of a sample index for a stream (R353). -/
def deliveryShift (i : Nat) (m : Int) (s : State) : Int := m / blockLen s + fld (rxEff i 0 s) 20 4

/-- A frame holds some of the sample indices `first` to `first + count − 1`. -/
def overlaps (first : Int) (count : Nat) (f : Int) (n : Nat) : Bool := decide (first < f + n) && decide (f < first + count)

/-- A sample index of the span is already held for the stream (R353). -/
def alreadyHeld (i : Nat) (first : Int) (count : Nat) (s : State) : Bool :=
  (s.adit.frames.any fun f => decide (f.stream = i) && overlaps first count f.first f.count)
    || (List.range 4).any fun p => match (sparseGet ⟨.none, []⟩ s.adit.rx p).head with
      | .none => false
      | .waiting f => decide (f.stream = i) && overlaps first count f.first f.count
      | .copying f _ _ => decide (f.stream = i) && overlaps first count f.first f.count

/-- A discard counted in a byte of +0x1C (R353, R373), with its event. -/
def rxCount (i lo evt : Nat) (s : State) : State :=
  let s := s.incSat (rxsPage i) (rxsOff i 0x1C) lo 8
  if evt = 0 then s else s.setEvt (rxsPage i) evt

def rxLate (i : Nat) (s : State) : State := rxCount i 24 1 s
def rxEarly (i : Nat) (s : State) : State := rxCount i 16 0 s
def rxBad (i : Nat) (s : State) : State := rxCount i 0 3 s

/-! ### Elimination -/

/-- A frame's sequence number tested and recorded (R358): accepted, and the state. -/
def eliminate (i : Nat) (seq : BitVec 16) (s : State) : Bool × State :=
  let put (e : Elim) (s : State) : State := { s with adit := { s.adit with elim := sparseSet none s.adit.elim i (some e) } }
  let dup (s : State) : State := s.incSat (rxsPage i) (rxsOff i 0x20) 16 16
  match sparseGet none s.adit.elim i with
  | none => (true, put ⟨seq, 0⟩ s)
  | some e =>
    let up := (seq - e.highest).toNat
    let down := (e.highest - seq).toNat
    if up = 0 then (false, dup s)
    else if up < 0x8000 then
      let h := if up ≤ 32 then (e.history.toNat * 2 ^ up + 2 ^ (up - 1)) % 2 ^ 32 else 0
      (true, put ⟨seq, w32 h⟩ s)
    else if 32 < down then (false, (dup s).setEvt (pgAdt 7) 1)
    else if bit e.history (down - 1) then (false, dup s)
    else (true, put { e with history := putBit e.history (down - 1) true } s)

/-- RESET_MS passes with no frame accepted: the history is cleared (R358). -/
def eliminationReset (i : Nat) (s : State) : State := { s with adit := { s.adit with elim := sparseSet none s.adit.elim i none } }

/-! ### From the FIFO to the Tallies -/

/-- The receive side of a port. -/
def State.rxPort (s : State) (p : Nat) : RxPort := sparseGet ⟨.none, []⟩ s.adit.rx p

/-- The state with the receive side of a port replaced. -/
def State.setRxPort (s : State) (p : Nat) (v : RxPort) : State :=
  { s with adit := { s.adit with rx := sparseSet ⟨.none, []⟩ s.adit.rx p v } }

/-- The pool a receive stream names. -/
def rxPool (i : Nat) (s : State) : Nat := fld (rxEff i 0 s) 28 2

/-- A matched frame tested (R351, R353): what may be requested for, if all tests pass. -/
def testFrame (i : Nat) (lay : Layers) (f : RxFrame) (s : State) : Option RxInfo × State :=
  let c := rxEff i 0 s
  let payload := if fld c 18 2 = 1 then aesPayload f.bytes lay.off else aafPayload i f.bytes lay.off s
  let unit := (fld c 9 7 + 1) * widthBytes (fld c 16 2)
  if s.guard.safe then (none, s)
  else if !streamsRun s then (none, rxLate i s)
  else match payload with
    | none => (none, rxBad i s)
    | some (off, n) =>
      let count := n / unit
      if n % unit ≠ 0 ∨ count = 0 ∨ 2 * blockLen s < count ∨ (bit c 30 ∧ lay.rtag = none) then (none, rxBad i s)
      else
        let e := match lay.rtag with
          | some q => if bit c 30 then eliminate i q s else (true, s)
          | none => (true, s)
        let s := e.2
        if !e.1 then (none, s)
        else
          let first := firstIndex i f.time f.bytes lay.off s
          if deliveryShift i first s ≤ s.adit.grid then (none, rxLate i s)
          else if s.adit.grid + 16 < deliveryShift i (first + count - 1) s then (none, rxEarly i s)
          else if alreadyHeld i first count s then (none, rxBad i s)
          else (some ⟨i, first, count, off + n, off, f.bytes⟩, s)

/-- The parser and the reservation work on the FIFO of a port until a frame waits or is copied, or none is left (R352–R354); no
request is made from 664.5 µs to the boundary (R48). -/
def pumpPort (p : Nat) : Nat → State → State
  | 0, s => s
  | n + 1, s =>
    let v := s.rxPort p
    match v.head, v.fifo with
    | .none, f :: rest =>
      match parseFrame p f.bytes s with
      | .gptp => pumpPort p n (ptpFrame p f (s.setRxPort p { v with fifo := rest }))
      | .unmatched => pumpPort p n ((s.setRxPort p { v with fifo := rest }).incReg (pgAdt 4) 0x040 |>.setEvt (pgAdt 4) 1)
      | .stream i lay =>
        if s.ons.seg = .cutoff ∨ s.ons.seg = .lamp then s
        else
          let s := s.setRxPort p { v with fifo := rest }
          match testFrame i lay f s with
          | (none, s) => pumpPort p n s
          | (some info, s) =>
            match request (rxPool i s) i ((info.len + 255) / 256) (some p) s with
            | (.granted ts, s) => s.setRxPort p { s.rxPort p with head := .copying info (rxPool i s) ts }
            | (.queued, s) => s.setRxPort p { s.rxPort p with head := .waiting info }
            | (.failed, s) => pumpPort p n s
    | _, _ => s

/-- The FIFO of a port is worked on. -/
def pumpRx (p : Nat) (s : State) : State := pumpPort p (s.rxPort p).fifo.length s

/-- A frame arrives at a port (R347). -/
def frameReceive (p : Nat) (f : RxFrame) (s : State) : State :=
  if !aditPortOn p s then s
  else if !f.fcsOk ∨ 9216 < f.bytes.length ∨ f.bytes.length + 4 < 64 then s.incSat (pgAdt p) 0x050 8 8
  else
    let v := s.rxPort p
    let used := v.fifo.foldl (fun n g => n + g.bytes.length) 0
      + (match v.head with | .none => 0 | .waiting g => g.bytes.length | .copying g _ _ => g.bytes.length)
    if (if p < 2 then 0x80000 else 0x20000) < used + f.bytes.length then (s.incSat (pgAdt p) 0x050 0 8).setEvt (pgAdt p) 2
    else pumpRx p (s.setRxPort p { v with fifo := v.fifo ++ [f] })

/-- The requester of a port (R24). -/
def portRequester (p : Nat) : Requester := fixedRequester (BitVec.ofNat 8 (0x90 + p))

/-- The address of byte `k` of the data in a frame's Tallies (R365). -/
def tallyAddr (q : Nat) (ts : List Nat) (k : Nat) (s : State) : Nat :=
  0x01000000 + 256 * (s.pool q).base + 256 * ts.getD (k / 256) 0 + k % 256

/-- Bytes written into a frame's Tallies in bursts within one 64-byte block, by a port: refused, and the state (R354). -/
def tallyWrite (p q : Nat) (ts : List Nat) : Nat → Nat → List Byte → State → Bool × State
  | 0, _, _, s => (false, s)
  | n + 1, k, bs, s =>
    if bs.isEmpty then (false, s)
    else
      let here := 64 - k % 64
      let a := tallyAddr q ts k s
      let r := busCheck (portRequester p) .write a s
      if r.1.isSome then (true, r.2)
      else tallyWrite p q ts n (k + here) (bs.drop here) (portWrite (portRequester p).master none a (cleanBytes (bs.take here)) r.2)

/-- Bytes read from a frame's Tallies by a port; a refused read gives poisoned bytes (R355, R364). -/
def tallyRead (p q : Nat) (ts : List Nat) : Nat → Nat → Nat → State → Payload × State
  | 0, _, _, s => ([], s)
  | fuel + 1, k, n, s =>
    if n = 0 then ([], s)
    else
      let here := min n (64 - k % 64)
      let a := tallyAddr q ts k s
      let r := busCheck (portRequester p) .read a s
      let v := if r.1.isSome then (poisoned here, r.2) else portRead (portRequester p).master a here r.2
      let rest := tallyRead p q ts fuel (k + here) (n - here) v.2
      (v.1 ++ rest.1, rest.2)

/-- The lowest-numbered port of a PORTS field. -/
def lowestPort (ports : Nat) : Nat := ((List.range 4).find? fun p => ports / 2 ^ p % 2 = 1).getD 0

/-- Sample of index `m` and channel `k` of a held frame, converted to 24 bits (R355). -/
def heldSample (f : RxHeld) (m : Int) (k : Nat) (s : State) : Val 24 × State :=
  let c := rxEff f.stream 0 s
  let w := widthBytes (fld c 16 2)
  let at_ := f.off + ((m - f.first).toNat * (fld c 9 7 + 1) + k) * w
  let r := tallyRead (lowestPort (fld c 24 4)) f.pool f.tallies 2 at_ w s
  let v := r.1.foldl (fun v b => v * 256 + b.1.toNat) 0
  (⟨BitVec.ofNat 24 (if w = 2 then v * 256 else if w = 3 then v else v / 256), payloadPoison r.1⟩, r.2)

/-- The received frame of a stream that holds a sample index. -/
def frameOf (i : Nat) (m : Int) (s : State) : Option RxHeld :=
  s.adit.frames.find? fun f => decide (f.stream = i) && decide (f.first ≤ m) && decide (m < f.first + f.count)

/-- The first sample index of the block a stream delivers in a grid shift (R353). -/
def blockFirst (i : Nat) (n : Int) (s : State) : Int := (n - fld (rxEff i 0 s) 20 4) * blockLen s

/-- Every sample of the stream's block of a grid shift has been received (R355). -/
def blockReceived (i : Nat) (n : Int) (s : State) : Bool :=
  (List.range (blockLen s)).all fun (j : Nat) => (frameOf i (blockFirst i n s + j) s).isSome

/-- The runs of written bytes among a channel's bytes, with their offsets, each within one 64-byte block of the bus (R334). -/
def landingRuns (a : Nat) : List (Option (Byte × Bool)) → Nat → Payload → List (Nat × Payload)
  | [], k, run => if run.isEmpty then [] else [(k - run.length, run)]
  | x :: rest, k, run =>
    let close : List (Nat × Payload) := if run.isEmpty then [] else [(k - run.length, run)]
    let cut := decide ((a + k) % 64 = 0)
    match x with
    | none => close ++ landingRuns a rest (k + 1) []
    | some b => if cut then close ++ landingRuns a rest (k + 1) [b] else landingRuns a rest (k + 1) (run ++ [b])

/-- Landing writes by the stream's lowest port, each checked (R331, R355). -/
def landingWrite (i a : Nat) (bs : List (Option (Byte × Bool))) (s : State) : State :=
  let p := lowestPort (fld (rxEff i 0 s) 24 4)
  (landingRuns a bs 0 []).foldl (fun s x =>
    let r := busCheck (portRequester p) .write (a + x.1) s
    if r.1.isSome then r.2.setEvt (pgAdt 4) 2 else portWrite (portRequester p).master none (a + x.1) x.2 r.2) s

/-- The bytes of a channel's block of the next grid shift as far as they have been received (R355). -/
def landingBytes (i k : Nat) (s : State) : List (Option (Byte × Bool)) × State :=
  (List.range (blockLen s)).foldl (fun (acc : List (Option (Byte × Bool)) × State) (j : Nat) =>
    let m := blockFirst i (acc.2.adit.grid + 1) acc.2 + j
    match frameOf i m acc.2 with
    | none => (acc.1 ++ [none, none, none], acc.2)
    | some f => let v := heldSample f m k acc.2; (acc.1 ++ (sampleBytes v.1).map some, v.2)) ([], s)

/-- What has been received of a stream's block of the next grid shift is landed (R355): a word that two frames share is written whole once both
have come. -/
def landBlock (i : Nat) (s : State) : State :=
  let base := (rxEff i 0x14 s).toNat
  if base = 0 then s
  else (List.range (fld (rxEff i 0 s) 9 7 + 1)).foldl (fun s k =>
    let r := landingBytes i k s
    landingWrite i (base + 3 * blockLen s * k) r.1 r.2) s

/-- A frame holds a sample of its stream's block of the next grid shift. -/
def landsNext (f : RxHeld) (s : State) : Bool := overlaps (blockFirst f.stream (s.adit.grid + 1) s) (blockLen s) f.first f.count

/-- A port's access to a pool waits: the pool's bank is to be handed over to the port, and an access of its old owner is not answered yet
(R294, R295 row 2). -/
def portWaits (p q : Nat) (s : State) : Bool :=
  match bankOf (tallyAddr q [0] 0 s) with
  | some b => newOwner b (portRequester p).master s && drainOpen b s
  | none => false

/-- The enabled receive streams. -/
def rxStreams (s : State) : List Nat := (List.range 256).filter fun i => bit (rxEff i 0 s) 31

/-- The de-packetiser from 650.0 µs: what has been received of the next block is landed (R355). -/
def landingStart (s : State) : State := (rxStreams s).foldl (fun s i => landBlock i s) s

/-- 664.5 µs: each stream's next block counts as delivered or as missed, and a missed one is landed poisoned (R355). -/
def landingEnd (s : State) : State :=
  (rxStreams s).foldl (fun s i =>
    let ok := blockReceived i (s.adit.grid + 1) s
    let s := { s with adit := { s.adit with delivered := sparseSet false s.adit.delivered i ok } }
    if ok then s
    else
      let s := (s.incSat (rxsPage i) (rxsOff i 0x24) 16 16).setEvt (rxsPage i) 4
      if (rxEff i 0x14 s) = 0 then s
      else (List.range (fld (rxEff i 0 s) 9 7 + 1)).foldl (fun s k =>
        landingWrite i ((rxEff i 0x14 s).toNat + 3 * blockLen s * k) ((poisoned (3 * blockLen s)).map some) s) s) s

/-- The receive stream and channel within it that carry a receive channel. -/
def channelStream (ch : Nat) (s : State) : Option (Nat × Nat) :=
  (rxStreams s).findSome? fun i =>
    let c := rxEff i 0 s
    if fld c 0 9 ≤ ch ∧ ch ≤ fld c 0 9 + fld c 9 7 then some (i, ch - fld c 0 9) else none

/-- The delivered block of a receive channel in the present grid shift, read from the Tallies (R355). -/
def channelBlock (i k : Nat) (s : State) : List (Val 24) × State :=
  (List.range (blockLen s)).foldl (fun (acc : List (Val 24) × State) (j : Nat) =>
    let m := blockFirst i acc.2.adit.grid acc.2 + j
    match frameOf i m acc.2 with
    | some f => let v := heldSample f m k acc.2; (acc.1 ++ [v.1], v.2)
    | none => (acc.1 ++ [⟨0, true⟩], acc.2)) ([], s)

/-- INTAKE at the network inputs of the Tipple (R188, R355): delivered blocks enter the fill buffer. -/
def fillFromNetwork (s : State) : State :=
  if !tplRuns s then s
  else
    (List.range 512).foldl (fun s t =>
      let d := s.tpl.input t
      if fld d 29 3 ≠ 1 then s
      else match channelStream (fld d 20 9) s with
        | none => s
        | some (i, k) =>
          if sparseGet false s.adit.delivered i then
            let r := channelBlock i k s
            fillBlock t r.1 r.2
          else s) s

/-- 40.0 µs: frames whose last sample has been delivered release their Tallies (R356). -/
def releaseDelivered (s : State) : State :=
  let done := s.adit.frames.filter fun f => decide (deliveryShift f.stream (f.first + f.count - 1) s ≤ s.adit.grid)
  let s := done.foldl (fun s f => release f.pool f.stream f.tallies s) s
  { s with adit := { s.adit with frames := s.adit.frames.filter fun f => !done.contains f } }

end Sys2Proof.Machine
end

