-- ==== Sys2Proof/Machine/Transmit.lean ====
section
/-!
DEFINITION. Sys2Proof/Machine/Transmit.lean: transmit streams (R359–R364), grants from a pool's queue (R368), the shapers (R362, R363),
links (R347), and the boundary at the streams and pools (R365, R370, R373).
-/

namespace Sys2Proof.Machine

/-! ### Frames -/

/-- The big-endian bytes of a number. -/
def beBytes (n x : Nat) : List Byte := (bytesOf n x).reverse

/-- FPS of a transmit stream: frames per shift (R373). -/
def txFps (i : Nat) (s : State) : Nat := 2 ^ fld (txEff i 0 s) 20 2

/-- P of a transmit stream: samples per frame (R359). -/
def txSamples (i : Nat) (s : State) : Nat := blockLen s / txFps i s

/-- The length of a header (R359): 42 bytes for AAF, 54 or 58 for AES67, 6 more with REPL. -/
def headerLength (ctl : W32) : Nat :=
  (if fld ctl 18 2 = 0 then 42 else if bit ctl 22 then 58 else 54) + (if bit ctl 30 then 6 else 0)

/-- L of a transmit stream's frames for a control word and block length (R359, R360). -/
def frameLength (ctl : W32) (b : Nat) : Nat :=
  headerLength ctl + b / 2 ^ fld ctl 20 2 * (fld ctl 9 7 + 1) * widthBytes (fld ctl 16 2)

/-- The Tallies of a block's request (R360). -/
def txRequest (ctl : W32) (b : Nat) : Nat := 2 ^ fld ctl 20 2 * ((frameLength ctl b + 255) / 256)

/-- The Ethernet part of a frame (R359), with the addresses of port `p`. -/
def ethernetBytes (i p seq : Nat) (s : State) : List Byte :=
  let ctl := txEff i 0 s
  let w := txEff i 4 s
  let aaf := decide (fld ctl 18 2 = 0)
  let pcp := if bit ctl 23 then s.effFld (pgAdt 6) 0x040 0 3 else s.effFld (pgAdt 6) 0x040 3 3
  beBytes 2 (fld w 0 16) ++ beBytes 4 (txEff i 8 s).toNat
    ++ beBytes 2 (s.effFld (pgAdt p) 0x040 0 16) ++ beBytes 4 (s.effReg (pgAdt p) 0x044).toNat
    ++ (if aaf ∨ bit ctl 22 then beBytes 2 0x8100 ++ beBytes 2 (pcp * 0x2000 + fld w 16 12) else [])
    ++ (if bit ctl 30 then beBytes 2 0xF1C1 ++ beBytes 2 0 ++ beBytes 2 seq else [])
    ++ beBytes 2 (if aaf then 0x22F0 else 0x0800)

/-- The AVTP header of an AAF frame (R359, IEEE 1722). -/
def avtpBytes (i seq : Nat) (first : Int) (payload : Nat) (s : State) : List Byte :=
  let ctl := txEff i 0 s
  let w := fld ctl 16 2
  let ofs : Int := (txEff i 0x14 s).toNat
  let ts := mclkOffset s + first * 1000000000 / sampleRate s + ofs
  [0x02#8, 0x81#8, BitVec.ofNat 8 seq, 0x00#8] ++ beBytes 4 (txEff i 0xC s).toNat ++ beBytes 4 (txEff i 0x10 s).toNat
    ++ beBytes 4 (wrap 32 ts).toNat ++ [BitVec.ofNat 8 (aafFormat w)] ++ beBytes 2 (aafRate s * 0x1000 + fld ctl 9 7 + 1)
    ++ [BitVec.ofNat 8 (8 * widthBytes w)] ++ beBytes 2 payload ++ [0x00#8, 0x00#8]

/-- The IPv4 header of an AES67 frame with a payload of `n` bytes to an address (R359), with the address, DSCP and TTL of port `p`. -/
def ipBytes (p n dst : Nat) (s : State) : List Byte :=
  let cfg := s.effReg (pgAdt p) 0x04C
  let ip (sum : Nat) : List Byte := [0x45#8, BitVec.ofNat 8 (fld cfg 8 6 * 4)] ++ beBytes 2 (20 + n) ++ beBytes 2 0 ++ beBytes 2 0x4000
    ++ [BitVec.ofNat 8 (fld cfg 0 8), 17#8] ++ beBytes 2 sum ++ beBytes 4 (s.effReg (pgAdt p) 0x048).toNat ++ beBytes 4 dst
  ip (0xFFFF - onesSum (ip 0) 0)

/-- The IPv4, UDP and RTP headers of an AES67 frame (R359), with the addresses of port `p`. -/
def rtpBytes (i p seq : Nat) (first : Int) (payload : Nat) (s : State) : List Byte :=
  let key := txEff i 0x10 s
  let ofs : Int := (txEff i 0x14 s).toNat
  ipBytes p (20 + payload) (txEff i 0xC s).toNat s ++ beBytes 2 Config.udpSourcePort ++ beBytes 2 (fld key 0 16) ++ beBytes 2 (20 + payload) ++ beBytes 2 0
    ++ [0x80#8, BitVec.ofNat 8 (fld key 16 7)] ++ beBytes 2 seq ++ beBytes 4 (wrap 32 (first + ofs)).toNat ++ beBytes 4 (txEff i 0x18 s).toNat

/-- The released sample `k` of the block of a transmit channel: of the Tipple output that names it, else 0 (R360). -/
def channelSample (ch k : Nat) (s : State) : W24 :=
  match (List.range 256).find? (fun j => decide (fld (s.tpl.output j) 29 3 = 3) && decide (fld (s.tpl.output j) 20 9 = ch)) with
  | some j => (sparseGet [] s.tpl.out j).getD k 0
  | none => 0

/-- The big-endian bytes of a sample at a WIDTH (R359). -/
def wireSample (w : Nat) (v : W24) : List Byte :=
  if w = 0 then beBytes 2 (v.toNat / 256) else if w = 1 then beBytes 3 v.toNat else beBytes 4 (v.toNat * 256)

/-- The bytes of frame `f` of a stream's block (R359, R360). -/
def frameBytes (i f : Nat) (seq : TxSeq) (s : State) : List Byte :=
  let ctl := txEff i 0 s
  let p := lowestPort (fld ctl 24 4)
  let n := txSamples i s
  let w := fld ctl 16 2
  let payload := n * (fld ctl 9 7 + 1) * widthBytes w
  let first : Int := (s.adit.grid + 1) * blockLen s + (f * n : Nat)
  let body := (List.range n).flatMap fun j => (List.range (fld ctl 9 7 + 1)).flatMap fun k =>
    wireSample w (channelSample (fld ctl 0 8 + k) (f * n + j) s)
  ethernetBytes i p seq.rtag s
    ++ (if fld ctl 18 2 = 0 then avtpBytes i seq.protocol first payload s else rtpBytes i p seq.protocol first payload s) ++ body

/-! ### Reservation -/

/-- A frame's bytes as port `p` sends them: with its own source address and, in an AES67 frame, its own IPv4 header (R359). -/
def portBytes (i p : Nat) (bs : List Byte) (s : State) : List Byte :=
  let ctl := txEff i 0 s
  let mac := beBytes 2 (s.effFld (pgAdt p) 0x040 0 16) ++ beBytes 4 (s.effReg (pgAdt p) 0x044).toNat
  let bs := bs.take 6 ++ mac ++ bs.drop 12
  if fld ctl 18 2 = 0 then bs
  else
    let at_ := 14 + (if bit ctl 22 then 4 else 0) + (if bit ctl 30 then 6 else 0)
    bs.take at_ ++ ipBytes p (bs.length - at_ - 20) (txEff i 0xC s).toNat s ++ bs.drop (at_ + 20)

/-- The frames of a granted block take their Tallies (R360). -/
def txGranted (i : Nat) (ts : List Nat) (s : State) : State :=
  let ctl := txEff i 0 s
  let len := frameLength ctl (blockLen s)
  let per := (len + 255) / 256
  let fs := (List.range (txFps i s)).map fun f =>
    (⟨s.adit.txCount + f, i, f, len, fld ctl 28 2, (ts.drop (f * per)).take per, false, false, [], []⟩ : TxFrame)
  { s with adit := { s.adit with tx := s.adit.tx ++ fs, txCount := s.adit.txCount + fs.length } }

/-- The head of a pool's queue is retested, and granted while it fits (R368). While stream frames are neither received nor sent, its frame is discarded
as LATE, or its reservation not made (R351). -/
def pumpPool (q : Nat) : Nat → State → State
  | 0, s => s
  | n + 1, s =>
    match (s.pool q).queue with
    | [] => s
    | r :: rest =>
      if !streamsRun s then
        let s := s.setPool q { s.pool q with queue := rest }
        let s := match r.port with
          | some p => pumpRx p (rxLate r.holder (s.setRxPort p { s.rxPort p with head := .none }))
          | none => s
        pumpPool q n s
      else if grantFits q r.holder r.count s then
        let s := s.setPool q { s.pool q with queue := rest }
        let g := grant q r.holder r.count s
        let s := match r.port with
          | some p => match (g.2.rxPort p).head with
            | .waiting f => g.2.setRxPort p { g.2.rxPort p with head := .copying f q g.1 }
            | _ => g.2
          | none => txGranted (r.holder - 256) g.1 g.2
        pumpPool q n s
      else s

/-- Every pool's queue is retested (R368). -/
def pumpPools (s : State) : State := (List.range 4).foldl (fun s q => pumpPool q (s.pool q).queue.length s) s

/-- The copy of a port's head frame completes (R354, R355): received, or discarded when a write was refused, or as LATE while no stream frame is received
(R351); Tallies released let the pools' queues go on (R368). -/
def frameCopyDone (p : Nat) (s : State) : State :=
  match (s.rxPort p).head with
  | .copying f q ts =>
    if portWaits p q s then s
    else
      let s := s.setRxPort p { s.rxPort p with head := .none }
      if !streamsRun s then pumpRx p (pumpPools (rxLate f.stream (release q f.stream ts s)))
      else
        let r := tallyWrite p q ts (f.len + 1) 0 (f.bytes.take f.len) s
        if r.1 then pumpRx p (pumpPools ((rxBad f.stream (release q f.stream ts r.2)).setEvt (pgAdt 4) 2))
        else
          let held : RxHeld := ⟨f.stream, f.first, f.count, f.off, q, ts⟩
          let s : State := { r.2 with adit := { r.2.adit with frames := r.2.adit.frames ++ [held] } }
          let s := s.incReg (rxsPage f.stream) (rxsOff f.stream 0x18)
          pumpRx p (if s.ons.seg = .drain && landsNext held s then landBlock f.stream s else s)
  | _ => s

/-- The enabled transmit streams. -/
def txStreams (s : State) : List Nat := (List.range 128).filter fun i => bit (txEff i 0 s) 31

/-- 620.0 µs: the transmit reservations of the shift (R360, R351, R405). -/
def txReserve (s : State) : State :=
  if s.guard.safe ∨ !streamsRun s then s
  else (txStreams s).foldl (fun s i =>
    let ctl := txEff i 0 s
    match request (fld ctl 28 2) (256 + i) (txRequest ctl (blockLen s)) none s with
    | (.granted ts, s) => txGranted i ts s
    | (.queued, s) => s
    | (.failed, s) => s) s

/-- 650.0 µs: every queued request fails (R368); the frame of a receive request is discarded (R353, R354). -/
def failQueued (s : State) : State :=
  let s := (List.range 4).foldl (fun s q =>
    let reqs := (s.pool q).queue
    let s := s.setPool q { s.pool q with queue := [] }
    reqs.foldl (fun s r =>
      let s := streamShort r.holder (poolShort q true s)
      match r.port with
      | some p => s.setRxPort p { s.rxPort p with head := .none }
      | none => s) s) s
  (List.range 4).foldl (fun s p => if (s.rxPort p).head = .none then pumpRx p s else s) s

/-- One granted frame is packed (R360). -/
def packFrame (f : TxFrame) (s : State) : State :=
  let q := sparseGet ⟨0, 0⟩ s.adit.txSeq f.stream
  let p := lowestPort (fld (txEff f.stream 0 s) 24 4)
  let r := tallyWrite p f.pool f.tallies (f.len + 1) 0 (frameBytes f.stream f.index q s) s
  let top := if fld (txEff f.stream 0 s) 18 2 = 0 then 256 else 65536
  let q' : TxSeq := ⟨(q.protocol + 1) % top, (q.rtag + 1) % 65536⟩
  let s := r.2.setEvtIf r.1 (pgAdt 4) 2
  { s with adit := { s.adit with txSeq := sparseSet ⟨0, 0⟩ s.adit.txSeq f.stream q' } }

/-- 650.0 µs: the packer writes the frames of each granted stream (R360). -/
def packFrames (s : State) : State :=
  let s := s.adit.tx.foldl (fun s f => if f.packed then s else packFrame f s) s
  { s with adit := { s.adit with tx := s.adit.tx.map fun f => { f with packed := true } } }

/-! ### Transmission -/

/-- A frame as it stands, once no port holds it any more, is removed and its Tallies are released (R361). -/
def retireFrames (s : State) : State :=
  let done := s.adit.tx.filter fun f => f.eligible && f.queued.isEmpty && f.sending.isEmpty
  let s := done.foldl (fun s f => release f.pool (256 + f.stream) f.tallies s) s
  pumpPools { s with adit := { s.adit with tx := s.adit.tx.filter fun f => !(f.eligible && f.queued.isEmpty && f.sending.isEmpty) } }

/-- The first frame of a list that a test admits, changed, and the rest as they are. -/
def changeFirst (p : TxFrame → Bool) (f : TxFrame → TxFrame) : List TxFrame → List TxFrame
  | [] => []
  | x :: rest => if p x then f x :: rest else x :: changeFirst p f rest

/-- The state with its transmit frames replaced. -/
def State.setTx (s : State) (fs : List TxFrame) : State := { s with adit := { s.adit with tx := fs } }

/-- The class of a stream: 0 SR class A, 1 SR class B. -/
def txClass (i : Nat) (s : State) : Nat := fld (txEff i 0 s) 23 1

/-- A shaped class of a port. -/
def shaperOf (p c : Nat) (s : State) : Shaper := sparseGet ⟨0, 0, 0, 0, 0⟩ s.adit.shapers (2 * p + c)

/-- The state with a shaped class replaced. -/
def setShaper (p c : Nat) (v : Shaper) (s : State) : State :=
  { s with adit := { s.adit with shapers := sparseSet ⟨0, 0, 0, 0, 0⟩ s.adit.shapers (2 * p + c) v } }

/-- A frame of a class waits on a port, in its queue or in its FIFO. -/
def classWaits (p c : Nat) (s : State) : Bool :=
  s.adit.tx.any fun f => (f.queued.contains p || f.sending.contains p) && decide (txClass f.stream s = c)

/-- The rate of a port in kb/s (R345). -/
def portRate (p : Nat) : Nat := if p < 2 then 10000000 else 1000000

/-- idleSlope of a class of a port in kb/s, in effect (R362). -/
def idleSlope (p c : Nat) (s : State) : Nat := s.effFld (pgAdt 6) (0x080 + 8 * p + 4 * c) 0 24

/-- Credit added to a class (R362, R363): while no frame waits, a negative credit rises to 0 at most and a positive one is set to 0. -/
def creditEarn (p c n : Nat) (s : State) : State :=
  let v := shaperOf p c s
  if classWaits p c s then setShaper p c { v with credit := v.credit + n, earned := v.earned + n } s
  else if 0 < v.credit then setShaper p c { v with credit := 0, reset := v.reset + v.credit } s
  else
    let k : Int := min n (-v.credit)
    setShaper p c { v with credit := v.credit + k, earned := v.earned + k } s

/-- A class earns at idleSlope for a time in ns (R362); a part of 2^-16 bit is rounded freely (log 37). -/
def creditTime (p c ns : Nat) (s : State) : State := creditEarn p c (divFree 6 (idleSlope p c s * ns * 65536) 1000000) s

/-- Both classes of a port earn for a time without a transmission of theirs. -/
def creditBoth (p ns : Nat) (s : State) : State := creditTime p 1 ns (creditTime p 0 ns s)

/-- The stream's oldest frame not yet eligible becomes eligible, and is queued on every port in PORTS whose link is up (R361, R347); each port's classes
first earn for the time in ns, since its last report, that it has not transmitted in: until now the frame has not waited (R362). -/
def frameEligible (i : Nat) (elapsed : List Nat) (s : State) : State :=
  let p (f : TxFrame) : Bool := decide (f.stream = i) && f.packed && !f.eligible
  match s.adit.tx.find? p with
  | none => s
  | some f =>
    let s := (List.range 4).foldl (fun s k => creditBoth k (elapsed.getD k 0) s) s
    let ports := (List.range 4).filter fun k => bit (txEff i 0 s) (24 + k) && linkUp k s && aditPortOn k s
    retireFrames (s.setTx (s.adit.tx.erase f ++ [{ f with eligible := true, queued := ports }]))

/-- The bits a frame occupies a port for: with its padding, its preamble, FCS and inter-frame gap (R362; the lengths are IEEE 802.3's,
log 28). -/
def wireBits (len : Nat) : Nat := 8 * (max 60 len + 24)

/-- The time a frame occupies a port for, in ns, and a part of it as a whole one. -/
def wireTime (p len : Nat) : Nat := if p < 2 then (wireBits len + 9) / 10 else wireBits len

/-- Credit removed by a transmission: idleSlope less the port's rate, for its time (R362, R363). -/
def creditSpend (p c len : Nat) (s : State) : State :=
  let v := shaperOf p c s
  let n := divFree 7 (wireBits len * 65536 * (portRate p - idleSlope p c s)) (portRate p)
  setShaper p c { v with credit := v.credit - n, spent := v.spent + n } s

/-- Positive credit of a class with no frame waiting is set to 0 (R362, R363). -/
def creditReset (p c : Nat) (s : State) : State :=
  let v := shaperOf p c s
  if classWaits p c s ∨ v.credit ≤ 0 then s else setShaper p c { v with credit := 0, reset := v.reset + v.credit } s

/-- The frame a port selects: of class A, then of class B, in order of eligibility, each class with credit 0 or more (R361, R362). -/
def selectFrame (p : Nat) (s : State) : Option TxFrame :=
  let first (c : Nat) : Option TxFrame :=
    if (shaperOf p c s).credit < 0 then none
    else s.adit.tx.find? fun f => f.eligible && f.queued.contains p && decide (txClass f.stream s = c)
  match first 0 with
  | some f => some f
  | none => first 1

/-- A port's transmit FIFO (R361). -/
def txFifo (p : Nat) (s : State) : List TxItem := sparseGet [] s.adit.txFifo p

/-- The state with a port's transmit FIFO replaced. -/
def setTxFifo (p : Nat) (v : List TxItem) (s : State) : State :=
  { s with adit := { s.adit with txFifo := sparseSet [] s.adit.txFifo p v } }

/-- The bytes of a gPTP message's frame (IEEE 802.1AS; log 29). -/
def messageLength : PtpKind → Nat
  | .sync => 58 | .followUp => 90 | .announce => 90 | .pdelayReq _ => 68 | .pdelayResp _ => 68 | .pdelayRespFollowUp _ => 68

/-- The bytes an item takes of a transmit FIFO, which holds what is copied from Tallies (R361). -/
def TxItem.length : TxItem → Nat
  | .message _ => 0
  | .frame _ w => w.bytes.length

/-- A transmit FIFO of 16 KiB has room for `n` bytes more (R361). -/
def fifoRoom (p n : Nat) (s : State) : Bool := decide ((txFifo p s).foldl (fun k x => k + x.length) 0 + n ≤ 0x4000)

/-- A port copies the frame it selects from its Tallies into its transmit FIFO, as it will send it (R361, R364). -/
def copyFrame (p : Nat) (f : TxFrame) (s : State) : State :=
  let r := tallyRead p f.pool f.tallies (f.len + 1) 0 f.len s
  let wire : WireFrame := ⟨portBytes f.stream p (r.1.map (·.1)) r.2, !payloadPoison r.1⟩
  let s := r.2.setTx (changeFirst (fun g => decide (g.id = f.id)) (fun g => { g with queued := g.queued.erase p, sending := g.sending ++ [p] })
    r.2.adit.tx)
  setTxFifo p (txFifo p s ++ [.frame f.id wire]) s

/-- What a port has begun to send. -/
def txBegun (p : Nat) (s : State) : Option TxItem := sparseGet none s.adit.begun p

/-- The state with what a port has begun to send replaced. -/
def setBegun (p : Nat) (x : Option TxItem) (s : State) : State :=
  { s with adit := { s.adit with begun := sparseSet none s.adit.begun p x } }

/-- The first frame of a class in a port's transmit FIFO, which holds a class in order of eligibility. -/
def fifoFrame (p c : Nat) (s : State) : Option TxItem :=
  (txFifo p s).find? fun x => match x with
    | .message _ => false
    | .frame id _ => s.adit.tx.any fun f => decide (f.id = id) && decide (txClass f.stream s = c)

/-- What a port selects to send, in strict priority (R361): a gPTP message, then a frame of class A, then one of class B; a frame starts only under the
conditions of R351 and with a class credit of 0 or more (R362). -/
def txPick (p : Nat) (s : State) : Option TxItem :=
  let first (c : Nat) : Option TxItem := if !streamsRun s || decide ((shaperOf p c s).credit < 0) then none else fifoFrame p c s
  match s.adit.ptp.queue.find? (fun x => decide (x.1 = p)) with
  | some m => some (.message m.2)
  | none => match first 0 with
    | some x => some x
    | none => first 1

/-- A port that sends nothing begins with what it selects; a message leaves its queue. -/
def txBegin (p : Nat) (s : State) : State :=
  if (txBegun p s).isSome || !linkUp p s || !aditPortOn p s then s
  else match txPick p s with
    | some (.message k) =>
      let e := s.adit.ptp
      setBegun p (some (.message k)) { s with adit := { s.adit with ptp := { e with queue := e.queue.erase (p, k) } } }
    | x => setBegun p x s

/-- A port copies its next frame from its Tallies into its transmit FIFO (R361), before 664.5 µs only (R48) and under the conditions of R351, and sends
if it may; a read of its Tallies that waits for a hand-over holds the copy back (R295). `elapsed` is the time in ns, since the last report, without a transmission of the port. -/
def txFifoCopy (p elapsed : Nat) (s : State) : State :=
  let s := creditBoth p elapsed s
  if !aditPortOn p s then s
  else if s.ons.seg = .cutoff ∨ s.ons.seg = .lamp ∨ !streamsRun s then txBegin p s
  else match selectFrame p s with
    | none => txBegin p s
    | some f => txBegin p (if fifoRoom p f.len s && !portWaits p f.pool s then copyFrame p f s else s)

/-- A stream frame has left a port: it is counted, with POISON where its FCS is inverted, its class has spent its credit, and the other class has
earned meanwhile (R361, R362, R364). -/
def frameSent (p : Nat) (f : TxFrame) (w : WireFrame) (s : State) : State :=
  let pg := txsPage f.stream
  let c := txClass f.stream s
  let s := s.incReg pg (txsOff f.stream 0x20)
  let s := if w.fcsOk then s else (s.incSat pg (txsOff f.stream 0x24) 8 8).setEvt pg 2
  let s := s.setTx (changeFirst (fun g => decide (g.id = f.id)) (fun g => { g with sending := g.sending.erase p }) s.adit.tx)
  let s : State := { s with adit := { s.adit with wire := sparseSet none s.adit.wire p (some w) } }
  let s := creditTime p (1 - c) (wireTime p f.len) (creditSpend p c f.len s)
  retireFrames (creditReset p 1 (creditReset p 0 s))

/-- The transmission that a port has begun completes, a message with its timestamp (R348, R361), and the next one begins. -/
def txFrameDone (p : Nat) (time : Int) (s : State) : State :=
  let s := txBegin p s
  match txBegun p s with
  | none => s
  | some (.message k) => txBegin p (ptpSent p k time (creditBoth p (wireTime p (messageLength k)) (setBegun p none s)))
  | some (.frame id w) =>
    let s := setTxFifo p ((txFifo p s).erase (.frame id w)) (setBegun p none s)
    match s.adit.tx.find? (fun f => decide (f.id = id)) with
    | none => s
    | some f => txBegin p (frameSent p f w s)

/-- A FIFO without the frames of a test. -/
def fifoWithout (t : Nat → Bool) (q : List TxItem) : List TxItem := q.filter fun x => match x with
  | .message _ => true
  | .frame id _ => !t id

/-- A port has begun to send a frame. -/
def hasBegun (p id : Nat) (s : State) : Bool :=
  match txBegun p s with
  | some (.frame i _) => decide (i = id)
  | _ => false

/-- A frame that has not started on a port is removed from it as STALE: the first eligible one (R361). -/
def txFrameStale (p : Nat) (s : State) : State :=
  match s.adit.tx.find? (fun f => f.eligible && (f.queued.contains p || f.sending.contains p) && !hasBegun p f.id s) with
  | none => s
  | some f =>
    let s := (s.incSat (txsPage f.stream) (txsOff f.stream 0x24) 16 8).setEvt (pgAdt 6) 2
    let s := setTxFifo p (fifoWithout (fun id => decide (id = f.id)) (txFifo p s)) s
    retireFrames (s.setTx (changeFirst (fun g => decide (g.id = f.id))
      (fun g => { g with queued := g.queued.erase p, sending := g.sending.erase p }) s.adit.tx))

/-- What is queued on a port for transmission is removed (R347). -/
def clearPort (p : Nat) (s : State) : State :=
  let e := s.adit.ptp
  let s : State := { s with adit := { s.adit with ptp := { e with queue := e.queue.filter fun x => decide (x.1 ≠ p) } } }
  retireFrames ((setBegun p none (setTxFifo p [] s)).setTx (s.adit.tx.map fun f => { f with queued := f.queued.erase p, sending := f.sending.erase p }))

/-- A port's link goes down (R347, R349, R373): nothing stays queued on it, it is not asCapable, and what was heard on it lapses. -/
def linkGoesDown (p : Nat) (s : State) : State :=
  if !linkUp p s then s
  else
    let s := (s.setFld (pgAdt p) 0x050 31 1 0).setEvt (pgAdt p) 1
    setCapable p false (ptpForget p (clearPort p s))

/-- A port's link comes up. -/
def linkComesUp (p : Nat) (s : State) : State := if aditPortOn p s then s.setFld (pgAdt p) 0x050 31 1 1 else s

/-- The shaper ledgers' test at the Lamp check, and their restart (R363). -/
def shaperCheck (s : State) : State :=
  (List.range 8).foldl (fun s k =>
    let v := shaperOf (k / 2) (k % 2) s
    let ok := decide (v.credit = v.base + v.earned - v.spent - v.reset)
    let s := setShaper (k / 2) (k % 2) ⟨v.credit, v.credit, 0, 0, 0⟩ s
    if ok then s else enterSafe .shaperFault 154 (s.setEvt (pgAdt 6) 1)) s

/-- Some receive copy is in progress (R371). -/
def copyBusy (q : Nat) (s : State) : Bool :=
  (List.range 4).any fun p => match (s.rxPort p).head with
    | .copying _ x _ => decide (x = q)
    | _ => false

/-- The Lamp check of the pools, then the credits, then the shaper ledgers (R371, R372, R311, R363). -/
def lampCheck (s : State) : State :=
  let s := (List.range 4).foldl (fun s q => lampCheckPool q (copyBusy q s) s) s
  shaperCheck (creditCheck s)

/-! ### The boundary -/

/-- Frames and requests of the holders that a test names are discarded, and their Tallies released (R370). -/
def dropHolders (q : Nat) (p : Nat → Bool) (s : State) : State :=
  let gone := s.adit.frames.filter fun f => decide (f.pool = q) && p f.stream
  let s := gone.foldl (fun s f => release f.pool f.stream f.tallies s) s
  let s := { s with adit := { s.adit with frames := s.adit.frames.filter fun f => !(decide (f.pool = q) && p f.stream) } }
  let out := s.adit.tx.filter fun f => decide (f.pool = q) && p (256 + f.stream)
  let s := out.foldl (fun s f => release f.pool (256 + f.stream) f.tallies s) s
  let gone (id : Nat) : Bool := out.any fun f => decide (f.id = id)
  let s := (List.range 4).foldl (fun s k =>
    setBegun k ((txBegun k s).filter fun x => !(fifoWithout gone [x]).isEmpty) (setTxFifo k (fifoWithout gone (txFifo k s)) s)) s
  let s := s.setTx (s.adit.tx.filter fun f => !(decide (f.pool = q) && p (256 + f.stream)))
  let s := (List.range 4).foldl (fun s k =>
    let v := s.rxPort k
    match v.head with
    | .copying f x ts => if x = q ∧ p f.stream then release q f.stream ts (s.setRxPort k { v with head := .none }) else s
    | .waiting f => if (s.pool q).queue.any (fun r => decide (r.port = some k)) ∧ p f.stream then s.setRxPort k { v with head := .none } else s
    | .none => s) s
  s.setPool q { s.pool q with queue := (s.pool q).queue.filter fun r => !p r.holder }

/-- A pool at a boundary (R365, R370): its ENABLE taking effect. -/
def poolBoundary (q : Nat) (s : State) : State :=
  match poolNext q s with
  | none => refuseWrite (pgTly q) 0x040 0x42 s
  | some v =>
    if v.active = (s.pool q).active then s
    else (if v.active then s else dropHolders q (fun _ => true) s).setPool q v

/-- Counters of an entry cleared as its EN takes effect as 1 (R373). -/
def clearCounters (pg : Nat) (offs : List Nat) (s : State) : State := offs.foldl (fun s off => s.setReg pg off 0) s

/-- The boundary at the streams and pools. `was` is the state before the registers took effect; `grid` the grid shift number of
the shift that begins (R350, R365, R370, R373). -/
def streamsBoundary (was : State) (grid : Int) (s : State) : State :=
  let changed := decide (rate96 was ≠ rate96 s)
  let lost (h : Nat) : Bool := changed || (bit (holderCtl h was) 31 && !bit (holderCtl h s) 31)
  let s := (List.range 4).foldl (fun s q => dropHolders q lost s) s
  let s := (List.range 4).foldl (fun s q => poolBoundary q s) s
  let s := (List.range 256).foldl (fun s i =>
    if bit (rxEff i 0 s) 31 && !bit (rxEff i 0 was) 31 then
      clearCounters (rxsPage i) [rxsOff i 0x18, rxsOff i 0x1C, rxsOff i 0x20, rxsOff i 0x24] s else s) s
  let s := (List.range 128).foldl (fun s i =>
    if bit (txEff i 0 s) 31 && !bit (txEff i 0 was) 31 then
      clearCounters (txsPage i) [txsOff i 0x20, txsOff i 0x24, txsOff i 0x28] s else s) s
  let s : State := { s with adit := { s.adit with grid := grid } }
  pumpPools (ptpUpdate (ptpTime grid s))

/-- Frames that stayed in a port's FIFO over the end of the last shift are copied after the boundary (R48). -/
def pumpPorts (s : State) : State := (List.range 4).foldl (fun s p => pumpRx p s) s

end Sys2Proof.Machine
end

