-- ==== Sys2Proof/Machine/Debug.lean ====
section
/-!
DEFINITION. Sys2Proof/Machine/Debug.lean: the debug port apart from its bus accesses and fed bundles (R420–R427, R431–R435) and the
performance counters (R436–R441).
-/

namespace Sys2Proof.Machine

/-! ### Levels and halt -/

/-- HALT_PENDING and LEVEL of DBG_STAT (R435). -/
def haltPending (s : State) : Bool := bit (s.reg pgDbg 0x040) 30
def debugLevel (s : State) : Nat := s.getFld pgDbg 0x040 0 2

/-- A debugger is attached (R425). -/
def attached (s : State) : Bool := decide (debugLevel s = 1) || decide (debugLevel s = 2)

/-! ### Performance counters -/

/-- Programmable counters of a PMC_ page (R440). -/
def pmcK (i : Nat) : Nat := if 1 ≤ i ∧ i ≤ 32 then 8 else if 33 ≤ i ∧ i ≤ 36 then 4 else 0

/-- The clock of a unit with counters runs and counting is not frozen (R436, R438). -/
def pmcRuns (i : Nat) (s : State) : Bool :=
  !pmcFrozen s && !halted s && pageOn (pgPmc i) s
    && (match s.life.phase with | .running => true | .booting => true | _ => false)

/-- Counter `k` counts (R436, R440). -/
def pmcCounts (i k : Nat) (s : State) : Bool :=
  let sel := s.reg (pgPmc i) (0x060 + 4 * k)
  pmcRuns i s && bit sel 31 && decide (fld sel 0 8 ≠ 0)

/-- The events whose occurrences are commands of this model, so that SUM counts them exactly; every other count is open (log 48). -/
def pmcExact (sel : W32) : Bool :=
  decide (fld sel 16 2 = 0) && decide (fld sel 0 8 ∈ [0x01, 0x02, 0x03, 0x06, 0x07, 0x08, 0x09, 0x0A, 0x0B, 0x0C, 0x0D, 0x10, 0x11, 0x12, 0x13, 0x14, 0x15, 0x16])

/-- The 48 bits of a counter. -/
def pmcValue (i k : Nat) (s : State) : Nat :=
  (s.reg (pgPmc i) (0x080 + 8 * k)).toNat + s.getFld (pgPmc i) (0x084 + 8 * k) 0 16 * 2 ^ 32

/-- The 48 bits of a counter set. -/
def pmcSet (i k v : Nat) (s : State) : State :=
  (s.setReg (pgPmc i) (0x080 + 8 * k) (w32 v)).setReg (pgPmc i) (0x084 + 8 * k) (w32 (v / 2 ^ 32 % 0x10000))

/-- A counter as it stands: one whose count is open has advanced by a free amount, short of a wrap. -/
def pmcAdvance (i k : Nat) (s : State) : State :=
  if pmcCounts i k s && !pmcExact (s.reg (pgPmc i) (0x060 + 4 * k)) then
    let v := pmcValue i k s
    let r := freeBelow (2 ^ 48 - v) s
    pmcSet i k (v + r.1) r.2
  else s

/-- The fixed counter as it stands (R436): cycles are open. -/
def pmcCycle (i : Nat) (s : State) : State :=
  if pmcRuns i s then
    let p := pgPmc i
    let v := (s.reg p 0x040).toNat + (s.reg p 0x044).toNat * 2 ^ 32
    let r := freeBelow (2 ^ 64 - v) s
    (r.2.setReg p 0x040 (w32 (v + r.1))).setReg p 0x044 (w32 ((v + r.1) / 2 ^ 32))
  else s

/-- Every counter as it stands. -/
def pmcAdvanceAll (s : State) : State :=
  (List.range 36).foldl (fun s i => (List.range (pmcK (i + 1))).foldl (fun s k => pmcAdvance (i + 1) k s) (pmcCycle (i + 1) s)) s

/-- FREEZE set, with FROZEN, at the counters as they stand (R438, R441). -/
def pmcFreeze (s : State) : State :=
  if pmcFrozen s then s else ((pmcAdvanceAll s).setFld (pgPmc 0) 0x040 0 1 1).setFld (pgPmc 0) 0x040 8 1 1

/-- A counter wraps (R437, R438). -/
def pmcOverflow (i k : Nat) (s : State) : State :=
  let s := s.setEvt (pgPmc i) (k + 1)
  if bit (s.reg (pgPmc 0) 0x040) 4 then pmcFreeze s else s

/-- The events marked T, which count for the threads set in THREADS (R436). -/
def threadEvent (code : Nat) : Bool := decide (code ∈ [0x01, 0x02, 0x05, 0x0A, 0x0B, 0x0D])

/-- `n` occurrences of an event at a unit, in thread `t` (R436). -/
def pmcEvent (i code n t : Nat) (s : State) : State :=
  (List.range (pmcK i)).foldl (fun s k =>
    let sel := s.reg (pgPmc i) (0x060 + 4 * k)
    if pmcCounts i k s && pmcExact sel && decide (fld sel 0 8 = code) && (!threadEvent code || bit sel (24 + t)) then
      let v := pmcValue i k s + n
      let s := pmcSet i k (v % 2 ^ 48) s
      if 2 ^ 48 ≤ v then pmcOverflow i k s else s
    else s) s

/-- The PMC_ instance of a core. -/
def pmcOfHart (h : Hart) : Nat := 1 + h.core.val

/-- A counter wraps to 0 (R437). -/
def pmcWrap (i k : Nat) (s : State) : State :=
  if k < pmcK i ∧ pmcCounts i k s then pmcOverflow i k (pmcSet i k 0 s) else s

/-- A write of PMC_CNTk_LO or PMC_CNTk_HI (R437). -/
def pmcWrite (i k : Nat) (hi : Bool) (data : W32) (s : State) : State :=
  let key := 8 * i + k
  if hi then { s with pmcHeld := sparseSet none s.pmcHeld key (some (data &&& 0xFFFF#32)) }
  else
    let top := match sparseGet none s.pmcHeld key with
      | some v => v.toNat
      | none => s.getFld (pgPmc i) (0x084 + 8 * k) 0 16
    pmcSet i k (data.toNat + top * 2 ^ 32) { s with pmcHeld := sparseSet none s.pmcHeld key none }

/-- A code that a unit counts (R436). -/
def pmcCodeOk (i code : Nat) : Bool :=
  decide (code = 0) || decide (code = 3)
    || (decide (i ≤ 32) && decide (code ≤ 0x0F))
    || (decide (33 ≤ i) && decide (i ≤ 35) && decide (code ∈ [0x01, 0x02, 0x04, 0x05, 0x06, 0x09, 0x0A, 0x0B, 0x0F, 0x10, 0x11, 0x12]))
    || (decide (i = 36) && decide (code ∈ [0x13, 0x14, 0x15, 0x16]))

/-- A write of PMC_SELk (R436, R440). -/
def pmcSelWrite (i k : Nat) (data : W32) (s : State) : State :=
  let off := 0x060 + 4 * k
  if fld data 16 2 = 3 ∨ !pmcCodeOk i (fld data 0 8) then refuseWrite (pgPmc i) off 0x06 s
  else (pmcAdvance i k s).setReg (pgPmc i) off (data &&& 0x8F03FFFF#32)

/-- The counters of a unit copied into its snapshot registers (R438, R440). -/
def pmcSnapUnit (i : Nat) (s : State) : State :=
  let p := pgPmc i
  if pageOn p s then
    let s := pmcCycle i s
    let s := (s.setReg p 0x100 (s.reg p 0x040)).setReg p 0x104 (s.reg p 0x044)
    (List.range (pmcK i)).foldl (fun s k =>
      let s := pmcAdvance i k s
      (s.setReg p (0x110 + 8 * k) (s.reg p (0x080 + 8 * k))).setReg p (0x114 + 8 * k) (s.reg p (0x084 + 8 * k))) s
  else
    let s := (s.setReg p 0x100 0).setReg p 0x104 0
    (List.range (pmcK i)).foldl (fun s k => (s.setReg p (0x110 + 8 * k) 0).setReg p (0x114 + 8 * k) 0) s

/-- SNAP (R438); the copy is complete when the command has ended (log 48). -/
def pmcSnap (s : State) : State := (List.range 36).foldl (fun s i => pmcSnapUnit (i + 1) s) s

/-- A write of PMC_GLOBAL (R438, R441). -/
def pmcGlobalWrite (data : W32) (s : State) : State :=
  let old := s.reg (pgPmc 0) 0x040
  let s := if bit data 0 && !bit old 0 then pmcAdvanceAll s else s
  let s := s.setReg (pgPmc 0) 0x040 ((data &&& 0x31#32) ||| (if bit data 0 then 0x100 else 0))
  if bit data 1 then pmcSnap s else s

/-- The monitor of a port (R439); none for a port that does not exist. -/
def bwMonitor (port : BwPort) (n : Nat) : Option Nat :=
  match port with
  | .stope => if n < 16 then some n else none
  | .adit => if n < 4 then some (16 + n) else none
  | .face => if n < 32 then some (20 + n) else none

/-- A bandwidth monitor's window ends, with the bytes it has counted, and the next one starts (R439, R441). -/
def bwWindowEnd (m : Nat) (s : State) : State :=
  let p := pgPmc 37
  let cfg := s.reg p (0x100 + 8 * m)
  if !bit cfg 31 || pmcFrozen s || halted s then s
  else
    let last := min 0xFFFFFFFF (sparseGet 0 s.dbg.bytes m)
    let s := { s with dbg := { s.dbg with bytes := sparseSet 0 s.dbg.bytes m 0 } }
    let s := s.setReg p (0x104 + 8 * m) (w32 last)
    let limit := fld cfg 16 13
    if limit ≠ 0 ∧ limit * 0x100000 < last then (s.setFld p (0x040 + 4 * (m / 32)) (m % 32) 1 1).setEvt p 1 else s

/-- A write of PMC_BWm_CFG (R439, R441). -/
def bwCfgWrite (m : Nat) (data : W32) (s : State) : State :=
  let off := 0x100 + 8 * m
  let filter := fld data 29 2
  if (bit data 31 && decide (fld data 0 16 = 0)) || decide (filter = 3) || (decide (16 ≤ m) && decide (m < 20) && decide (filter ≠ 0)) then
    refuseWrite (pgPmc 37) off 0x06 s
  else
    let starts := bit data 31 && !bit (s.reg (pgPmc 37) off) 31
    let s := s.setReg (pgPmc 37) off data
    if starts then { s with dbg := { s.dbg with bytes := sparseSet 0 s.dbg.bytes m 0 } } else s

/-! ### Halt and authorisation -/

/-- A halt is requested (R426); the caller has looked at LEVEL. -/
def haltAsk (s : State) : State :=
  if halted s || haltPending s then s else (s.setFld pgDbg 0x040 30 1 1).setFld pgDbg 0x080 0 1 1

/-- A halt is requested, at FULL only (R426). -/
def haltRequest (s : State) : State := if debugLevel s = 2 then haltAsk s else s

/-- A thread may stop here: between bundles, outside a locked sequence and not between REP iterations, with no access held and no
bundle waiting for a repair (R427). -/
def threadStops (t : Thread) : Bool :=
  decide (t.lock.bundles = 0) && (match t.hold with | .access _ => false | .panel _ _ => false | _ => true)
    && (match t.rep with | some r => decide (r.kind ≠ .rep) || r.fresh | none => true)

/-- All threads and cores have stopped, and the clocks stop together (R427); `elapsed` is WDG_STAT.ELAPSED at that cycle (R412). -/
def haltComplete (elapsed : Nat) (s : State) : State :=
  if !haltPending s || decide (s.life.phase = .asserted) || !(s.threads.all fun x => !x.2.running || threadStops x.2) then s
  else
    let s := ((pmcAdvanceAll s).setFld pgDbg 0x040 30 1 0).setFld pgDbg 0x040 31 1 1
    if watchdogCounts s then s.setFld pgWdg 0x050 0 20 (min elapsed (s.getFld pgWdg 0x040 0 20)) else s

/-- The watchdog at the release of a halt (R412). -/
def watchdogGrace (s : State) : State :=
  let t := s.getFld pgWdg 0x040 0 20
  let g := s.getFld pgWdg 0x048 0 20
  if watchdogCounts s && decide (t < s.getFld pgWdg 0x050 0 20 + g) then s.setFld pgWdg 0x050 0 20 (t - g) else s

/-- A halt ends, or a request for one is dropped (R431); `long`: it lasted more than 10 µs. -/
def haltRelease (long : Bool) (s : State) : State :=
  let was := halted s
  let s := ((s.setFld pgDbg 0x040 30 2 0).setFld pgDbg 0x080 0 1 0)
  if !was then s
  else
    let s := watchdogGrace (s.setEvt pgDbg 4)
    if long && decide (mclkState s = 2) then mclkEnter .pullIn s else s

/-- A halt ends by a write or a fall of LEVEL, which do not say how long it lasted: open, where it matters (R431, log 2). -/
def haltReleaseNow (s : State) : State :=
  if halted s && decide (mclkState s = 2) then
    let r := freeBelow 2 s
    haltRelease (decide (r.1 = 1)) r.2
  else haltRelease false s

/-- LEVEL set, with ATTACHED and LEVEL_CHANGE (R425); a fall below FULL ends a halt (R431). -/
def setLevel (x : Nat) (s : State) : State :=
  if debugLevel s = x then s
  else
    let s := ((s.setFld pgDbg 0x040 0 2 x).setFld pgDbg 0x040 29 1 (b2n (decide (x ≠ 0)))).setEvt pgDbg 3
    if x ≠ 2 ∧ (halted s ∨ haltPending s) then haltReleaseNow s else s

/-- The nonce of a challenge (R424): four words from the random source. -/
def drawNonce (s : State) : State :=
  (List.range 4).foldl (fun s i =>
    let r := freeBelow (2 ^ 32) s
    r.2.setReg pgDbg (0x048 + 4 * i) (w32 r.1)) s

/-- DBG_NONCE0–3 cleared (R424). -/
def clearNonce (s : State) : State := (List.range 4).foldl (fun s i => s.setReg pgDbg (0x048 + 4 * i) 0) s

/-- DBG_STAT.AUTH_STATE set. -/
def setAuthState (x : Nat) (s : State) : State := s.setFld pgDbg 0x040 4 2 x

/-- A request for a level (R424, R425). -/
def authRequest (level : Nat) (s : State) : State :=
  let s := s.setReg pgDbg 0x044 (w32 (level % 4))
  if bit (s.reg pgDbg 0x040) 26 || (decide (level = 2) && bit (s.reg pgDbg 0x040) 28) then setAuthState 2 s
  else if level ≤ debugLevel s then setLevel level (setAuthState 0 (clearNonce s))
  else setAuthState 1 (drawNonce s)

/-- The response that the fused key gives to the challenge (R424). -/
def expectedResponse (s : State) : List Byte :=
  hmacSha256 ((List.range 32).map Config.debugKey)
    ((List.range 4).flatMap (fun i => bytesOf 4 (s.reg pgDbg (0x048 + 4 * i)).toNat) ++ [(s.reg pgDbg 0x044).truncate 8])

/-- The comparison that a write of DBG_RESP7 makes (R424, R425); without a challenge there is none. -/
def responseCompare (s : State) : State :=
  if s.getFld pgDbg 0x040 4 2 ≠ 1 then s
  else
    let given := (List.range 8).flatMap fun i => bytesOf 4 (sparseGet 0 s.dbg.resp i).toNat
    let ok := decide (given = expectedResponse s)
    let s := setAuthState 0 (clearNonce s)
    if ok then setLevel (s.getFld pgDbg 0x044 0 2) (s.setFld pgDbg 0x040 24 2 0)
    else
      let fails := min 3 (s.getFld pgDbg 0x040 24 2 + 1)
      let s := s.setFld pgDbg 0x040 24 2 fails
      setLevel 0 (if fails = 3 then s.setFld pgDbg 0x040 26 1 1 else s)

/-! ### Terminal and trace -/

/-- A bus write of DBG_TXD (R433). -/
def txdWrite (data : W32) (s : State) : State :=
  if bit (s.reg pgDbg 0x0A8) 0 then refuseWrite pgDbg 0x0A0 0x41 s
  else (s.setReg pgDbg 0x0A0 data).setFld pgDbg 0x0A8 0 1 1

/-- TX_ACK written 1 (R433). -/
def txAck (s : State) : State :=
  if bit (s.reg pgDbg 0x0A8) 0 then (s.setFld pgDbg 0x0A8 0 1 0).setEvt pgDbg 2 else s

/-- RX_ACK written 1 (R433). -/
def rxAck (s : State) : State := s.setFld pgDbg 0x0A8 1 1 0

/-- A DWRITE of DBG_RXD (R433); none: FAULT. -/
def rxdWrite (data : W32) (s : State) : Option State :=
  if bit (s.reg pgDbg 0x0A8) 1 then none
  else some (((s.setReg pgDbg 0x0A4 data).setFld pgDbg 0x0A8 1 1 1).setEvt pgDbg 1)

/-- One entry of the trace (R434, R435), at a step of the shift timer. -/
def traceOne (step e : Nat) (level : Bool) (s : State) : State :=
  let c := s.reg pgDbg 0x0B4
  if !bit c 31 || decide (e < fld c 13 9) || decide (fld c 22 9 < e) then s
  else if 64 ≤ s.dbg.trace.length then s.incSat pgDbg 0x0B4 0 8
  else
    let v : W32 := w32 (0x80000000 + b2n level * 0x40000000 + e * 0x200000 + fld (shiftNo s) 0 10 * 0x800 + step / 512)
    { s with dbg := { s.dbg with trace := s.dbg.trace ++ [v] } }

/-- The changes between two sets of asserted sources, recorded in ascending order as those of one cycle, whose step is open within the
present part of the shift (R434, log 47). -/
def traceChanges (before after : List Nat) (s : State) : State :=
  let changed := (before.filter fun e => !after.contains e).foldl (fun acc e => insertRising e acc)
    (after.filter fun e => !before.contains e)
  if changed.isEmpty || !bit (s.reg pgDbg 0x0B4) 31 then s
  else
    let r := stepNow s
    changed.foldl (fun s e => traceOne r.1 e (after.contains e) s) r.2

/-- A read of DBG_TRACE: the oldest entry, removed at the normal offset (R434). -/
def traceRead (peek : Bool) (s : State) : W32 × State :=
  match s.dbg.trace with
  | [] => (0, s)
  | v :: rest => (v, if peek then s else { s with dbg := { s.dbg with trace := rest } })

/-! ### DBG_ registers -/

/-- DBG_FEED_SEL names a thread (R435). -/
def feedSelOk (data : W32) : Bool :=
  if bit data 7 then decide (fld data 2 5 < 3) && decide (fld data 0 2 < 2) else true

/-- A read of a DBG_ register at 0x040 and above. -/
def dbgRead (off : Nat) (peek : Bool) (s : State) : W32 × State :=
  if off = 0x0B0 then traceRead peek s
  else if 0x060 ≤ off ∧ off < 0x080 then (0, s)
  else (s.reg pgDbg off, s)

/-- A write of a DBG_ register at 0x040 and above by the wire, or by 0xFE on the bus (R424–R435); none: FAULT. A GO of the feed
leaves GO at 1 for the core to execute. -/
def dbgWrite (off : Nat) (data : W32) (s : State) : Option State :=
  if off = 0x044 then (if fld data 0 2 = 3 then none else some (authRequest (fld data 0 2) s))
  else if 0x060 ≤ off ∧ off < 0x080 then
    let s := { s with dbg := { s.dbg with resp := sparseSet 0 s.dbg.resp ((off - 0x060) / 4) data } }
    some (if off = 0x07C then responseCompare s else s)
  else if off = 0x080 then
    let s := s.setReg pgDbg 0x080 ((s.reg pgDbg 0x080 &&& ~~~0x70#32) ||| (data &&& 0x70#32))
    let s := if bit data 1 then haltReleaseNow s else s
    some (if bit data 0 then haltRequest s else s)
  else if off = 0x084 then (if feedSelOk data then some (s.setReg pgDbg 0x084 (data &&& 0xFF#32)) else none)
  else if 0x088 ≤ off ∧ off < 0x09C then some (s.setReg pgDbg off data)
  else if off = 0x09C then (if bit data 31 then (if halted s then some (s.setFld pgDbg 0x09C 31 1 1) else none) else some s)
  else if off = 0x0A0 then some (txdWrite data s)
  else if off = 0x0A4 then rxdWrite data s
  else if off = 0x0A8 then
    let s := if bit data 8 then txAck s else s
    some (if bit data 9 then rxAck s else s)
  else if off = 0x0B4 then
    some (s.setReg pgDbg 0x0B4 ((data &&& 0xFFFFE000#32) ||| (if bit data 31 then 0 else s.reg pgDbg 0x0B4 &&& 0xFF#32)))
  else some s

/-- A bus write of the DBG_ page at 0x040 and above (R435): masters other than 0xFE reach DBG_TXD and RX_ACK only. -/
def dbgBusWrite (m : Byte) (off : Nat) (data : W32) (s : State) : State :=
  if m = 0xFE then (dbgWrite off data s).getD s
  else if off = 0x0A0 then txdWrite data s
  else if off = 0x0A8 then
    if bit data 9 && !bit data 8 then rxAck s
    else
      let s := refuseWrite pgDbg off 0x40 s
      if bit data 9 then rxAck s else s
  else if (findDesc .dbg off).isSome then refuseWrite pgDbg off 0x40 s
  else s

/-- The level that a local request of the wire needs (R423): 0 NONE, 1 OBSERVE, 2 FULL; none: no level permits it. -/
def wireNeeds (write : Bool) (off : Nat) : Option Nat :=
  let o := if 0x800 ≤ off then off - 0x800 else off
  if write then
    if 0x800 ≤ off then none
    else if o = 0x044 ∨ (0x060 ≤ o ∧ o < 0x080) then some 0
    else if o = 0x0A8 ∨ o = 0x0B4 then some 1
    else if o = 0x080 ∨ (0x084 ≤ o ∧ o < 0x0A0) ∨ o = 0x0A4 then some 2
    else none
  else if o = 0 ∨ o = 0x040 ∨ o = 0x044 ∨ (0x048 ≤ o ∧ o < 0x058) then some 0
  else some 1

/-- An offset that DREAD and DWRITE reach (R420). -/
def wireReaches (off : Nat) : Bool :=
  decide (off % 4 = 0) && (decide (off = 0) || decide (off = 0x800) || (decide (0x040 ≤ off) && decide (off < 0x100))
    || (decide (0x840 ≤ off) && decide (off < 0x900)))

/-- The ACK codes of R421. -/
inductive Ack where
  | ok | wait | fault | denied | crc | poison
  deriving DecidableEq, Repr

def ackCode : Ack → BitVec 3
  | .ok => 0b001 | .wait => 0b010 | .fault => 0b011 | .denied => 0b100 | .crc => 0b101 | .poison => 0b110

/-- The device's response on the wire. -/
def wireReply (a : Ack) (data : Option W32) (s : State) : State :=
  { s with dbg := { s.dbg with wire := some ⟨ackCode a, data⟩ } }

/-- BLK_ID of a page (R30, R35). -/
def blkId (p : Nat) : W32 :=
  match pageKind p with
  | some (k, i) => w32 (typeCode k * 0x100000 + i * 0x1000 + Config.revision)
  | none => 0

/-- A DREAD (R420, R421, R423). -/
def wireRead (off : Nat) (s : State) : State :=
  if !wireReaches off then wireReply .fault none s
  else match wireNeeds false off with
    | none => wireReply .denied none s
    | some n =>
      if debugLevel s < n then wireReply .denied none s
      else if off % 0x800 = 0 then wireReply .ok (some (blkId pgDbg)) s
      else
        let r := dbgRead (off % 0x800) (decide (0x800 ≤ off)) s
        wireReply .ok (some r.1) r.2

/-- A DWRITE (R420, R421, R423); of DBG_TERM it reaches TX_ACK. -/
def wireWrite (off : Nat) (data : W32) (s : State) : State :=
  if !wireReaches off then wireReply .fault none s
  else match wireNeeds true off with
    | none => wireReply .denied none s
    | some n =>
      if debugLevel s < n then wireReply .denied none s
      else match dbgWrite off (if off = 0x0A8 then data &&& 0x100#32 else data) s with
        | none => wireReply .fault none s
        | some s => wireReply .ok none s

end Sys2Proof.Machine
end

