-- ==== Sys2Proof/Machine/Ports.lean ====
section
/-!
DEFINITION. Sys2Proof/Machine/Ports.lean: the xSPI controller (R462, R463) and the PCIe host port apart from its BAR accesses
(R464–R466, R481).
-/

namespace Sys2Proof.Machine

/-! ### xSPI -/

/-- XSP_STAT.STATE: 0 IDLE, 1 COMMAND, 2 POLLING (R463). -/
def xspState (s : State) : Nat := s.getFld pgXsp 0x054 30 2

/-- The controller ends its command (R462). -/
def xspIdle (s : State) : State := ((s.setFld pgXsp 0x054 30 2 0).setFld pgXsp 0x048 31 1 0).setEvt pgXsp 1

/-- A write of XSP_CMD while IDLE (R462, R463). -/
def xspCommand (data : W32) (s : State) : State :=
  if fld data 28 2 = 3 then refuseWrite pgXsp 0x048 0x06 s
  else
    let s := s.setReg pgXsp 0x048 (data &&& 0xF81F00FF#32)
    if bit data 31 then s.setFld pgXsp 0x054 30 2 1 else s

/-- Buffer bytes 4k to 4k + 3 from the bytes that the flash sent, below LEN (R462 step 4). -/
def xspFill (read : List Byte) (s : State) : State :=
  let n := s.getFld pgXsp 0x050 0 9
  (List.range 64).foldl (fun s k =>
    (List.range 4).foldl (fun s b =>
      if 4 * k + b < n then s.setFld pgXsp (0x100 + 4 * k) (8 * b) 8 (read.getD (4 * k + b) 0).toNat else s) s) s

/-- What the command has moved (R462 step 4): into the buffer what the flash sent, for DIR READ. -/
def xspMoved (read : List Byte) (s : State) : State := if s.getFld pgXsp 0x048 28 2 = 1 then xspFill read s else s

/-- The flash bytes that the command's opcode has changed. -/
def flashChanged (changed : List (Nat × Byte)) (s : State) : State :=
  s.setMem { s.mem with flash := changed.foldl (fun m x =>
    if x.1 < 0x10000000 then sparseSet flashBlank m x.1 x.2 else m) s.mem.flash }

/-- The controller reads the flash's status byte (R462 step 5); at the first read step 4 is over (log 101). -/
def xspPoll (x : FlashStatus) (s : State) : State :=
  if xspState s = 0 ∨ !bit (s.reg pgXsp 0x048) 30 ∨ (xspState s = 2 ∧ !bit (s.reg pgXsp 0x054) 0) then s
  else
    let s := flashChanged x.changed (if xspState s = 2 then s else xspMoved x.sent s)
    (s.setFld pgXsp 0x054 30 2 2).setFld pgXsp 0x054 0 8 x.byte.toNat

/-- A poll reaches LIMIT × 10 ms (R462). -/
def xspTimeout (s : State) : State :=
  if xspState s = 2 ∧ bit (s.reg pgXsp 0x054) 0 then ((xspIdle s).setFld pgXsp 0x054 29 1 1).setEvt pgXsp 2 else s

/-- The command completes (R462); one with POLL has moved its bytes before its first status read. -/
def xspDone (read : List Byte) (changed : List (Nat × Byte)) (s : State) : State :=
  let cmd := s.reg pgXsp 0x048
  let polled := bit cmd 30
  if xspState s = 0 ∨ (polled ∧ (xspState s = 1 ∨ bit (s.reg pgXsp 0x054) 0)) then s
  else
    let s := flashChanged changed (if polled then s else xspMoved read s)
    xspIdle (if polled then s.setFld pgXsp 0x054 29 1 0 else s)

/-- A write of an XSP_ register by a permitted master, once the lock and GATED_FIELD have been looked at (R463). -/
def xspWrite (off : Nat) (data : W32) (s : State) : State :=
  if off = 0x040 then
    (if fld data 24 8 = 0 then refuseWrite pgXsp off 0x06 s
     else s.setReg pgXsp off ((data &&& 0xFFFF0002#32) ||| (s.reg pgXsp off &&& 1#32)))
  else if off = 0x044 then
    (if fld data 0 5 < 16 ∨ 28 < fld data 0 5 then refuseWrite pgXsp off 0x06 s else s.setReg pgXsp off (data &&& 0x1F#32))
  else if off = 0x054 then s
  else if xspState s ≠ 0 then refuseWrite pgXsp off 0x41 s
  else if off = 0x048 then xspCommand data s
  else if off = 0x050 then (if 256 < fld data 0 9 then refuseWrite pgXsp off 0x06 s else s.setReg pgXsp off (data &&& 0x1FF#32))
  else s.setReg pgXsp off data

/-! ### PCIe -/

/-- A configuration register as written (by byte offset of its dword). -/
def State.pciCfg (s : State) (off : Nat) : W32 := sparseGet 0 s.pci.cfg off

/-- The state with a configuration register set. -/
def State.setPciCfg (s : State) (off : Nat) (v : W32) : State := { s with pci := { s.pci with cfg := sparseSet 0 s.pci.cfg off v } }

/-- The dwords of the capabilities (log 46): power management's control, MSI's control and mask, the first of the PCI Express capability, its
Device Control and Status, and of Advanced Error Reporting, which extended configuration space begins with, its error statuses. -/
def pmControl : Nat := 0x44 + Config.pmOffset / 4 * 4
def msiControl : Nat := 0x40 + Config.msiOffset / 4 * 4
def msiMask : Nat := msiControl + 0x10
def expressCap : Nat := 0x40 + Config.expressOffset / 4 * 4
def deviceControl : Nat := expressCap + 8
def aerUncorrectable : Nat := 0x104
def aerCorrectable : Nat := 0x110

/-- MSI Enable, the log2 of the vectors allocated, and the mask of a vector. -/
def msiEnabled (s : State) : Bool := bit (s.pciCfg msiControl) 16
def msiAlloc (s : State) : Nat := min 5 (fld (s.pciCfg msiControl) 20 3)
def msiMasked (v : Nat) (s : State) : Bool := bit (s.pciCfg msiMask) v

/-- The function is in D3hot. -/
def pciD3 (s : State) : Bool := decide (fld (s.pciCfg pmControl) 0 2 = 3)

/-- The writable bits of a configuration register; none where the model follows none (log 46). -/
def pciWritable (off : Nat) : Option W32 :=
  if off = 0x04 then some 0x0546 else if off = 0x0C then some 0xFF else if off = 0x10 then some 0xFF000000
  else if off = 0x18 then some 0xFC000000 else if off = 0x1C then some 0xFFFFFFFF else if off = 0x3C then some 0xFF
  else if off = pmControl then some 0x3 else if off = msiControl then some 0x00710000 else if off = msiMask then some 0xFFFFFFFF
  else if off = msiControl + 4 then some 0xFFFFFFFC else if off = msiControl + 8 then some 0xFFFFFFFF
  else if off = msiControl + 0xC then some 0xFFFF else if off = deviceControl then some 0x70EF else if off = expressCap + 0x10 then some 0x00C8
  else if off = aerUncorrectable ∨ off = aerCorrectable then some 0
  else if off = aerUncorrectable + 4 ∨ off = aerUncorrectable + 8 ∨ off = aerCorrectable + 4 then some 0xFFFFFFFF
  else none

/-- The bits of a configuration register that a write of 1 clears: the error statuses. -/
def pciCleared (off : Nat) : W32 :=
  if off = deviceControl then 0x000F0000 else if off = aerUncorrectable ∨ off = aerCorrectable then 0xFFFFFFFF else 0

/-- What a configuration register holds from a reset of the port on: a Max_Read_Request_Size of 512 bytes, and the severities and the mask of PCI
Express (PRESUMED, log 46). -/
def pciInitial (off : Nat) : W32 :=
  if off = deviceControl then 0x2000 else if off = aerUncorrectable + 8 then 0x00062030 else if off = aerCorrectable + 4 then 0x2000 else 0

/-- A configuration register with what it holds from a reset on. -/
def pciHeld (off : Nat) (s : State) : W32 := s.pciCfg off ^^^ pciInitial off

/-- What a configuration read returns (R464): the header, the capabilities by their identities (PRESUMED of PCI Express, log 46), an endpoint with a
Max_Payload_Size of 256 bytes, without ASPM; what the manual does not describe is constant and free (log 46). -/
def pciConfigRead (off : Nat) (s : State) : W32 :=
  let v := pciHeld off s
  let c := Config.pciConstant off
  if off = 0x00 then s.reg pgPci 0x040
  else if off = 0x04 then v ||| 0x00100000#32
  else if off = 0x08 then w32 (0x04010000 + Config.revision % 256)
  else if off = 0x18 then v ||| 0xC#32
  else if off = 0x2C then s.reg pgPci 0x044
  else if off = 0x14 ∨ off = 0x20 ∨ off = 0x24 ∨ off = 0x30 then 0
  else if off = msiControl + 0x14 then s.reg pgPci 0x088
  else if off = msiControl then (v &&& 0xFFFF0000#32) ||| 0x018A0000#32 ||| putFld (c &&& 0xFFFF#32) 0 8 0x05
  else if off + 4 = pmControl then putFld c 0 8 0x01
  else if off = expressCap then putFld (putFld (putFld c 0 8 0x10) 16 4 2) 20 4 0
  else if off = expressCap + 4 then putFld c 0 3 1
  else if off = expressCap + 0xC then putFld c 10 2 0
  else if off = 0x100 then 0x00020001
  else if (pciWritable off).isSome then v
  else c

/-- PCI_STAT's MSI fields brought up to date (R466). -/
def pciShow (s : State) : State := (s.setFld pgPci 0x04C 26 1 (b2n (msiEnabled s))).setFld pgPci 0x04C 23 3 (msiAlloc s)

/-- An uncorrectable error of a request is recorded in Advanced Error Reporting (R464; log 46). -/
def aerRecord (k : Nat) (s : State) : State := s.setPciCfg aerUncorrectable (putBit (s.pciCfg aerUncorrectable) k true)

/-- The host port completes a request; an Unsupported Request and a Completer Abort are recorded. -/
def pciReply (r : Completion) (s : State) : State :=
  let s := { s with pci := { s.pci with reply := r } }
  match r with
  | .unsupported => aerRecord 20 s
  | .abort => aerRecord 15 s
  | _ => s

/-- The link is up (R466). -/
def pciLinkUp (s : State) : Bool := bit (s.reg pgPci 0x04C) 31

/-- A configuration request (R464); a state, payload or request size that the function does not support leaves its register as it is (log 46). -/
def pciConfig (write : Bool) (off : Nat) (data : W32) (s : State) : State :=
  let off := off / 4 * 4
  if !pciLinkUp s then pciReply .none s
  else if !bit (s.reg pgPci 0x048) 0 then pciReply .retry s
  else if write then
    match pciWritable off with
    | none => pciReply (.success [] false) s
    | some m =>
      let v := (data &&& m) ||| (pciHeld off s &&& pciCleared off &&& ~~~data)
      let bad := (decide (off = pmControl) && decide (fld v 0 2 ≠ 0) && decide (fld v 0 2 ≠ 3))
        || (decide (off = deviceControl) && (decide (1 < fld v 5 3) || decide (2 < fld v 12 3)))
      pciReply (.success [] false) (pciShow (if bad then s else s.setPciCfg off (v ^^^ pciInitial off)))
  else pciReply (.success (bytesOf 4 (pciConfigRead off s).toNat) false) s

/-- A change of the link: its width and speed, or down (R466). -/
def pciLink (link : Option (BitVec 2 × BitVec 2)) (s : State) : State :=
  let up := link.isSome && s.pci.perst && decide (s.life.phase = .running)
  let was := pciLinkUp s
  let v := match link with
    | some (w, g) => if up then 0x10 + w.toNat * 4 + g.toNat else 0
    | none => 0
  (s.setFld pgPci 0x04C 27 5 v).setEvtIf (decide (up ≠ was)) pgPci 3

/-- PCIE_PERST_N: low resets the host port and its link (R481). -/
def pciPerst (level : Bool) (s : State) : State :=
  let s := { s with pci := { s.pci with perst := level } }
  if level then s
  else
    let s := pciLink none { s with pci := { s.pci with cfg := [], reply := .none, msi := none, held := [] } }
    pciShow (s.setReg pgPci 0x088 0)

/-- The port sends an MSI message (R464, R465): the host's address and the vector. -/
def msiMessage (v : Nat) (s : State) : State :=
  let a := (s.pciCfg (msiControl + 4)).toNat + (s.pciCfg (msiControl + 8)).toNat * 2 ^ 32
  { s.setFld pgPci 0x088 v 1 0 with pci := { s.pci with msi := some (a, v) } }

/-- A write of PCI_MSI_SEND by a permitted master (R465). -/
def msiSend (v : Nat) (s : State) : State :=
  if 2 ^ msiAlloc s ≤ v then refuseWrite pgPci 0x084 0x06 s
  else if msiEnabled s && !msiMasked v s then msiMessage v s
  else s.setFld pgPci 0x088 v 1 1

/-- A pending vector that is enabled and unmasked is sent (R465). -/
def msiPending (v : Nat) (s : State) : State :=
  if bit (s.reg pgPci 0x088) v && msiEnabled s && !msiMasked v s then msiMessage v s else s

/-- Host to device (R465). -/
def h2dWrite (k : Nat) (data : W32) (s : State) : State :=
  if bit (s.reg pgPci 0x04C) 1 then s.setEvt pgPci 4
  else
    let s := s.setReg pgPci (0x050 + 4 * k) data
    if k = 3 then (s.setFld pgPci 0x04C 1 1 1).setEvt pgPci 1 else s

/-- PCI_H2D_ACK (R465). -/
def h2dAck (data : W32) (s : State) : State := if bit data 0 then s.setFld pgPci 0x04C 1 1 0 else s

/-- Device to host (R465). -/
def d2hWrite (k : Nat) (data : W32) (s : State) : State :=
  if bit (s.reg pgPci 0x04C) 0 then refuseWrite pgPci (0x070 + 4 * k) 0x41 s
  else
    let s := s.setReg pgPci (0x070 + 4 * k) data
    if k = 3 then s.setFld pgPci 0x04C 0 1 1 else s

/-- PCI_D2H_ACK (R465). -/
def d2hAck (data : W32) (s : State) : State :=
  if bit data 0 && bit (s.reg pgPci 0x04C) 0 then (s.setFld pgPci 0x04C 0 1 0).setEvt pgPci 2 else s

/-- The masters that write a PCI_ register (R466). -/
def pciWriter (m : Byte) (off : Nat) : Bool :=
  if (0x050 ≤ off ∧ off < 0x060) ∨ off = 0x080 then decide (m = 0xA0) || decide (m = 0xFE)
  else decide (m = 0x23) || decide (m = 0xFE) || decide (m = 0xFF)

/-- A write of a PCI_ register by a permitted master (R465, R466). -/
def pciWrite (off : Nat) (data : W32) (s : State) : State :=
  if off = 0x044 then s.setReg pgPci off data
  else if off = 0x048 then s.setReg pgPci off (data &&& 1#32)
  else if 0x050 ≤ off ∧ off < 0x060 then h2dWrite ((off - 0x050) / 4) data s
  else if off = 0x060 then h2dAck data s
  else if 0x070 ≤ off ∧ off < 0x080 then d2hWrite ((off - 0x070) / 4) data s
  else if off = 0x080 then d2hAck data s
  else if off = 0x084 then msiSend (fld data 0 5) s
  else s

end Sys2Proof.Machine
end

