-- ==== Sys2Proof/Machine/Boot.lean ====
section
/-!
DEFINITION. Sys2Proof/Machine/Boot.lean: reset assertion and release (R442–R445, R448, R449, R484, R485), and the boot from release to
handover (R446, R450–R455, R328).
-/

namespace Sys2Proof.Machine

/-! ### Assertion -/

/-- The causes of AON_RESET_CAUSE (R442). -/
inductive ResetCause where
  | por | pin | wake | wdg | triad
  deriving DecidableEq, Repr

def resetBit : ResetCause → Nat
  | .por => 0 | .pin => 1 | .wake => 2 | .wdg => 3 | .triad => 4

/-- BEL_SAFE and BEL_SAFE_SHIFT, which lie in PD63 (R417), and BEL_MON, which shows what is (R403). -/
def belKept (p off : Nat) : Bool := decide (p = pgBel) && decide (off ∈ [0x070, 0x074, 0x078])

/-- The registers that a reset other than power-on keeps (R417, R435, R444). -/
def keptReg (key : Nat) : Bool :=
  let p := key / 512
  let off := key % 512 * 4
  belKept p off
  || (decide (p = pgLrm) && (decide (0x200 ≤ off ∧ off < 0x400) || decide (off = 0x08C) || decide (0x600 ≤ off ∧ off < 0x6C0)))
  || (decide (p = pgAon) && (decide (off = 0x044) || decide (0x080 ≤ off ∧ off < 0x0CC)))
  || (decide (p = pgDbg) && (decide (0x040 ≤ off ∧ off < 0x084) || decide (0x0B0 ≤ off)))
  || (decide (p = pgRfg) && decide (0x040 ≤ off))

/-- The memory of the arrays that are OFF at assertion is cleared (R302, R444). -/
def loseOff (s : State) : Mem :=
  (List.range 76).foldl (fun m b =>
    let emulated := if b < 52 then sparseGet false s.emu.arr b else sparseGet false s.emu.dom (52 + (b - 52) / 4)
    if bankPower b s = .off ∧ !emulated then m.loseBank b else m) s.mem

/-- CRG_NOW.VCODE resets to VPLAN: that of the wear log as the reset keeps it (R397, R444). -/
def resetCodes (s : State) : State :=
  (List.range 48).foldl (fun s i =>
    if s.regs.any (fun x => decide (x.1 = regKey pgLrm (0x600 + 4 * i))) then s.setFld (pgCrg i) 0x044 26 6 (wearPlan i s) else s) s

/-- Everything a reset other than power-on leaves (R444): the kept registers, memory, the always-on parts and the Refuge route. -/
def assertWarm (s : State) : State :=
  let a := State.reset.aud
  let t : State :=
    { State.reset with
      pending := s.pending, free := s.free
      regs := sparseDrop (fun k => !keptReg k) s.regs
      mem := loseOff s
      aud := { a with refugeRise := s.aud.refugeRise, refugeFall := s.aud.refugeFall, refugeReturn := s.aud.refugeReturn,
                      refugeSegment := s.aud.refugeSegment }
      nrg := { State.reset.nrg with residue := s.nrg.residue, hourShifts := s.nrg.hourShifts }
      cmp := s.cmp, flips := s.flips, delays := s.delays
      dbg := { s.dbg with access := .none, wire := none, bytes := [] }
      life := { s.life with phase := .asserted, heldBoot := none }
      pci := { State.reset.pci with perst := s.pci.perst } }
  resetCodes ((t.setFld pgDbg 0x040 30 2 0).setFld pgDbg 0x080 0 1 0)

/-- Everything a power-on reset leaves: the state of reset with the flash, which is not the device's (R444, R485). -/
def assertPowerOn (s : State) : State :=
  { State.reset with
    pending := s.pending, free := s.free
    regs := sparseDrop (fun k => decide (k ≠ regKey pgBel 0x070)) s.regs
    cmp := s.cmp, flips := s.flips, delays := s.delays
    mem := { State.reset.mem with flash := s.mem.flash }
    pci := { State.reset.pci with perst := s.pci.perst }
    life := { s.life with phase := .asserted, booted := false, heldBoot := none } }

/-- AON_BOOT.LAST_FAIL and FAIL_INFO (R448, R453). -/
def bootRecord (code info : Nat) (s : State) : State := (s.setFld pgAon 0x044 20 4 code).setFld pgAon 0x044 8 8 info

/-- A reset is asserted, or its assertion extended, by a cause (R442, R443); a boot attempt that it ends has failed with RESET unless
its own failure is the cause (R448). -/
def assertReset (c : ResetCause) (ownFailure : Bool) (s : State) : State :=
  let causes := putBit s.life.causes (resetBit c) true
  let s := if s.life.phase = .booting ∧ !ownFailure then bootRecord 1 0 s else s
  let s := if c = .por then assertPowerOn s else if s.life.phase = .asserted then s else assertWarm s
  { s with life := { s.life with causes := causes } }

/-- A supply falls below its threshold (R484, R485). The command does not name it: whether an I/O supply is among those below is open (log 97). -/
def supplyFalls (s : State) : State :=
  let r := freeBelow 4 (assertReset .por false s)
  let s := r.2
  { s with life := { s.life with supplyLow := true, ioLow := r.1, refCount := false } }

/-- The last supply has risen through its threshold: the reference count starts (R484). -/
def supplyReturns (s : State) : State :=
  if s.life.supplyLow then { s with life := { s.life with supplyLow := false, refCount := true } } else s

/-- The reference clock has run its 65,536 periods (R484). -/
def refCountDone (s : State) : State := { s with life := { s.life with refCount := false } }

/-- NRST_DW has been low for 20 µs (R418, R442). -/
def pinFalls (s : State) : State :=
  let s := assertReset .pin false s
  { s with life := { s.life with pinLow := true } }

/-- NRST_DW rises (R442). -/
def pinRises (s : State) : State := { s with life := { s.life with pinLow := false } }

/-- A wake source, in DORMANT (R387). -/
def wake (s : State) : State := if s.life.phase = .dormant then assertReset .wake false s else s

/-! ### Failing an attempt -/

/-- A range of bank words that the boot ROM invalidates (R300, R453). -/
def invalidateRange (a n : Nat) (s : State) : State :=
  s.setMem (s.mem.clearWords (a / 8) ((a + n) / 8) (fun q => panelRetired (4096 * q) s))

/-- A boot attempt fails: what it wrote is invalidated, and a watchdog reset follows (R448, R453). -/
def bootFail (code info : Nat) (ranges : List (Nat × Nat)) (s : State) : State :=
  let s := ranges.foldl (fun s r => invalidateRange r.1 r.2 s) (bootRecord code info s)
  assertReset .wdg true s

/-- The boot timer reaches 500 ms (R448). -/
def bootTimeout (s : State) : State :=
  if s.life.phase = .booting ∧ !halted s then bootFail 6 0 [] s else s

/-- A write of AON_BOOT.RETRY by debug at FULL, in BOOT_HOLD (R449, R459). -/
def bootRetry (m : Byte) (s : State) : State :=
  if m = 0xFE ∧ debugLevel s = 2 ∧ s.life.phase = .bootHold then assertReset .wdg true (s.setFld pgAon 0x044 0 2 0) else s

/-! ### Steps 1 to 3 -/

/-- A panel whose parity update was stopped, recorded (R328). -/
def recordInFlight (s : State) (x : Nat × Nat) : State :=
  match (List.range 16).find? (fun i => !bit (s.reg pgAon (0x080 + 4 * i)) 31) with
  | some i => s.setReg pgAon (0x080 + 4 * i) (w32 (0x80000000 + x.1 % 76 * 0x1000000 + x.2 % 512))
  | none => s.setFld pgAon (0x0C0 + 4 * (x.1 % 76 / 32)) (x.1 % 76 % 32) 1 1

/-- The panels listed in the table and those of the banks in the mask, by physical address div 4096. -/
def panelsToRebuild (s : State) : List Nat :=
  let listed := (List.range 16).filterMap fun i =>
    let v := s.reg pgAon (0x080 + 4 * i)
    if bit v 31 ∧ fld v 24 7 < 76 ∧ fld v 0 9 < bankSize (fld v 24 7) / 4096 then some (bankBase (fld v 24 7) / 4096 + fld v 0 9) else none
  let masked := (List.range 76).flatMap fun b =>
    if bit (s.reg pgAon (0x0C0 + 4 * (b / 32))) (b % 32) then (List.range (bankSize b / 4096)).map (bankBase b / 4096 + ·) else []
  (listed ++ masked).eraseDups

/-- One panel rebuilt from its data, and the words it poisons (R328). -/
def rebuildPanel (panel : Nat) (s : State) : Nat × State :=
  let r := (List.range 512).foldl (fun (acc : Nat × State) i =>
    let w := 512 * panel + i
    let s := acc.2
    match (s.mem.decoded w).1 with
    | .singleData _ => (acc.1, eccEvent .corr .rebuild (8 * w) (s.setMem (s.mem.putWord w (s.mem.decoded w).2.1 false)))
    | .singleCheck => (acc.1, eccEvent .corr .rebuild (8 * w) (s.setMem (s.mem.putWord w (s.mem.decoded w).2.1 false)))
    | .multi => (acc.1 + 1, eccEvent .uncorr .rebuild (8 * w) (s.setMem (s.mem.putWord w (s.mem.raw w) true)))
    | _ => acc) (0, s)
  (r.1, r.2.setMem (r.2.mem.rebuildParity panel))

/-- The parity rebuild of step 3, with ECC_REBUILT of each group (R328, R329); the table and mask are then empty. -/
def rebuildStep (s : State) : State :=
  let s := (panelsToRebuild s).foldl (fun s q =>
    let r := rebuildPanel q s
    let p := pgEcc (groupOf (4096 * q))
    let s := r.2
    let s := s.setFld p 0x054 16 16 (min 65535 (s.getFld p 0x054 16 16 + 1))
    s.setFld p 0x054 0 16 (min 65535 (s.getFld p 0x054 0 16 + r.1))) s
  (List.range 19).foldl (fun s i => s.setReg pgAon (0x080 + 4 * i) 0) s

/-- A read of `n` bytes of the flash from `a` on lies within the size in XSP_SIZE, beyond which it is a read error (R28, R463). -/
def flashHas (a n : Nat) (s : State) : Bool := decide (a + n ≤ 2 ^ s.getFld pgXsp 0x044 0 5)

/-- Bytes of the flash. -/
def flashBytes (a n : Nat) (s : State) : List Byte := cellsRead flashBlank s.mem.flash a n

/-- A little-endian word of the flash. -/
def flashWord (a : Nat) (s : State) : Nat := numOf (flashBytes a 4 s)

/-- The wear log after a power-on reset (R452): restored from the mirror, else surveyed from the islands' gauges. -/
def wearRestore (slot : Nat) (gauges : List (List Int)) (s : State) : State :=
  let ofs := flashWord (slot + 0x18) s
  let words (i : Nat) : W32 := w32 (flashWord (ofs + 4 * i) s)
  if ofs ≠ 0 ∧ flashHas ofs 256 s ∧ crc32 (flashBytes ofs 252 s) = words 63 then
    let s := (List.range 48).foldl (fun s i => s.setReg pgLrm (0x600 + 4 * i) (putFld (words i) 0 6 0)) s
    s.setReg pgLrm 0x08C (words 48)
  else
    let s := (List.range 48).foldl (fun s i =>
      let s := surveyFinish i (gauges.getD i []) (surveyStart i s)
      let v := s.reg (pgCrg i) 0x04C
      s.setReg pgLrm (0x600 + 4 * i) (w32 (fld v 26 6 * 0x4000000 + fld v 16 10 * 0x10000))) s
    s.setFld pgAon 0x044 28 1 1

/-! ### Steps 4 to 6 -/

/-- A segment of the image (R453): its type and unit, destination, length and source. -/
structure BootSeg where
  type : Nat
  unit : Nat
  dest : Nat
  len : Nat
  src : Nat
  deriving DecidableEq, Repr

/-- The segment entry `i` of the image at `slot`. -/
def bootSeg (slot i : Nat) (s : State) : BootSeg :=
  let a := slot + 0x100 + 16 * i
  let w := flashWord a s
  ⟨w % 0x100, w / 0x100 % 0x100, flashWord (a + 4) s, flashWord (a + 8) s, flashWord (a + 12) s⟩

/-- The physical address of a segment's target. -/
def segBase (g : BootSeg) : Nat :=
  if g.type = 1 then bankBase 48 else if g.type = 2 then bankBase 51 else if g.type = 3 then bankBase g.unit
  else if g.type = 4 then bankBase (52 + g.unit) else 0x04100000 + 0x4000 * g.unit

/-- A segment lies within its target (R453). -/
def segFits (g : BootSeg) : Bool :=
  let e := g.dest + g.len
  if g.type = 1 ∨ g.type = 2 then decide (e ≤ 0x200000)
  else if g.type = 3 then decide (g.unit < 32) && decide (e ≤ 0x80000)
  else if g.type = 4 then decide (g.unit < 24) && (decide (e ≤ 0x6000) || (decide (0x6400 ≤ g.dest) && decide (e ≤ 0x8000)))
  else if g.type = 5 then decide (g.unit < 4) && decide (e ≤ 0x4000)
  else false

/-- The field rules of a segment entry, against the entries before it (R453). -/
def segOk (slot i totalLen : Nat) (before : List BootSeg) (s : State) : Bool :=
  let g := bootSeg slot i s
  decide (flashWord (slot + 0x100 + 16 * i) s < 0x10000) && segFits g && decide (g.dest % 8 = 0) && decide (g.len % 8 = 0)
    && decide (g.len ≠ 0) && decide (g.src + g.len ≤ totalLen)
    && before.all fun h => decide (segBase h ≠ segBase g) || decide (h.dest + h.len ≤ g.dest) || decide (g.dest + g.len ≤ h.dest)

/-- The field rules of the header (R453, R454). -/
def headerOk (slot : Nat) (s : State) : Bool :=
  let w (o : Nat) : Nat := flashWord (slot + o) s
  decide (w 0 = 0x31495847) && decide (w 8 < 2) && decide (1 ≤ w 0xC) && decide (w 0xC ≤ 128)
    && decide (w 0x10 % 4 = 0) && decide (w 0x10 < 0x200000) && decide (w 0x14 ≤ 0x2000000)
    && ((List.range 9).all fun i => decide (w (0x1C + 4 * i) = 0)) && ((List.range 4).all fun i => decide (w (0x70 + 4 * i) = 0))
    && (decide (w 8 = 1) || !bit (gateMode s) 11)

/-- A payload written into its target (R453). -/
def loadSeg (slot : Nat) (g : BootSeg) (s : State) : State :=
  let bs := flashBytes (slot + g.src) g.len s
  if g.type = 5 then s.setMem { s.mem with ustore := cellsWrite 0 s.mem.ustore (0x4000 * g.unit + g.dest) bs }
  else writeMem (segBase g + g.dest) (cleanBytes bs) s

/-- How loading the segments ended (R453). -/
inductive LoadEnd where
  | loaded
  | flash
  | format (i : Nat)
  deriving DecidableEq, Repr

/-- Segments `i` on, `n` of them, loaded in table order; `before` holds those loaded, first first. -/
def loadSegs (slot totalLen : Nat) (fails : Option Nat) : Nat → Nat → List BootSeg → State → LoadEnd × List BootSeg × State
  | 0, _, before, s => (.loaded, before, s)
  | n + 1, i, before, s =>
    let g := bootSeg slot i s
    if fails = some i ∨ !flashHas (slot + 0x100 + 16 * i) 16 s then (.flash, before, s)
    else if !segOk slot i totalLen before s then (.format i, before, s)
    else if !flashHas (slot + g.src) g.len s then (.flash, before, s)
    else
      loadSegs slot totalLen fails n (i + 1) (before ++ [g]) (loadSeg slot g s)

/-- The ranges of the banks that loaded segments occupy. -/
def loadedRanges (gs : List BootSeg) : List (Nat × Nat) := (gs.filter fun g => g.type ≠ 5).map fun g => (segBase g + g.dest, g.len)

/-- The bytes that the signature covers (R453). -/
def signedBytes (slot : Nat) (gs : List BootSeg) (s : State) : List Byte :=
  flashBytes slot 0xC0 s ++ flashBytes (slot + 0x100) (16 * gs.length) s ++ gs.flatMap fun g => flashBytes (slot + g.src) g.len s

/-- The key digest matches FUS_KEYHASH (R453). -/
def keyOk (slot : Nat) (s : State) : Bool := decide (sha256 (flashBytes (slot + 0x80) 64 s) = (List.range 32).map Config.keyHash)

/-- The signature verifies (R453). -/
def signatureOk (slot : Nat) (gs : List BootSeg) (s : State) : Bool :=
  let n (o : Nat) : Nat := bigEndian (flashBytes (slot + o) 32 s)
  ecdsaVerifies (sha256 (signedBytes slot gs s)) (n 0x80) (n 0xA0) (n 0xC0) (n 0xE0)

/-- A configuration word of the Refuge route that the boot ROM writes from the image; a bad one is refused as any other write (R227, R231). -/
def refugeConfig (off : Nat) (data : W32) (s : State) : State :=
  if refugeBad off data then refuseWrite pgRfg off 0x06 s
  else s.setReg pgRfg off (if off < 0x050 then data else data &&& 0x000FFFFF#32)

/-- The image's Refuge block, or an unarmed route (R454). -/
def bootRefuge (slot : Nat) (s : State) : State :=
  if flashWord (slot + 8) s % 2 = 1 then
    let s :=
      if refugeBit 0 s then s.setFld pgAon 0x044 29 1 1
      else
        let offs := [0x040, 0x044, 0x048, 0x04C] ++ (List.range 8).map (0x050 + 4 * ·)
        (offs.zipIdx).foldl (fun s x => refugeConfig x.1 (w32 (flashWord (slot + 0x40 + 4 * x.2) s)) s) s
    refugeUpdate ((s.setLock pgRfg .locked).setReg pgRfg 0x070 1)
  else refugeUpdate (s.setReg pgRfg 0x070 0)

/-- Steps 4 to 6 of R450 for the attempt's slot. -/
def bootImage (inp : BootIn) (s : State) : State :=
  let slot := s.getFld pgAon 0x044 27 1 * 0x2000000
  let s := s.setReg pgXsp 0x040 (w32 (0xFF000000 + inp.rdsr.toNat * 0x10000 + b2n inp.ext * 2 + b2n (inp.octal && !inp.xspi1s)))
  let s := s.setReg pgXsp 0x044 (w32 (inp.sizeLog2 % 32))
  if inp.flashFails = some 0 ∨ !flashHas slot 0x100 s then bootFail 3 0 [] s
  else if !headerOk slot s then bootFail 4 0xFF [] s
  else
    let r := loadSegs slot (flashWord (slot + 0x14) s) inp.flashFails (flashWord (slot + 0xC) s) 0 [] s
    let s := r.2.2
    let wrote := loadedRanges r.2.1
    match r.1 with
    | .flash => bootFail 3 0 wrote s
    | .format i => bootFail 4 i wrote s
    | .loaded =>
      if !keyOk slot s then bootFail 5 1 wrote s
      else if !signatureOk slot r.2.1 s then bootFail 5 2 wrote s
      else
        let s := copyOvermanBank 48 50 (copyOvermanBank 48 49 s)
        let s := bootRefuge slot s
        let s := s.setReg pgAon 0x050 (w32 (flashWord (slot + 4) s))
        { s with life := { s.life with entry := BitVec.ofNat 24 (flashWord (slot + 0x10) s) } }

/-- The boot from the boot ROM's first bundle to the end of step 6 (R450). -/
def bootSteps (inp : BootIn) (s : State) : State :=
  let por := bit (s.reg pgAon 0x040) 0
  let slot := s.getFld pgAon 0x044 27 1 * 0x2000000
  let broken := inp.badBank.filter fun x => decide (x.2 ≠ 0)
  let failed := (inp.badBank.map fun b => b.1 % 76).or (selftestFirst broken s)
  let s := selftestBoot broken s
  match failed with
  | some b => bootFail 2 b [] s
  | none =>
    let s := rebuildStep s
    bootImage inp (if por then wearRestore slot inp.gauges s else s)

/-! ### Release and handover -/

/-- GAT_MODE and the replicas' roles as the straps select (R278). The reserved straps give no mode: GAT_MODE reads SOLO×3 in the BOOT_HOLD
that they cause, with no replica voted and no CLAIM: DESIGN CHOICE (log 56). -/
def bootMode (mode : Nat) (s : State) : State :=
  let role (r : Nat) : Role := if mode = 0 ∨ (mode = 1 ∧ r < 2) then .active else .solo
  (List.range 3).foldl (fun s r => s.setReplica r { idleReplica with role := role r })
    { s with tri := { s.tri with mode := if mode = 3 then 2 else mode } }

/-- Reset release: the causes recorded, the straps latched, the attempt counted, then BOOT_HOLD, a halt before the boot ROM, or the
boot (R442, R446, R448, R449, R450, R426). -/
def releaseReset (inp : BootIn) (s : State) : State :=
  if s.life.phase ≠ .asserted ∨ s.life.pinLow ∨ s.life.supplyLow ∨ s.life.refCount then s
  else
    let por := bit s.life.causes 0
    let s := s.setReg pgAon 0x040 (s.life.causes.zeroExtend 32)
    let s := s.setReg pgAon 0x048 (w32 (b2n inp.xspi1s * 8 + b2n inp.refsel * 4 + inp.mode.toNat))
    let s := refugeUpdate (setRefugeBit 1 false (setRefugeBit 2 false s))
    let old := s.getFld pgAon 0x044 0 2
    let fresh := por || s.life.booted
    let gaveUp := !fresh && decide (old = 3)
    let n := if fresh then 1 else min 3 (old + 1)
    let s := ((s.setFld pgAon 0x044 0 2 n).setFld pgAon 0x044 27 1 (if gaveUp then s.getFld pgAon 0x044 27 1 else (n - 1) % 2)).setFld pgAon 0x044 30 1 0
    let s := monitorsHold { s with life := { s.life with causes := 0, booted := false, phase := .booting } }
    let s := bootMode inp.mode.toNat s
    let s := inp.inFlight.foldl recordInFlight s
    let stops := decide (debugLevel s = 2) && (haltPending s || (bit (s.reg pgDbg 0x080) 6 && !por))
    let s := if stops then (s.setFld pgDbg 0x040 30 2 2).setFld pgDbg 0x080 0 1 1 else s
    if gaveUp ∨ inp.mode = 3 then
      let s := s.setFld pgAon 0x044 30 1 1
      let s := if inp.mode = 3 then s.setFld pgAon 0x044 20 4 7 else s
      { s with life := { s.life with phase := .bootHold } }
    else if stops then { s with life := { s.life with heldBoot := some inp } }
    else bootSteps inp s

/-- A boot that a halt held goes on once the halt has ended (R426, R431). -/
def resumeBoot (s : State) : State :=
  match s.life.heldBoot with
  | some inp => if halted s then s else bootSteps inp { s with life := { s.life with heldBoot := none } }
  | none => s

/-- A bank's owner written with nothing to drain (R455). -/
def setOwner (b o : Nat) (s : State) : State :=
  (s.setFld (pgBnk b) 0x018 0 8 o).setBank b { s.bank b with owner := BitVec.ofNat 8 o, draining := false, next := none }

/-- An Overman thread as it starts (R455). -/
def startedThread (r t : Nat) (entry : W24) : Thread :=
  { idleThread with
    d := sparseSet ⟨0, false⟩ [] 0 ⟨BitVec.ofNat 24 t, false⟩
    s := sparseSet ⟨0, 0, 0⟩ [] 0 ⟨w32 (bankBase (48 + r)), 0x07200000, 0xFC⟩
    pc := entry
    sr := w32 ((0x20 + r) * 0x10000 + t * 0x100 + 1)
    running := true }

/-- Step 7 and what takes effect at the first boundary, apart from the boundary itself (R455). -/
def handover (micros : Nat) (s : State) : State :=
  let s := (List.range 32).foldl (fun s n => setOwner n n s) s
  let s := setOwner 51 0x23 ((List.range 3).foldl (fun s r => setOwner (48 + r) (0x20 + r) s) s)
  let s := (s.setFld pgOns 0x004 0 1 1)
  let s := s.setEvtIf (decide (1 < s.getFld pgAon 0x044 0 2)) pgAon 1
  let s := (s.setFld pgAon 0x044 0 2 0).setReg pgAon 0x04C (w32 micros)
  let s := (List.range 3).foldl (fun s r =>
    (List.range 2).foldl (fun s t => s.setThread (overmanThread r t) (startedThread r t s.life.entry)) s) s
  { s with life := { s.life with phase := .running, booted := true }, ons := { s.ons with runs := true }, nrg := { s.nrg with vidNeed := 0 } }

end Sys2Proof.Machine
end

