-- ==== Sys2Proof/Machine/Power.lean ====
section
/-!
DEFINITION. Sys2Proof/Machine/Power.lean: power domains and bank arrays: requests at a boundary with their refusals (R23, R39, R281,
R301), what a unit without power loses, coming on (R184, R388, R389), emulated power (R432) and DORMANT (R386).
-/

namespace Sys2Proof.Machine

/-! ### Losing and regaining power -/

/-- A core's own page (R163, R288). -/
def corePage (c : Nat) : Nat := if c < 32 then pgHwr c else pgOvm (c - 32)

/-- The record of a lockup, which stands as long as the lockup does (R162). -/
def lockupReg (k : PageKind) (key : Nat) : Bool := (decide (k = .hwr) || decide (k = .ovmRep)) && decide (key % 512 = 18)

/-- The registers at 0x040–0x7FF of a domain's pages that lose their values with it. -/
def domainReg (d key : Nat) : Bool :=
  decide (16 ≤ key % 512) && (match pageKind (key / 512) with
    | some (k, i) => decide (pageDomain k i = some d) && !lockupReg k key && !belKept (key / 512) (key % 512 * 4)
    | none => false)

/-- The keys below `hi` and not below `lo` dropped from a map. -/
def dropRange {α : Type} (lo hi : Nat) (m : Sparse α) : Sparse α := sparseDrop (fun k => decide (lo ≤ k) && decide (k < hi)) m

/-- The threads of a core, and what they share, as after a reset (R151); a lockup lasts, and with it its record (R162). -/
def loseCore (c : Nat) (s : State) : State :=
  let k := s.core c
  { s with threads := dropRange (4 * c) (4 * c + 4) s.threads
           cores := sparseSet idleCore s.cores c { idleCore with lockup := k.lockup, wasOff := k.wasOff } }

/-- A core leaves lockup (R162): its record reads 0. -/
def leaveLockup (c : Nat) (s : State) : State := (s.setCore c { s.core c with lockup := false }).setReg (corePage c) 0x048 0

/-- The logic of a domain loses power (R39): its registers and what its blocks hold take their reset values (log 49); a micro-store, a
memory array of PD32 + 4d, keeps its content in RETAIN (R22). -/
def loseDomain (d : Nat) (off : Bool) (s : State) : State :=
  let keep := fun k => domainReg d k
  let s := { s with regs := sparseDrop keep s.regs, eff := sparseDrop keep s.eff, ivl := sparseDrop keep s.ivl }
  if d < 32 then loseCore d s
  else if d < 48 then
    let s := losePools d s
    (if d % 4 = 0 then
      let k := (d - 32) / 4
      let store := if off then dropRange (0x4000 * k) (0x4000 * k + 0x4000) s.mem.ustore else s.mem.ustore
      { s with wnd := dropRange (16 * k) (16 * k + 16) s.wnd, mem := { s.mem with ustore := store } }
     else s)
  else if d < 51 then loseCore (d - 16) s
  else if 52 ≤ d ∧ d < 58 then
    let g := d - 52
    { s with dep := dropRange (4 * g) (4 * g + 4) s.dep, cor := dropRange (16 * g) (16 * g + 16) s.cor }
  else if d = 58 then
    { s with adit := { State.reset.adit with grid := s.adit.grid, rx := dropRange 0 2 s.adit.rx
                                             pools := s.adit.pools.map fun x => (x.1, { x.2 with free := x.2.size, tags := [], queue := [] }) } }
  else if d = 59 then (List.range 2).foldl (fun s p => clearPort (2 + p) s) { s with adit := { s.adit with rx := dropRange 2 4 s.adit.rx } }
  else if d = 60 then
    { s with aud := { s.aud with tdm := [], capture := [], warm := [], micStuck := [], play := [], before := [], pwmClip := [], sense := [], hpf := [], streams := [] } }
  else if d = 61 then { s with tpl := State.reset.tpl }
  else s

/-- The arrays that a domain holds: by R301 for the banks with a page, the Deputy memories of PD52–57 (R22). The Tipple's crosspoint table is taken
as no such array, so that PD61 in RETAIN loses it as in OFF: DESIGN CHOICE (log 58). -/
def domainArrays (d : Nat) : List Nat :=
  if d < 51 then [d] else if 52 ≤ d ∧ d < 58 then (List.range 4).map (4 * d - 156 + ·) else []

/-- The content of a bank is lost (R302). -/
def loseArray (b : Nat) (s : State) : State := s.setMem (s.mem.loseBank b)

/-- The state of an array from its request and its domain's state (R301). -/
def arrayState (request dom : Power) : Power :=
  match dom, request with
  | .off, _ => .off
  | _, .off => .off
  | .retain, _ => .retain
  | .on, r => r

/-- The power state of a request code. -/
def powerOfCode (n : Nat) : Power := if n = 0 then .off else if n = 1 then .retain else .on

/-- The state that a page's REQ asks for (R35, R39): RETAIN acts as OFF on a unit without memory. -/
def requested (p : Nat) (s : State) : Power :=
  let r := powerOfCode (s.getFld p 0x01C 0 2)
  match powerUnit p with
  | .domain d => if r = .retain ∧ (domainArrays d).isEmpty then .off else r
  | _ => r

/-- An array takes a state: with a debugger attached its content is kept and the loss emulated (R302, R432). -/
def setArrayState (b : Nat) (v : Power) (s : State) : State :=
  let old := s.array b
  let s := s.setArray b v
  if v = old then s
  else if v = .on then { s with emu := { s.emu with arr := sparseSet false s.emu.arr b false } }
  else if attached s then { s with emu := { s.emu with arr := sparseSet false s.emu.arr b true } }
  else if v = .off then loseArray b s
  else s

/-- The request in effect of a bank array (R301). -/
def State.arrayRequest (s : State) (b : Nat) : Power := sparseGet .on s.arrReq b

/-- The arrays of a domain follow it (R301). -/
def arraysFollow (d : Nat) (s : State) : State :=
  if d < 51 then setArrayState d (arrayState (s.arrayRequest d) (s.domain d)) s else s

/-- A Hewer whose domain has been OFF comes on: its lockup and its quarantine end, and its own entries return with RESYNC (R162, R184). -/
def hewerOn (n : Nat) (s : State) : State :=
  if (s.core n).wasOff then
    let s := if (s.core n).lockup then leaveLockup n s else s
    let back := if quarantined n s then oweResync n s else s
    ((back.setFld pgOns 0x058 n 1 0).setFld (pgHwr n) 0x070 16 2 0).setCore n { s.core n with wasOff := false }
  else s

/-- A domain comes on: the island that it brings on runs at F_max (R388), a Hewer's HWR_DISPATCHt read 0 (R186), and a Hewer switched off is
no longer quarantined (R184). -/
def domainOn (d : Nat) (before : State) (s : State) : State :=
  let s := (List.range 48).foldl (fun s i =>
    if d ∈ islandDomains i ∧ !islandOn i before then islandPoint i (s.setReg (pgCrg i) 0x040 (w32 (islandMax i))) else s) s
  if d < 32 then hewerOn d ((List.range 4).foldl (fun s t => s.setReg (pgHwr d) (0x060 + 4 * t) 0) s) else s

/-- A domain takes a state (R23, R39, R432); a retired replica's lockup ends as its domain goes OFF (R162, R280). -/
def setDomainState (d : Nat) (v : Power) (s : State) : State :=
  let old := s.domain d
  if v = old then s
  else
    let t := s.setDomain d v
    let t := if v = .off ∧ d < 32 then t.setCore d { t.core d with wasOff := true } else t
    let t := if v = .off ∧ 48 ≤ d ∧ d < 51 then leaveLockup (d - 16) t else t
    let t :=
      if v = .on then
        domainOn d s { t with emu := { t.emu with dom := sparseSet false t.emu.dom d false } }
      else if attached s then { t with emu := { t.emu with dom := sparseSet false t.emu.dom d true } }
      else
        let t := loseDomain d (decide (v = .off)) t
        if v = .off ∧ 52 ≤ d then (domainArrays d).foldl (fun t b => loseArray b t) t else t
    arraysFollow d t

/-- A debugger has detached: each emulated unit is really placed in its reported state at the boundary (R432). -/
def emulatedBoundary (s : State) : State :=
  if attached s then s
  else
    let s := (s.emu.dom.map (·.1)).foldl (fun s d =>
      if s.domain d = .on then s
      else
        let s := loseDomain d (decide (s.domain d = .off)) s
        if s.domain d = .off ∧ 52 ≤ d then (domainArrays d).foldl (fun t b => loseArray b t) s else s) s
    let s := (s.emu.arr.map (·.1)).foldl (fun s b => if s.array b = .off then loseArray b s else s) s
    { s with emu := { s.emu with dom := [], arr := [] } }

/-! ### Requests -/

/-- The Roster in effect from this boundary dispatches work to a Hewer (R23). -/
def rosterUses (n : Nat) (s : State) : Bool :=
  onsetterDispatches s &&
    (readRoster (activeBuffer s) s).1.any fun x => x.2.valid && decide (runsOn x.2 s = some n)

/-- A master's own domain (R22, R24). -/
def masterDomain (m : Nat) : Option Nat :=
  if m < 32 then some m else if m < 0x23 then some (48 + (m - 0x20)) else if m = 0x23 then some 51
  else if 0x30 ≤ m ∧ m < 0x48 then some (52 + (m - 0x30) / 4)
  else if 0x50 ≤ m ∧ m < 0x90 then some (32 + 4 * ((m - 0x50) / 16))
  else if m = 0x90 ∨ m = 0x91 then some 58 else if m = 0x92 ∨ m = 0x93 then some 59 else none

/-- A bank of the domain is owned by a master outside it (R23); 0xFF, the owner after a reset, is no master. -/
def ownedOutside (d : Nat) (s : State) : Bool :=
  (List.range 51).any fun b =>
    let o := ownerField b s
    decide (bankDomain b = d) && decide (o ≠ 0xFF) && decide (masterDomain o ≠ some d)

/-- The state as the refusals see it: with the owners and the pools in effect from this boundary (R23, R301). -/
def fromBoundary (s : State) : State := poolsNext (applyOwners 0 s)

/-- A domain may not leave ON (R23). -/
def domainInUse (d : Nat) (s : State) : Bool :=
  (decide (d < 32) && rosterUses d s) || ownedOutside d (fromBoundary s)
    || (decide (32 ≤ d) && decide (d < 48) && decide (d % 4 = 0)
        && (List.range 8).any fun i => decide (s.domain (2 * (d - 32) + i) = .on))

/-- A replica's unit may not leave ON (R281, R301). -/
def replicaInUse (r : Nat) (s : State) : Bool :=
  decide (s.tri.mode ≠ 2) && (decide ((s.replica r).role = .active) || decide ((s.replica r).role = .resync))

/-- An array may not leave ON (R301). -/
def arrayInUse (b : Nat) (s : State) : Bool :=
  if b < 32 then decide (s.getFld (pgHwr b) 0x01C 0 2 = 2)
  else if b < 48 then bankHasPool b (fromBoundary s)
  else decide ((s.replica (b - 48)).role = .active) || decide ((s.replica (b - 48)).role = .resync)

/-- A page's request is refused at the boundary (R23, R39, R281, R301). -/
def requestRefused (p : Nat) (v : Power) (s : State) : Bool :=
  if v = .on then false
  else match powerUnit p with
    | .domain d => domainInUse d s || (decide (48 ≤ d) && decide (d < 51) && replicaInUse (d - 48) s)
    | .array b => arrayInUse b s
    | .both d b => domainInUse d s || arrayInUse b s
    | .nothing => false

/-- REQ returns to STATE, and the page records DOMAIN_IN_USE (R39). -/
def refuseRequest (p : Nat) (s : State) : State :=
  recordError p 0x03 (regAddr p 0x01C) (s.setFld p 0x01C 0 2 (powerCode (pagePower p s)))

/-- A domain that is to come on while the code output is too low comes on one boundary later (R23, R389). -/
def mustWait (d : Nat) (s : State) : Bool := decide (s.nrg.vid < domainCode d s)

/-- A request of a bank array is in effect from here on (R301). -/
def arrayAsked (b : Nat) (v : Power) (s : State) : State :=
  let s : State := { s with arrReq := sparseSet .on s.arrReq b v }
  setArrayState b (arrayState v (s.domain (bankDomain b))) s

/-- One page's request at a boundary; the first component is the highest code that a deferred domain needs (R389). An array's request is one
where REQ has been written since the last boundary. -/
def pageRequest (acc : Nat × State) (p : Nat) : Nat × State :=
  let s := acc.2
  let v := requested p s
  let domainStep (d : Nat) (after : State → State) : Nat × State :=
    if v = .on ∧ s.domain d ≠ .on ∧ mustWait d s then (max acc.1 (domainCode d s), s) else (acc.1, after (setDomainState d v s))
  let unit := powerUnit p
  let same := match unit with
    | .nothing => true
    | .domain d => decide (s.domain d = v)
    | .array b => !sparseGet false s.pwrAsked p || decide (s.arrayRequest b = v)
    | .both d b => decide (s.domain d = v) && decide (s.array b = v)
  if same then acc
  else if requestRefused p v s then (acc.1, refuseRequest p s)
  else match unit with
    | .nothing => acc
    | .domain d => domainStep d id
    | .array b => (acc.1, arrayAsked b v s)
    | .both d b => domainStep d (setArrayState b v)

/-- The pages whose REQ controls a unit, in the order of R30. -/
def powerPages : List Nat :=
  (List.range 32).map pgHwr ++ (List.range 51).map pgBnk ++ [pgTpl] ++ (List.range 4).map (fun g => pgDep (4 * g))
    ++ [pgDep 16, pgDep 20, pgAdt 0, pgAdt 2, pgTdm 0] ++ (List.range 3).map pgOvm

/-- The power requests at a boundary (R23, R39); the first component is the highest code that a deferred domain needs. -/
def powerBoundary (s : State) : Nat × State :=
  let r := powerPages.foldl pageRequest (0, emulatedBoundary s)
  (r.1, { r.2 with pwrAsked := [] })

/-! ### DORMANT -/

/-- The code that DORMANT requests: the highest VPLAN of islands 46 and 47 (R389, R486). -/
def dormantCode (s : State) : Nat := max 10 (max (wearPlan 46 s) (wearPlan 47 s))

/-- DORMANT entry at a boundary (R386): the pins, the domains, the arrays and the code on VID (R486); emulated while a debugger is attached
(R432). -/
def enterDormant (s : State) : State :=
  let keepEmu := attached s
  let s := { s with guard := { s.guard with relays := 0, static := true }, ons := { s.ons with runs := false }
                    aud := { s.aud with play := [], before := [] }, life := { s.life with phase := .dormant } }
  if keepEmu then { s with emu := { s.emu with dormant := true } }
  else
    let s := (List.range 62).foldl (fun s d => (loseDomain d true s).setDomain d .off) s
    let s := { s with nrg := { s.nrg with vid := dormantCode s, vidNeed := dormantCode s } }
    (List.range 76).foldl (fun s b => let s := loseArray b s; if b < 52 then s.setArray b .off else s) s

end Sys2Proof.Machine
end

