-- ==== Sys2Proof/Machine/Fabric.lean ====
section
/-!
DEFINITION. Sys2Proof/Machine/Fabric.lean: reads and writes of the register pages (R31–R44): the common header, what each chapter
computes on a read, refuses on a write or does beyond storing one, and the transactions that carry them.
-/

namespace Sys2Proof.Machine

/-! ### Reads -/

/-- Stored bits that hold RWL fields, of a register that has any (R44). -/
def signedBits (k : PageKind) (off : Nat) : Nat :=
  match regDesc k off with
  | some d => d.rwl
  | none => 0

/-- BLK_SIG (R44): the CRC over the RWL fields of a page, with the forced enables as 1 (R37). -/
def blkSig (p : Nat) (s : State) : W32 :=
  match pageKind p with
  | none => 0
  | some (k, _) =>
    let words := (List.range 511).flatMap fun j =>
      let off := 4 * (j + 1)
      let m := signedBits k off
      if m = 0 then []
      else bytesOf 4 ((if off = 0x010 then evtEnables p s else s.reg p off) &&& w32 m).toNat
    crc32 words

/-- BLK_STAT (R35); a pool that POOL_OVERLAP refused is not active (R365). -/
def blkStat (p : Nat) (s : State) : W32 :=
  let pending := match pageKind p with
    | some (.bnk, b) => (s.bank b).draining
    | _ => false
  let active := match pageKind p with
    | some (.tly, q) => (s.pool q).active
    | _ => s.active p
  let lock := match s.lockOf p with
    | .unlocked => 0 | .armed _ => 0x40 | .locked => 0x20
  w32 (lock + (if s.getFld p 0x020 0 8 ≠ 0 then 0x10 else 0) + (if pending then 8 else 0) + powerCode (pagePower p s) * 2
    + b2n active)

/-- BLK_PWR (R35, R39): a page that controls nothing reads REQ equal to STATE. -/
def blkPwr (p : Nat) (s : State) : W32 :=
  let st := powerCode (pagePower p s)
  w32 ((if powerUnit p = .nothing then st else s.getFld p 0x01C 0 2) + 16 * st)

/-- A read of a header register (R35). -/
def headerRead (p off : Nat) (s : State) : W32 :=
  if off = 0x000 then blkId p
  else if off = 0x008 then blkStat p s
  else if off = 0x010 then evtEnables p s
  else if off = 0x018 then (match pageKind p with | some (.bnk, _) => s.reg p off | _ => 0)
  else if off = 0x01C then blkPwr p s
  else if off = 0x02C then blkSig p s
  else if off = 0x004 ∨ off = 0x00C ∨ off = 0x020 ∨ off = 0x024 then s.reg p off
  else 0

/-- The phase that ONS_PHASE shows (R71). -/
def phaseCode (s : State) : Nat :=
  match s.ons.seg with
  | .intake => 0 | .primary => 1 | .shadow => 2 | .verdict => 3 | _ => 4

/-- ONS_PHASE (R71): which step of the present part of the shift the moment of the read is, is open (log 2). -/
def onsPhase (s : State) : W32 × State :=
  if s.ons.runs then
    let r := stepNow s
    (w32 (phaseCode s * 0x100000 + r.1), r.2)
  else (0, s)

/-- LRM_STATE.NOW (R384). -/
def stateNow (s : State) : Nat :=
  if s.guard.safe then 4 else if s.life.phase = .bootHold then 5 else s.effFld pgLrm 0x040 0 2

/-- WDG_STAT with ELAPSED, which is open between the last value known and TIMEOUT while the watchdog counts (R411, log 2). -/
def wdgStat (s : State) : W32 × State :=
  if watchdogCounts s && !halted s then
    let r := elapsedNow s
    (putFld (s.reg pgWdg 0x050) 0 20 r.1, r.2.setFld pgWdg 0x050 0 20 r.1)
  else (s.reg pgWdg 0x050, s)

/-- PWM_STAT (R220, R222): STATE in effect, OFF while PD60 is not ON or the device is in SAFE, and the Refuge route. -/
def pwmStat (c : Nat) (s : State) : W32 :=
  let st := if frontEndOn s ∧ ((!s.guard.safe ∧ s.life.phase ≠ .dormant) ∨ refugeDrives c s) then s.effFld (pgPwm c) 0x040 0 2 else 0
  putFld (putFld (s.reg (pgPwm c) 0x044) 0 2 st) 2 1 (b2n (refugeDrives c s))

/-- The head of a log, removed by a read at the normal offset. -/
def popHead (peek : Bool) (log : List W32) : W32 × List W32 :=
  match log with
  | [] => (0, [])
  | v :: rest => (v, if peek then log else rest)

/-- BNK_INFO (R303, R304). -/
def bnkInfo (b : Nat) : W32 := w32 ((Config.colRepaired b).toNat * 0x10000 + bankSize b / 1024)

/-- GAT_RESYNC with the failures that count at this moment (R280). -/
def gatResync (s : State) : W32 :=
  (List.range 3).foldl (fun v r =>
    putFld v (2 * r) 2 (min 3 (recentFailures (shiftNo s).toNat (s.replica r).failures).length)) (s.reg pgGat 0x050)

/-- A read of a PMC_ unit page: the counters as they stand (R437). -/
def pmcRead (i off : Nat) (s : State) : W32 × State :=
  let p := pgPmc i
  let s := if off = 0x040 ∨ off = 0x044 then pmcCycle i s
    else if 0x080 ≤ off ∧ off < 0x080 + 8 * pmcK i then pmcAdvance i ((off - 0x080) / 8) s
    else s
  (s.reg p off, s)

/-- The entry that an offset of a stream page belongs to, page instance `i` of the ADT_ pages, by holder key. -/
def entryOf (i off : Nat) : Nat := if i < 16 then 32 * (i - 8) + (off - 0x100) / 0x30 else 256 + 32 * (i - 16) + (off - 0x100) / 0x30

/-- The reserved bits of KEY_LO of an AES67 entry, which read 0 (R11, R373), for the entry's control word. -/
def keyReserved (h k : Nat) (ctl : W32) : W32 := if fld ctl 18 2 = 1 ∧ k = (if h < 256 then 8 else 0x10) then 0xFF000000#32 else 0

/-- The control word of an entry, as it stands. -/
def entryCtl (h : Nat) (s : State) : W32 := if h < 256 then s.reg (rxsPage h) (rxsOff h 0) else s.reg (txsPage (h - 256)) (txsOff (h - 256) 0)

/-- A register of a stream entry, its reserved bits 0. -/
def entryRead (h p off : Nat) (s : State) : W32 := s.reg p off &&& ~~~(keyReserved h ((off - 0x100) % 0x30) (entryCtl h s))

/-- A read of a chapter's register, of a page that answers. -/
def chapterRead (p off : Nat) (peek : Bool) (s : State) : W32 × State :=
  match pageKind p with
  | none => (0, s)
  | some (k, i) =>
    match k with
    | .hwr =>
      if off = 0x074 then
        let r := popHead peek (s.core i).mmLog
        (r.1, s.setCore i { s.core i with mmLog := r.2 })
      else (s.reg p off, s)
    | .bnk => (if off = 0x04C then bnkInfo i else s.reg p off, s)
    | .ons =>
      if off = 0x040 then (putFld (s.reg p off) 1 1 (b2n (decide (rosterResult s = 1 ∨ rosterResult s = 2))), s)
      else if off = 0x050 then onsPhase s
      else if off = 0x064 then
        let r := popHead peek s.ons.cutLog
        (r.1, { s with ons := { s.ons with cutLog := r.2 } })
      else (s.reg p off, s)
    | .tpl =>
      if off = 0x048 then (w32 s.tpl.queue.length, s)
      else if off = 0x050 then (tplReadData s, s)
      else if off = 0x080 then
        let r := popHead peek s.tpl.log
        (r.1, s.setTpl { s.tpl with log := r.2 })
      else (s.reg p off, s)
    | .gat => (if off = 0x040 then gateMode s else if off = 0x050 then gatResync s else s.reg p off, s)
    | .bel =>
      if 0x040 ≤ off ∧ off < 0x068 then
        let w := (off - 0x040) / 4
        (s.bell.foldl (fun v e => if e / 32 = w then putBit v (e % 32) true else v) 0, s)
      else (s.reg p off, s)
    | .lrm => (if off = 0x040 then putFld (s.reg p off) 4 3 (stateNow s) else s.reg p off, s)
    | .wdg => if off = 0x050 then wdgStat s else (s.reg p off, s)
    | .dbg => dbgRead off peek s
    | .tdm => (if off = 0x04C then putFld (s.reg p off) 0 1 (b2n (tdmRuns i s)) else s.reg p off, s)
    | .tly => (if off = 0x044 then poolStat i s else s.reg p off, s)
    | .adtRx =>
      if 0x100 ≤ off ∧ (off - 0x100) % 0x30 = 0x20 then
        (putFld (s.reg p off) 0 16 (heldBy (entryOf i off) s), s)
      else (entryRead (entryOf i off) p off s, s)
    | .adtTx =>
      if 0x100 ≤ off ∧ (off - 0x100) % 0x30 = 0x28 then
        (putFld (s.reg p off) 0 16 (heldBy (entryOf i off) s), s)
      else (entryRead (entryOf i off) p off s, s)
    | .ovmRep => (if off = 0x058 then putFld (s.reg p off) 0 2 (roleCode (s.replica i).role) else s.reg p off, s)
    | .dep => (if off = 0x04C then shiftNo s else s.reg p off, s)
    | .pwm => (if off = 0x044 then pwmStat i s else s.reg p off, s)
    | .pmcHewer => pmcRead i off s
    | .pmcUnit => pmcRead i off s
    | .crg => (if off = 0x044 then putFld (s.reg p off) 0 21 (islandClock i s) else s.reg p off, s)
    | _ => (s.reg p off, s)

/-- A read at page offset `x`, normal or peek, of a listed page (R32, R33, R42). -/
def pageRead (p x : Nat) (s : State) : W32 × State :=
  let off := x % 0x800
  let peek := decide (0x800 ≤ x)
  if off < 0x040 then (headerRead p off s, s)
  else match pageKind p with
    | none => (0, s)
    | some (k, _) => if (findDesc k off).isNone ∨ !pageOn p s then (0, s) else chapterRead p off peek s

/-! ### Header writes -/

/-- A write of BLK_LOCK (R40). -/
def lockWrite (m : Byte) (p : Nat) (data : W32) (s : State) : State :=
  match s.lockOf p with
  | .locked => s
  | .armed by_ =>
    if fld data 0 8 = 0xC3 ∧ m = by_ then s.setLock p .locked else refuseWrite p 0x028 0x02 (s.setLock p .unlocked)
  | .unlocked => if fld data 0 8 = 0x5A then s.setLock p (.armed m) else refuseWrite p 0x028 0x02 s

/-- The owners that a bank permits (R293). -/
def ownerPermitted (b o : Nat) : Bool :=
  if b < 32 then decide (o = b) || decide (o = 0xFF)
  else if b < 48 then planOwnerOk (b - 32) o || decide (o = 0xFF)
  else if b < 51 then decide (o = 0x20 + (b - 48)) || decide (o = 0xFF)
  else decide (o = 0x23) || decide (o = 0xFF)

/-- A write of BLK_OWNER of a bank (R36, R38, R293); banks without an owning District hold no WND_MASK (R292). -/
def ownerWrite (b : Nat) (data : W32) (s : State) : State :=
  let p := pgBnk b
  let o := fld data 0 8
  if (s.bank b).draining then refuseWrite p 0x018 0x05 s
  else if !ownerPermitted b o then refuseWrite p 0x018 0x06 s
  else
    let s := if (bankDistrict b).isSome then s.setFld p 0x018 16 16 (fld data 16 16) else s
    if o = (s.bank b).owner.toNat then s else handOver b o s

/-- A write of BLK_PWR (R35, R39): the page of a retired replica ignores it (R281), and every page in SAFE (R405). -/
def pwrWrite (p : Nat) (data : W32) (s : State) : State :=
  let retired : Bool := match pageKind p with
    | some (.ovmRep, r) => decide ((s.replica r).role = .retired)
    | _ => false
  if powerUnit p = .nothing ∨ retired ∨ s.guard.safe then s
  else if fld data 0 2 = 3 then refuseWrite p 0x01C 0x06 s
  else { s.setFld p 0x01C 0 2 (fld data 0 2) with pwrAsked := sparseSet false s.pwrAsked p true }

/-- A write of 1 to BLK_ERR_CODE.CLR (R35), which also clears MPU_DENY (R344) and ERR_SHIFTS (R214). -/
def errClear (p : Nat) (s : State) : State :=
  let s := (s.setReg p 0x020 0).setReg p 0x024 0
  match pageKind p with
  | some (.mpu, _) => s.setReg p 0x044 0
  | some (.tdm, _) => s.setFld p 0x04C 8 8 0
  | _ => s

/-- A write of a register with RWL fields, once the lock has been looked at: those fields keep their value on a locked page, and
LOCKED_WRITE is recorded (R41). -/
def lockedData (p off rwl : Nat) (data : W32) (s : State) : W32 × State :=
  if rwl ≠ 0 ∧ s.isLocked p then ((data &&& ~~~(w32 rwl)) ||| (s.reg p off &&& w32 rwl), refuseWrite p off 0x01 s) else (data, s)

/-- A write of a header register (R35). -/
def headerWrite (m : Byte) (p off : Nat) (data : W32) (s : State) : State :=
  match pageKind p with
  | none => s
  | some (k, i) =>
    if off = 0x004 then
      let mask := (headerDesc k 0x004).elim 0 (·.rwl)
      let r := lockedData p off mask data s
      r.2.setReg p off (r.1 &&& w32 mask)
    else if off = 0x00C then
      let s := s.setReg p off (s.reg p off &&& ~~~data)
      if k = .bel then monitorsHold s else s
    else if off = 0x010 then
      let r := lockedData p off 0xFFFFFFFF data s
      r.2.setReg p off (r.1 ||| w32 (forcedEn k))
    else if off = 0x014 then (if s.isLocked p then s else s.setReg p 0x00C (s.reg p 0x00C ||| (data &&& w32 (eventBits k))))
    else if off = 0x018 then (if k = .bnk then ownerWrite i data s else s)
    else if off = 0x01C then pwrWrite p data s
    else if off = 0x020 then (if bit data 31 then errClear p s else s)
    else if off = 0x028 then lockWrite m p data s
    else s

/-! ### Refusals of a chapter's registers -/

/-- The Triad, and the Triad, debug and boot: the two sets of writers that chapters name. -/
def byTriad (m : Byte) : Bool := decide (m = 0x23) || decide (m = 0xFF)
def byTriadOrDebug (m : Byte) : Bool := byTriad m || decide (m = 0xFE)

/-- The writer rules of whole registers (R36 step 2): the code recorded where `m` may not write. -/
def writerRule (k : PageKind) (off : Nat) (m : Byte) : Option Nat :=
  match k with
  | .mpu => if byTriadOrDebug m then none else some 0x43
  | .ovmRep => if byTriadOrDebug m then none else some 0x40
  | .xsp => if byTriadOrDebug m then none else some 0x40
  | .ovmZone => if byTriad m then none else some 0x40
  | .gat => if off ≠ 0x058 ∨ byTriad m then none else some 0x40
  | .lrm =>
    if off = 0x040 ∨ off = 0x044 ∨ (0x060 ≤ off ∧ off < 0x070) then (if byTriad m then none else some 0x40)
    else if off = 0x08C then (if m = 0xFF then none else some 0x40)
    else none
  | .pci => if pciWriter m off then none else some 0x40
  | _ => none

/-- BEL_ROUTE values that are refused (R417): EN on a reserved source, KIND 3, INDEX out of its range. -/
def routeBad (e : Nat) (data : W32) : Bool :=
  let kind := fld data 16 2
  let x := fld data 0 7
  (bit data 31 && (decide (e = 295) || decide (312 ≤ e))) || decide (kind = 3) || (decide (kind = 1) && decide (2 ≤ x))
    || (decide (kind = 2) && decide (24 ≤ x))

/-- A spare named outside its District (R71). -/
def spareBad (data : W32) : Bool :=
  (List.range 4).any fun d => bit data (8 * d + 7) && decide (fld data (8 * d) 5 / 8 ≠ d)

/-- Watchdog limits that a write would leave (R413). -/
def wdgBad (off : Nat) (data : W32) (s : State) : Bool :=
  let v (o : Nat) : Nat := fld (if o = off then data else s.reg pgWdg o) 0 20
  decide (v 0x040 < 1000) || decide (v 0x040 < v 0x048) || decide (v 0x040 - v 0x048 < v 0x044)

/-- RATE96 as last written (R211). -/
def ratePending (s : State) : Bool := bit (s.reg pgOns 0x004) 16

/-- A stream entry's register as a write would leave it. -/
def entryAfter (p off : Nat) (data : W32) (q o : Nat) (s : State) : W32 := if q = p ∧ o = off then data else s.reg q o

/-- The stored control word and limits of a holder, with a write put in. -/
def ctlAfter (p off : Nat) (data : W32) (h : Nat) (s : State) : W32 :=
  if h < 256 then entryAfter p off data (rxsPage h) (rxsOff h 0) s else entryAfter p off data (txsPage (h - 256)) (txsOff (h - 256) 0) s
def limitsAfter (p off : Nat) (data : W32) (h : Nat) (s : State) : W32 :=
  if h < 256 then entryAfter p off data (rxsPage h) (rxsOff h 0x10) s
  else entryAfter p off data (txsPage (h - 256)) (txsOff (h - 256) 0x1C) s

/-- The sum of the FLOORs of enabled entries that name a pool, with a write put in (R366). -/
def floorsAfter (p off : Nat) (data : W32) (q : Nat) (s : State) : Nat :=
  (List.range 384).foldl (fun n h =>
    let c := ctlAfter p off data h s
    if bit c 31 && decide (fld c 28 2 = q) then n + fld (limitsAfter p off data h s) 16 16 else n) 0

/-- FLOOR_OVER for a write to the entry of holder `h` (R366). -/
def floorOver (p off : Nat) (data : W32) (h k : Nat) (s : State) : Bool :=
  let limits := if h < 256 then 0x10 else 0x1C
  let c := ctlAfter p off data h s
  let q := fld c 28 2
  if k = limits ∧ (fld data 0 16 = 0 ∨ fld data 0 16 < fld data 16 16) then true
  else (decide (k = limits) || decide (k = 0)) && bit c 31 && decide (s.getFld (pgTly q) 0x040 0 16 < floorsAfter p off data q s)

/-- The key of a holder's entry (R352, R373), with a write put in: its format and the fields that a match looks at. -/
def keyAfter (p off : Nat) (data : W32) (h : Nat) (s : State) : Nat × Nat × Nat :=
  let c := ctlAfter p off data h s
  let hi := if h < 256 then entryAfter p off data (rxsPage h) (rxsOff h 4) s
    else entryAfter p off data (txsPage (h - 256)) (txsOff (h - 256) 0xC) s
  let lo := if h < 256 then entryAfter p off data (rxsPage h) (rxsOff h 8) s
    else entryAfter p off data (txsPage (h - 256)) (txsOff (h - 256) 0x10) s
  let fmt := fld c 18 2
  (fmt, hi.toNat, if fmt = 0 then lo.toNat
    else if h < 256 then fld lo 0 16 + (if bit lo 23 then 0x10000 + fld lo 16 7 * 0x20000 else 0) else fld lo 0 23)

/-- The channels of an entry: the first and how many. -/
def channelsOf (h : Nat) (c : W32) : Nat × Nat := (fld c 0 (if h < 256 then 9 else 8), fld c 9 7 + 1)

/-- Another enabled entry of the same kind for which `same` holds. -/
def otherEntry (p off : Nat) (data : W32) (h : Nat) (same : Nat → Bool) (s : State) : Bool :=
  bit (ctlAfter p off data h s) 31
    && (if h < 256 then List.range 256 else (List.range 128).map (256 + ·)).any fun g =>
      decide (g ≠ h) && bit (ctlAfter p off data g s) 31 && same g

/-- The fields that ENTRY_ACTIVE leaves free: EN, FLOOR and CEIL (R373). -/
def entryFree (h k : Nat) : W32 :=
  if k = 0 then 0x80000000 else if k = (if h < 256 then 0x10 else 0x1C) then 0xFFFFFFFF else 0

/-- A LANDING area of `n` channels is no aligned part of one Stope bank (R355, R373); 0 is no area. -/
def landingBad (landing : W32) (n b : Nat) : Bool :=
  decide (landing ≠ 0) && (decide (landing.toNat % 8 ≠ 0) || decide (landing.toNat < 0x01000000) || decide (0x02000000 ≤ landing.toNat)
    || decide (bankOf landing.toNat ≠ bankOf (landing.toNat + 3 * b * n - 1)))

/-- BAD_VALUE of a stream entry's fields (R355, R360, R373), among them a number of channels that the landing area does not hold. -/
def entryBad (h k : Nat) (data : W32) (p off : Nat) (s : State) : Bool :=
  let b := if ratePending s then 64 else 32
  if k = 0 then
    let fmt := fld data 18 2
    let w := fld data 16 2
    let ch := channelsOf h data
    decide (2 ≤ fmt) || decide (w = 3) || (decide (fmt = 1) && decide (w = 2))
      || (if h < 256 then decide (fld data 20 4 = 0) || decide (512 < ch.1 + ch.2) || landingBad (s.reg p (off + 0x14)) ch.2 b
          else (decide (fmt = 0) && !bit data 22) || decide (256 < ch.1 + ch.2) || decide (64 < txRequest data b))
  else if h < 256 ∧ k = 0x14 then landingBad data (channelsOf h (s.reg p (off - 0x14))).2 b
  else false

/-- The bits of a stream entry's register that are fields of it. -/
def entryFields (h k p off : Nat) (s : State) : W32 :=
  match pageKind p with
  | some (kind, _) => (match findDesc kind off with | some d => w32 (d.rw ||| d.rwl) | none => 0) &&& ~~~(keyReserved h k (entryCtl h s))
  | none => 0

/-- What refuses a write to a stream entry, in the order of R373's table. -/
def entryRefused (h k : Nat) (p off : Nat) (data : W32) (s : State) : Option Nat :=
  let old := s.reg p off
  let c := channelsOf h (ctlAfter p off data h s)
  if otherEntry p off data h (fun g => decide (keyAfter p off data g s = keyAfter p off data h s)) s then some 0x40
  else if floorOver p off data h k s then some 0x41
  else if bit (if k = 0 then old else ctlAfter p off data h s) 31 ∧ (old ^^^ data) &&& entryFields h k p off s &&& ~~~(entryFree h k) ≠ 0 then some 0x42
  else if otherEntry p off data h (fun g =>
      let d := channelsOf g (ctlAfter p off data g s)
      decide (c.1 < d.1 + d.2) && decide (d.1 < c.1 + c.2)) s then some 0x43
  else if entryBad h k data p off s then some 0x06
  else none

/-- What refuses a write of TLY_CFG (R366, R374). -/
def tlyRefused (q : Nat) (data : W32) (s : State) : Option Nat :=
  let size := fld data 0 16
  if size < floorsAfter (pgTly q) 0x040 data q s then some 0x40
  else if (s.pool q).active then some 0x41
  else if size < 64 ∨ 32768 < size ∨ 0x1000000 < 256 * (fld data 16 16 + size) then some 0x06
  else none

/-- What refuses a write of TDM_CFG (R210, R211). -/
def tdmRefused (data : W32) (s : State) : Option Nat :=
  if fld data 1 2 = 3 ∨ !tdmFits data (ratePending s) then some 0x06 else none

/-- What refuses a write to a Winder channel's registers (R309, R312). -/
def wndRefused (d off : Nat) (data : W32) (s : State) : Option Nat :=
  let c := (off - 0x100) / 0x20
  let k := (off - 0x100) % 0x20
  if off < 0x100 ∨ 0x700 ≤ off then none
  else if k = 0 then
    (if 2 ≤ b2n (bit data 0) + b2n (bit data 1) + b2n (bit data 2) ∨ (4 ≤ c ∧ fld data 30 2 = 2) then some 0x06 else none)
  else if wndRuns d c s then some 0x40
  else none

/-- What refuses a write to an MPU region (R340, R344). -/
def mpuRefused (p off : Nat) (data : W32) (s : State) : Option Nat :=
  if off < 0x100 then none
  else
    let base := off - (off - 0x100) % 0x10
    if off ≠ base + 8 then (if bit (s.reg p (base + 8)) 31 then some 0x42 else none)
    else if bit data 31 ∧ fld (s.reg p (base + 4)) 6 26 < fld (s.reg p base) 6 26 then some 0x06
    else none

/-- The plan that a plan register belongs to, and its Stope bank (R71). -/
def planOf (off : Nat) : Nat × Nat := ((off - 0x100) / 0x80, (off - 0x100) % 0x80 / 8)

/-- The checks of R36 step 4 that refuse a whole write, for a register whose chapter names one. -/
def valueRefused (k : PageKind) (i p off : Nat) (data : W32) (s : State) : Option Nat :=
  let bad (b : Bool) : Option Nat := if b then some 0x06 else none
  match k with
  | .hwr => bad (decide (0x100 ≤ off) && decide (1023 < fld data 0 10 + fld data 10 6))
  | .wnd => wndRefused i off data s
  | .mpu => mpuRefused p off data s
  | .scb => if bit (s.reg p 0x048) 0 ∧ (off = 0x040 ∨ off = 0x044) then some 0x40 else none
  | .ons =>
    if off = 0x054 then bad (spareBad data)
    else if 0x100 ≤ off ∧ (planOf off).1 = activeBuffer s then some 0x40
    else none
  | .tpl => bad ((decide (off = 0x040) || decide (off = 0x04C)) && !tplAddrOk data)
  | .gat => bad (decide (off = 0x044) && decide (fld data 0 16 = 0))
  | .can => bad (decide (off = 0x040) && decide (fld data 16 16 = 0))
  | .bel => bad (decide (0x100 ≤ off) && routeBad ((off - 0x100) / 4) data)
  | .lrm => if off = 0x040 ∧ fld data 0 2 = 3 ∧ s.guard.safe then some 0x41 else none
  | .wdg => bad (decide (off < 0x04C) && wdgBad off data s)
  | .aon =>
    if off = 0x100 then bad (decide (fld data 0 2 = 3))
    else bad (decide (off = 0x104) && (decide (1999999 < fld data 0 21)
      || (decide (s.getFld pgAon 0x100 0 2 = 2) && decide (20833 ≤ fld data 0 21))))
  | .rfg => bad (refugeBad off data)
  | .tdm => if off = 0x040 then tdmRefused data s else none
  | .tly => if off = 0x040 then tlyRefused i data s else none
  | .adtShaper =>
    if off < 0x080 then none
    else
      let other := if off % 8 = 0 then off + 4 else off - 4
      bad (decide ((if off < 0x090 then 7500000 else 750000) < fld data 0 24 + s.getFld p other 0 24))
  | .adtCb => bad (decide (off = 0x040) && decide (fld data 0 16 = 0))
  | .adtRx => if off < 0x100 then none else entryRefused (entryOf i off) ((off - 0x100) % 0x30) p off data s
  | .adtTx => if off < 0x100 then none else entryRefused (entryOf i off) ((off - 0x100) % 0x30) p off data s
  | .pwm => bad (decide (off = 0x040) && decide (fld data 0 2 = 3))
  | .ovmZone => bad (decide (0x100 ≤ off) && decide (off % 0x10 = 0xC) && decide (fld data 0 2 = 3))
  | .dep =>
    if off = 0x040 then bad (decide (fld data 8 8 = 0))
    else bad (decide (off = 0x074) && decide (fld data 0 8 = 0))
  | _ => none

/-! ### Effects of a chapter's registers -/

/-- A write put into a register by its access codes (R10). -/
def storeFields (d : RegDesc) (p off : Nat) (data : W32) (s : State) : State :=
  let set := w32 (d.rw ||| d.rwl)
  let old := s.reg p off
  s.setReg p off ((old &&& ~~~set &&& ~~~(data &&& w32 d.w1c)) ||| (data &&& set))

/-- A write to a stream entry, which leaves its reserved bits 0. -/
def entryWrite (h : Nat) (d : RegDesc) (p off : Nat) (data : W32) (s : State) : State :=
  storeFields d p off (data &&& ~~~(keyReserved h ((off - 0x100) % 0x30) (entryCtl h s))) s

/-- A write of PWM_CTRL (R220, R222), its STATE not reserved: a writer that may not change STATE leaves it as it is. -/
def pwmWrite (m : Byte) (c : Nat) (data : W32) (s : State) : State :=
  let s := s.setFld (pgPwm c) 0x040 2 1 (fld data 2 1)
  if byTriad m then s.setFld (pgPwm c) 0x040 0 2 (fld data 0 2) else s

/-- The writer rule of a single field (R36 step 2, R220): the code recorded, while the write's other fields are looked at as usual. -/
def fieldRule (k : PageKind) (m : Byte) (p off : Nat) (data : W32) (s : State) : Option Nat :=
  match k with
  | .pwm => if off = 0x040 ∧ !byTriad m ∧ fld data 0 2 ≠ s.getFld p 0x040 0 2 then some 0x40 else none
  | _ => none

/-- A write of PWM_CTRL.STATE by 0x23 to channel `c`, as a zone performs it (R285). -/
def zoneState (c x : Nat) (s : State) : State :=
  if !pageOn (pgPwm c) s then refuseWrite (pgPwm c) 0x040 0x04 s else s.setFld (pgPwm c) 0x040 0 2 x

/-- A write of OVM_ZCTL (R285, R286). -/
def zoneWrite (p off : Nat) (data : W32) (s : State) : State :=
  let s := s.setReg p off (data &&& 0xFF03#32)
  let s := (List.range 96).foldl (fun s c =>
    if bit (s.reg p (off - 0xC + 4 * (c / 32))) (c % 32) then zoneState c (fld data 0 2) s else s) s
  if s.guard.safe then { s with guard := { s.guard with relays := relayLevels true s } } else s

/-- A write of ONS_ROSTER_CTRL (R55, R56): CANCEL before SWITCH. -/
def rosterCtrlWrite (data : W32) (s : State) : State :=
  let s := if bit data 2 then Machine.rosterCancel s else s
  if bit data 1 then Machine.rosterSwitch s else s

/-- A write of WND_CTRLc that is not refused (R309, R312). -/
def wndCtrlWrite (d c : Nat) (data : W32) (s : State) : State :=
  let p := pgWnd d
  let o := wndOff c 0
  let mask : W32 := if c < 4 then 0xC0000000 else 0xFE000000
  let s := s.setReg p o ((s.reg p o &&& ~~~mask) ||| (data &&& mask))
  if bit data 0 then winderStart d c s
  else if bit data 1 then winderStop d c false s
  else if bit data 2 then winderResume d c s
  else s

/-- A write of SCB_CTRL (R326, R330): while a scrub runs, PARITY keeps its value and a change of it records SCB_BUSY. -/
def scbCtrlWrite (g : Nat) (data : W32) (s : State) : State :=
  let p := pgScb g
  let runs := bit (s.reg p 0x048) 0
  let s := if !runs then s.setFld p 0x048 8 1 (fld data 8 1)
    else if bit data 8 ≠ bit (s.reg p 0x048) 8 then refuseWrite p 0x048 0x40 s
    else s
  let s := if bit data 1 then scrubStop g s else s
  if bit data 0 then scrubGo g s else s

/-- A write of GAT_SAFE (R287, R404, R442). -/
def gatSafeWrite (data : W32) (s : State) : State :=
  let s := if bit data 0 then enterSafe .gateRequest 0x1FF s else s
  if bit data 1 then assertReset .triad false s else s

/-- A write of BNK_INV_CTRL (R300, R304). -/
def invCtrlWrite (b : Nat) (data : W32) (s : State) : State :=
  if bit data 31 then invalidateGo b (fld data 0 19) s else s.setFld (pgBnk b) 0x048 0 19 (fld data 0 19)

/-- A kick whose moment the sender does not state: how long after the last one it comes is open below TIMEOUT (R411, log 2). -/
def kickNow (m : Byte) (data : W32) (s : State) : State :=
  let r := elapsedNow s
  watchdogKick m data r.1 r.2

/-- A write of a vector offset (R159, R163): its pinned line is loaded at the boundary where the write takes effect. -/
def vecWrite (d : RegDesc) (core p off : Nat) (data : W32) (s : State) : State :=
  let s := storeFields d p off data s
  let c := s.core core
  if s.isLocked p then s
  else if off = 0x040 then s.setCore core { c with excDue := true }
  else if off = 0x044 then s.setCore core { c with intDue := true } else s

/-- The effect of a write to a chapter's register that nothing refuses. -/
def chapterWrite (k : PageKind) (i : Nat) (d : RegDesc) (m : Byte) (p off : Nat) (data : W32) (s : State) : State :=
  match k with
  | .hwr => vecWrite d i p off data s
  | .ovmRep => vecWrite d (32 + i) p off data s
  | .wnd => if 0x100 ≤ off ∧ off < 0x700 ∧ (off - 0x100) % 0x20 = 0 then wndCtrlWrite i ((off - 0x100) / 0x20) data s
    else if off < 0x700 ∧ 0x100 ≤ off ∧ (off - 0x100) % 0x20 = 0xC then s.setReg p off (data &&& 0xFFFF#32)
    else if off < 0x180 ∧ 0x100 ≤ off ∧ (off - 0x100) % 0x20 = 0x14 then s
    else if off < 0x180 ∧ 0x100 ≤ off ∧ (off - 0x100) % 0x20 = 0x10 then s.setReg p off (data &&& 0xFFFFFFF0#32)
    else storeFields d p off data s
  | .bnk => if off = 0x048 then invCtrlWrite i data s
    else if off = 0x040 ∧ ¬(32 ≤ i ∧ i < 48) then storeFields d p off (data &&& 0xE#32) s
    else storeFields d p off data s
  | .ecc => if off = 0x044 then eccClrWrite i data s
    else if off = 0x04C then (if bit data 0 then selftestGo i s else s)
    else if 0x400 ≤ off then eccRetireWrite m i ((off - 0x400) / 4) data s
    else s
  | .scb => if off = 0x048 then scbCtrlWrite i data s else storeFields d p off data s
  | .ons => if off = 0x040 then rosterCtrlWrite data s
    else if 0x100 ≤ off then storeFields d p off data (rosterModified (planOf off).2 s)
    else storeFields d p off data s
  | .tpl => if off = 0x044 then stageWrite m data s else storeFields d p off data s
  | .gat => if off = 0x058 then gatSafeWrite data s
    else if off = 0x060 then (if bit data 31 then (s.setReg p 0x060 0).setReg p 0x064 0 else s)
    else storeFields d p off data s
  | .can => if off = 0x04C then canRequest m data s else storeFields d p off data s
  | .bel => if off = 0x068 then s.setReg p off (s.reg p off ||| (data &&& 0xFFFF#32))
    else if off = 0x06C then s.setReg p 0x068 (s.reg p 0x068 &&& ~~~(data &&& 0xFFFF#32))
    else storeFields d p off data s
  | .lrm => if 0x600 ≤ off then wearWrite m ((off - 0x600) / 4) data s
    else if off = 0x080 ∧ !bit data 15 then pmonOff (storeFields d p off data s)
    else storeFields d p off data s
  | .wdg => if off = 0x04C then kickNow m data s
    else if off = 0x054 then aliveWrite m data s
    else storeFields d p off data s
  | .aon => if off = 0x044 then (if bit data 31 then bootRetry m s else s) else storeFields d p off data s
  | .dbg => dbgBusWrite m off data s
  | .rfg => if off = 0x070 then refugeArmWrite m data s else storeFields d p off data s
  | .xsp => xspWrite off data s
  | .pci => pciWrite off data s
  | .tdm =>
    let t := storeFields d p off data s
    if off = 0x040 ∧ !s.isLocked p then t.setFld p 0x04C 1 1 0 else t
  | .ovmZone => if off % 0x10 = 0xC then zoneWrite p off data s else storeFields d p off data s
  | .dep => if off = 0x048 then depKick m i s
    else if 0x050 ≤ off ∧ off < 0x060 then depLineWrite m i ((off - 0x050) / 4) data s
    else storeFields d p off data s
  | .pwm => pwmWrite m i data s
  | .crg => if off = 0x040 then freqWrite m i data s
    else if off = 0x048 then
      let s := storeFields d p off data s
      if bit data 0 then surveyGo i s else s
    else storeFields d p off data s
  | .pmcGlobal => pmcGlobalWrite data s
  | .pmcHewer => if off < 0x080 then pmcSelWrite i ((off - 0x060) / 4) data s
    else pmcWrite i ((off - 0x080) / 8) (decide (off % 8 = 4)) data s
  | .pmcUnit => if off < 0x080 then pmcSelWrite i ((off - 0x060) / 4) data s
    else pmcWrite i ((off - 0x080) / 8) (decide (off % 8 = 4)) data s
  | .pmcBw => if 0x100 ≤ off ∧ off % 8 = 0 then bwCfgWrite ((off - 0x100) / 8) data s else storeFields d p off data s
  | .adtRx => entryWrite (entryOf i off) d p off data s
  | .adtTx => entryWrite (entryOf i off) d p off data s
  | _ => storeFields d p off data s

/-- A register that no write changes: every field read-only. -/
def readOnlyReg (k : PageKind) (d : RegDesc) (off : Nat) : Bool :=
  decide (d.rw = 0) && decide (d.rwl = 0) && decide (d.w1c = 0) && decide (d.w1s = 0)
    && !(match k with
      | .ecc => decide (off = 0x044)
      | .tpl => decide (off = 0x044)
      | .gat => decide (off = 0x058) || decide (off = 0x060)
      | .can => decide (off = 0x04C)
      | .bel => decide (off = 0x06C)
      | .wdg => decide (off = 0x04C) || decide (off = 0x054)
      | .aon => decide (off = 0x044)
      | .dbg => true
      | .pci => true
      | .dep => decide (off = 0x048)
      | _ => false)

/-- The error of a write that has recorded one stays the only one (R36). -/
def keepError (p : Nat) (was s : State) : State := (s.setReg p 0x020 (was.reg p 0x020)).setReg p 0x024 (was.reg p 0x024)

/-- A write at page offset `x` of a listed page, in the order of R36 (R32, R33, R41, R42). -/
def pageWrite (m : Byte) (p x : Nat) (data : W32) (s : State) : State :=
  if 0x800 ≤ x then s
  else if x < 0x040 then headerWrite m p x data s
  else match pageKind p with
    | none => s
    | some (k, i) =>
      match findDesc k x with
      | none => if k = .ovmZone && !byTriad m then refuseWrite p x 0x40 s else s
      | some d =>
        if !pageOn p s then refuseWrite p x 0x04 s
        else match writerRule k x m with
          | some code => refuseWrite p x code s
          | none =>
            if readOnlyReg k d x then s
            else
              match fieldRule k m p x data s with
              | some code => chapterWrite k i d m p x (lockedData p x d.rwl data s).1 (refuseWrite p x code s)
              | none =>
                let r := lockedData p x d.rwl data s
                match valueRefused k i p x r.1 s with
                | some code => if d.rwl ≠ 0 ∧ s.isLocked p then r.2 else refuseWrite p x code s
                | none =>
                  let t := chapterWrite k i d m p x r.1 r.2
                  if d.rwl ≠ 0 ∧ s.isLocked p then keepError p r.2 t else t

/-! ### Transactions -/

/-- The tests of a transaction in the register window: its checker, a listed page, 32 bits (R31, R32, R332); the reason of R160
where one fails. -/
def windowCheck (q : Requester) (k : AccKind) (a size : Nat) (s : State) : Option Nat × State :=
  let r := mpuCheck q k a s
  if r.1 then (some 1, r.2)
  else if (pageKind ((a - 0x10000000) / 0x1000)).isNone then (some 4, r.2)
  else if size ≠ 4 then (some 5, r.2)
  else (none, r.2)

/-- A read transaction in the register window. -/
def fabricRead (q : Requester) (k : AccKind) (a size : Nat) (s : State) : Except Nat W32 × State :=
  let r := windowCheck q k a size s
  match r.1 with
  | some e => (.error e, r.2)
  | none =>
    let v := pageRead ((a - 0x10000000) / 0x1000) (a % 0x1000) r.2
    (.ok v.1, v.2)

/-- A write transaction in the register window: the reason where it ends with an error response. -/
def fabricWrite (q : Requester) (a size : Nat) (data : W32) (s : State) : Option Nat × State :=
  let r := windowCheck q .write a size s
  match r.1 with
  | some e => (some e, r.2)
  | none => (none, pageWrite q.master ((a - 0x10000000) / 0x1000) (a % 0x1000) data r.2)

/-- A read of one master anywhere: the reason of R160, or the bytes. -/
def busRead (q : Requester) (k : AccKind) (a n : Nat) (s : State) : Except Nat Payload × State :=
  if inWindow a then
    match fabricRead q k a n s with
    | (.error e, s) => (.error e, s)
    | (.ok v, s) => (.ok (cleanBytes (bytesOf 4 v.toNat)), s)
  else
    let r := busCheck q k a s
    match r.1 with
    | some e => (.error e, r.2)
    | none =>
      let v := portRead q.master a n r.2
      (.ok v.1, v.2)

/-- A write of one master anywhere, `wr` being the thread it is made for, if any. -/
def busWrite (q : Requester) (wr : Writer) (a : Nat) (bs : Payload) (s : State) : Option Nat × State :=
  if inWindow a then fabricWrite q a bs.length (w32 (payloadNum bs)) s
  else
    let r := busCheck q .write a s
    match r.1 with
    | some e => (some e, r.2)
    | none => (none, portWrite q.master wr a bs r.2)

end Sys2Proof.Machine
end

