-- ==== Sys2Proof/Machine/Operands.lean ====
section
/-!
DEFINITION. Sys2Proof/Machine/Operands.lean: syllables and their operand formats (R97–R106), the numbers of the registers, and the
registers and poison flags of a thread as operands (R74–R81, R93).
-/

namespace Sys2Proof.Machine

/-! ### Syllables -/

/-- A syllable's word (R97). -/
def sylWord (stop : Bool) (slot opc opnd : Nat) : W32 :=
  w32 (b2n stop * 0x80000000 + slot % 4 * 0x20000000 + opc % 128 * 0x400000 + opnd % 0x400000)

/-- The operand fields of each format (R100). -/
def packDdd (f : FDdd) : Nat := f.dd.toNat * 0x20000 + f.ds1.toNat * 0x1000 + f.ds2.toNat * 0x80 + f.fn.toNat
def packDdi (f : FDdi) : Nat := f.dd.toNat * 0x20000 + f.ds1.toNat * 0x1000 + f.imm.toNat
def packMem (f : FMem) : Nat := f.dt.toNat * 0x20000 + f.sg.toNat * 0x4000 + f.ab.toNat * 0x400 + f.am.toNat * 0x100 + f.disp.toNat
def packMul (f : FMul) : Nat := f.dst.toNat * 0x80000 + f.rsv.toNat * 0x20000 + f.ds1.toNat * 0x1000 + f.ds2.toNat * 0x80 + f.fn.toNat
def packVec (f : FVec) : Nat := f.g1.toNat * 0x100000 + f.g2.toNat * 0x40000 + f.ds.toNat * 0x2000 + f.fn.toNat
def packBr (f : FBr) : Nat := f.dc.toNat * 0x20000 + f.disp.toNat

/-- A syllable of a bundle: its slot, opcode and operand fields, and the LIMM of the EXT that follows it (R97, R106). -/
structure Syl where
  slot : Nat
  opc : Nat
  f : BitVec 22
  ext : Option Nat
  deriving DecidableEq, Repr

/-- The formats of R100. -/
inductive Fmt where
  | ddd | ddi | mem | mul | vec | br | sys
  deriving DecidableEq, Repr

/-- The opcodes that the catalogue assigns in slot M (R111, R113–R115, R134, R137). -/
def opcodesM : List Nat :=
  [0x00, 0x01, 0x02, 0x03, 0x04, 0x05, 0x08, 0x0C, 0x20, 0x22, 0x24, 0x25, 0x28, 0x2C, 0x40, 0x41, 0x44, 0x45, 0x50, 0x51,
   0x58, 0x59, 0x60, 0x62, 0x64, 0x65]

/-- Slot A, format DDD (R116–R120, R96, XOPs by R98). -/
def opcodesDdd : List Nat :=
  [0x01, 0x02, 0x03, 0x04, 0x05, 0x06, 0x07, 0x08, 0x09, 0x0A, 0x0B, 0x30, 0x31, 0x40, 0x41, 0x42, 0x43, 0x44, 0x45, 0x50, 0x51, 0x52,
   0x59, 0x5A, 0x5B, 0x5C, 0x5D, 0x5F, 0x62, 0x63, 0x64, 0x65, 0x66, 0x6E] ++ (List.range 16).map (0x70 + ·)

/-- Slot A, format DDI (R116–R120). -/
def opcodesDdi : List Nat :=
  [0x11, 0x12, 0x13, 0x14, 0x32, 0x33, 0x34, 0x48, 0x49, 0x4A, 0x53, 0x54, 0x55, 0x56, 0x57, 0x58, 0x5E, 0x60, 0x61]

/-- Slot C, SYS (R124–R127, R131, R138). -/
def opcodesSys : List Nat :=
  [0x05, 0x06, 0x10, 0x11, 0x12, 0x20, 0x21, 0x22, 0x23, 0x30, 0x31, 0x32, 0x33, 0x34, 0x35, 0x36, 0x37, 0x38]

/-- The format of an assigned opcode; none of one that the catalogue does not assign (R98, R110). A NOP takes no operand. -/
def fmtOf (slot opc : Nat) : Option Fmt :=
  match slot with
  | 0 => if opc ∈ opcodesM then some .mem else none
  | 1 => if opc = 0 then some .sys else if opc ∈ opcodesDdd then some .ddd else if opc ∈ opcodesDdi then some .ddi else none
  | 2 =>
    if opc ∈ [0x01, 0x02, 0x03, 0x04, 0x05, 0x40, 0x41, 0x42, 0x43] then some .mul
    else if opc ∈ [0x20, 0x21, 0x22, 0x23, 0x24, 0x49] then some .vec
    else if opc = 0x48 then some .ddd else none
  | _ =>
    if opc = 0 then some .sys else if opc ∈ [0x01, 0x02, 0x03, 0x04] then some .br else if opc ∈ opcodesSys then some .sys else none

/-- A syllable takes an EXT (R106). -/
def extendable (y : Syl) : Bool :=
  match fmtOf y.slot y.opc with
  | some .ddi => true
  | some .br => true
  | some .mem => decide (fld y.f 8 2 < 2)
  | _ => false

/-- An EXT (R106). -/
def isExt (w : W32) : Bool := decide (fld w 29 2 = 3) && decide (fld w 22 7 = 0x7F)

/-! ### Fields -/

def Syl.dd (y : Syl) : Nat := fld y.f 17 5
def Syl.ds1 (y : Syl) : Nat := fld y.f 12 5
def Syl.ds2 (y : Syl) : Nat := fld y.f 7 5
def Syl.fn (y : Syl) : Nat := fld y.f 0 7
def Syl.sg (y : Syl) : Nat := fld y.f 14 3
def Syl.ab (y : Syl) : Nat := fld y.f 10 4
def Syl.am (y : Syl) : Nat := fld y.f 8 2

/-- The long immediate L of an extended syllable whose own field supplies bits 23:22 (R106). -/
def longImm (own limm : Nat) : Nat := own % 4 * 0x400000 + limm % 0x400000

/-- The 24-bit immediate of a DDI syllable: IMM12 sign- or zero-extended, or L (R101, R106). -/
def Syl.imm (y : Syl) (signed : Bool) : W24 :=
  match y.ext with
  | some l => BitVec.ofNat 24 (longImm (fld y.f 0 12) l)
  | none => if signed then wrap 24 (sgn 12 (fld y.f 0 12)) else BitVec.ofNat 24 (fld y.f 0 12)

/-- The byte displacement of a MEM syllable of access size `b` (R103, R106). -/
def Syl.disp (y : Syl) (b : Nat) : Int :=
  match y.ext with
  | some l => sgn 24 (longImm (fld y.f 0 8) l)
  | none => (b : Int) * sgn 8 (fld y.f 0 8)

/-- The target of a BR syllable in the bundle at `pc` (R102, R106). -/
def Syl.target (y : Syl) (pc : W24) : W24 :=
  match y.ext with
  | some l => BitVec.ofNat 24 (longImm (fld y.f 0 17) l)
  | none => wrap 24 ((pc.toNat : Int) + 4 * sgn 17 (fld y.f 0 17))

/-! ### Registers -/

/-- Numbers of the registers, the codes of R265: A, D, X, P, S, special. -/
def rA (n : Nat) : Nat := n
def rD (n : Nat) : Nat := 0x10 + n
def rX (n : Nat) : Nat := 0x30 + n
def rP (n : Nat) : Nat := 0x38 + n
def rS (n : Nat) : Nat := 0x40 + n
def rSp (n : Nat) : Nat := 0x50 + n

/-- Registers of a thread as operands. -/
def Thread.aReg (t : Thread) (n : Nat) : W24 := sparseGet 0 t.a n
def Thread.dReg (t : Thread) (n : Nat) : Val 24 := sparseGet ⟨0, false⟩ t.d n
def Thread.xReg (t : Thread) (n : Nat) : Val 56 := sparseGet ⟨0, false⟩ t.x n
def Thread.pReg (t : Thread) (n : Nat) : Val 48 := sparseGet ⟨0, false⟩ t.p n
def Thread.sReg (t : Thread) (n : Nat) : Seg := sparseGet ⟨0, 0, 0⟩ t.s n

/-- SR fields (R84). -/
def Thread.priv (t : Thread) : Bool := bit t.sr 0
def Thread.ie (t : Thread) : Bool := bit t.sr 1
def Thread.locked (t : Thread) : Bool := bit t.sr 7

/-- RC as a bundle reads it: under REP the value at the prefix (R126). -/
def Thread.rcRead (t : Thread) : W24 :=
  match t.rep with
  | some r => if r.kind = .rep then r.rcAtPrefix else t.rc
  | none => t.rc

/-- A special register's 32 bits (R83). -/
def Thread.special (t : Thread) (n : Nat) : W32 :=
  match n with
  | 0 => t.pc.zeroExtend 32
  | 1 => t.rcRead.zeroExtend 32
  | 2 => t.bn.zeroExtend 32
  | 3 => t.sr
  | 4 => t.xsr
  | 5 => t.xpc.zeroExtend 32
  | 6 => t.xcause
  | _ => t.xinfo

/-- Specials of 32 bits, which move in a D pair (R120). -/
def pairSpecial (n : Nat) : Bool := decide (n = 3) || decide (n = 4) || decide (n = 6) || decide (n = 7)

/-- A write of a bundle: a register by its number, its value as a number, and its poison flag. An S register is written as BASE in bits
31:0, word 1 in bits 63:32 and OWNER above. -/
structure RegWrite where
  reg : Nat
  val : Nat
  poison : Bool
  deriving DecidableEq, Repr

/-- A write to the special register RC: deferred under REP (R126). -/
def Thread.writeRc (t : Thread) (v : W24) : Thread :=
  match t.rep with
  | some r => if r.kind = .rep then { t with rep := some { r with rcDeferred := some v } } else { t with rc := v }
  | none => { t with rc := v }

/-- A write of a special register's writable fields (R83–R85, R133). -/
def Thread.writeSpecial (t : Thread) (n : Nat) (v : W32) : Thread :=
  match n with
  | 1 => t.writeRc (v.truncate 24)
  | 2 => { t with bn := v.truncate 24 }
  | 3 => { t with sr := putFld t.sr 0 2 (fld v 0 2) }
  | 4 => { t with xsr := putFld (putFld t.xsr 0 2 (fld v 0 2)) 25 1 (fld v 25 1) }
  | 5 => { t with xpc := v.truncate 24 }
  | 7 => { t with xinfo := putFld (v &&& 0x01FFFFFF#32) 28 4 (if fld v 28 4 < 7 then fld v 28 4 else fld t.xinfo 28 4) }
  | _ => t

/-- One write performed. -/
def Thread.write (t : Thread) (w : RegWrite) : Thread :=
  if w.reg < 0x10 then { t with a := sparseSet 0 t.a w.reg (BitVec.ofNat 24 w.val) }
  else if w.reg < 0x30 then { t with d := sparseSet ⟨0, false⟩ t.d (w.reg - 0x10) ⟨BitVec.ofNat 24 w.val, w.poison⟩ }
  else if w.reg < 0x38 then { t with x := sparseSet ⟨0, false⟩ t.x (w.reg - 0x30) ⟨BitVec.ofNat 56 w.val, w.poison⟩ }
  else if w.reg < 0x40 then t
  else if w.reg < 0x48 then
    { t with s := sparseSet ⟨0, 0, 0⟩ t.s (w.reg - 0x40) ⟨w32 w.val, w32 (w.val / 2 ^ 32), w32 (w.val / 2 ^ 64)⟩ }
  else t.writeSpecial (w.reg - 0x50) (w32 w.val)

/-- The writes of a bundle, which take effect together: no two name one register (R81). -/
def Thread.writeAll (t : Thread) (ws : List RegWrite) : Thread := ws.foldl Thread.write t

/-- A D register's write. -/
def wrD (n : Nat) (v : Val 24) : RegWrite := ⟨rD n, v.bits.toNat, v.poison⟩
def wrX (n : Nat) (v : Val 56) : RegWrite := ⟨rX n, v.bits.toNat, v.poison⟩
def wrA (n : Nat) (v : W24) : RegWrite := ⟨rA n, v.toNat, false⟩

/-! ### Register sets -/

/-- `n` D registers from `d` on, of which there are 32. -/
def dRange (d n : Nat) : List Nat := ((List.range n).filter fun i => decide (d + i < 32)).map fun i => rD (d + i)

/-- The registers a MEM syllable writes, post-modify included (R103, R111–R115, R134, R137). -/
def writesMem (y : Syl) : List Nat :=
  let o := y.opc
  let dst :=
    if o ≤ 0x05 ∨ o = 0x60 ∨ o = 0x64 ∨ o = 0x65 then [rD y.dd]
    else if o = 0x08 then (if y.dd < 16 then [rA y.dd] else [])
    else if o = 0x0C then (if y.dd < 8 then [rX y.dd] else [])
    else if o = 0x40 ∨ o = 0x41 then dRange y.dd 8
    else if o = 0x50 then dRange y.dd 2
    else if o = 0x58 then (if y.dd < 8 then [rS y.dd] else [])
    else []
  dst ++ (if y.am = 1 then [rA y.ab] else [])

/-- The registers an A-slot syllable writes. -/
def writesAlu (y : Syl) : List Nat :=
  let o := y.opc
  if o = 0 then []
  else if (0x30 ≤ o ∧ o ≤ 0x34) ∨ o = 0x64 then (if y.dd < 16 then [rA y.dd] else [])
  else if o = 0x65 then dRange y.dd (if pairSpecial y.ds1 then 2 else 1)
  else if o = 0x66 then (if y.dd < 8 then [rSp y.dd] else [])
  else [rD y.dd]

/-- The registers an X-slot syllable writes. -/
def writesMac (y : Syl) : List Nat :=
  let o := y.opc
  if o = 0x01 then [rP (fld y.f 19 2)]
  else if o = 0x48 then [rD y.dd]
  else if o = 0x49 then dRange (8 * fld y.f 20 2) 8
  else if 0x20 ≤ o ∧ o ≤ 0x24 then (List.range 8).map rX
  else [rX (fld y.f 19 3)]

/-- The registers a C-slot syllable writes; RETX, LOCK and UNLOCK write SR, and RETX XINFO as well (R124–R127, R133, R134). -/
def writesCtl (y : Syl) : List Nat :=
  let o := y.opc
  if o = 0x04 then (if y.dd < 16 then [rA y.dd] else [])
  else if o = 0x06 then (if y.ds1 < 16 then [rA y.ds1] else [])
  else if o = 0x11 ∨ o = 0x12 then [rSp 1]
  else if o = 0x31 then [rSp 3, rSp 7]
  else if o = 0x34 then [rD y.dd]
  else if o = 0x35 then [rSp 3]
  else if o = 0x36 then [rSp 3, rD y.dd]
  else []

/-- The registers a syllable writes; none for an opcode that is not assigned (R81). -/
def writesOf (y : Syl) : List Nat :=
  if (fmtOf y.slot y.opc).isNone then []
  else match y.slot with
    | 0 => writesMem y
    | 1 => writesAlu y
    | 2 => writesMac y
    | _ => writesCtl y

end Sys2Proof.Machine
end

