-- ==== Sys2Proof/Machine/Alu.lean ====
section
/-!
DEFINITION. Sys2Proof/Machine/Alu.lean: the operations of slot A on D and A registers (R116–R120, R96) and XOP sequences (R139–R141).
-/

namespace Sys2Proof.Machine

/-! ### Values -/

/-- A 24-bit word as a signed integer, and a signed integer saturated to 24 bits. -/
def s24 (a : W24) : Int := a.toInt
def sat24 (x : Int) : W24 := wrap 24 (max (-0x800000) (min 0x7FFFFF x))

/-- 1 or 0 (R77). -/
def flag24 (b : Bool) : W24 := if b then 1 else 0

/-! ### Arithmetic and logic (R116) -/

def aluAdd (a b : W24) : W24 := a + b
def aluSub (a b : W24) : W24 := a - b
def aluAdds (a b : W24) : W24 := sat24 (s24 a + s24 b)
def aluSubs (a b : W24) : W24 := sat24 (s24 a - s24 b)
def aluNeg (a : W24) : W24 := -a
def aluAbs (a : W24) : W24 := sat24 (if s24 a < 0 then -(s24 a) else s24 a)
def aluAnd (a b : W24) : W24 := a &&& b
def aluOr (a b : W24) : W24 := a ||| b
def aluXor (a b : W24) : W24 := a ^^^ b
def aluMin (a b : W24) : W24 := if s24 a ≤ s24 b then a else b
def aluMax (a b : W24) : W24 := if s24 a ≤ s24 b then b else a

/-- ACIRC (R116). -/
def aluCirc (d m imm : W24) : W24 :=
  if m = 0 then d + imm else wrap 24 (Int.emod ((d.toNat : Int) + s24 imm) (m.toNat : Int))

/-! ### Compares (R117) -/

def aluCeq (a b : W24) : W24 := flag24 (decide (a = b))
def aluCne (a b : W24) : W24 := flag24 (decide (a ≠ b))
def aluClt (a b : W24) : W24 := flag24 (decide (s24 a < s24 b))
def aluCle (a b : W24) : W24 := flag24 (decide (s24 a ≤ s24 b))
def aluCltu (a b : W24) : W24 := flag24 (decide (a.toNat < b.toNat))
def aluCleu (a b : W24) : W24 := flag24 (decide (a.toNat ≤ b.toNat))
def aluCgt (a b : W24) : W24 := flag24 (decide (s24 b < s24 a))

/-! ### Shifts and bits (R118) -/

def aluShl (a : W24) (n : Nat) : W24 := if 24 ≤ n then 0 else a <<< n
def aluShra (a : W24) (n : Nat) : W24 := a.sshiftRight (min n 23)
def aluShrl (a : W24) (n : Nat) : W24 := if 24 ≤ n then 0 else a >>> n

/-- A field of `w` bits at `p`; positions above 23 read as 0. -/
def aluField (a : W24) (w p : Nat) : Nat := a.toNat / 2 ^ p % 2 ^ w

/-- BFEXT and BFEXTS of a field. -/
def aluBfext (a : W24) (w p : Nat) : W24 := BitVec.ofNat 24 (aluField a w p)
def aluBfexts (a : W24) (w p : Nat) : W24 := wrap 24 (sgn w (aluField a w p))

/-- BFINS of the low `w` bits of `a` at `p`; positions above 23 are discarded. -/
def aluBfins (d a : W24) (w p : Nat) : W24 :=
  let m : W24 := BitVec.ofNat 24 ((2 ^ w - 1) * 2 ^ p)
  (d &&& ~~~m) ||| (BitVec.ofNat 24 (a.toNat % 2 ^ w * 2 ^ p) &&& m)

/-- Leading bits of a word equal to `b`, from bit `n - 1` down. -/
def leading (a : W24) (b : Bool) : Nat → Nat
  | 0 => 0
  | n + 1 => if a.getLsbD n = b then 1 + leading a b n else 0

def aluClz (a : W24) : W24 := BitVec.ofNat 24 (leading a false 24)
def aluCls (a : W24) : W24 := BitVec.ofNat 24 (leading a (a.getLsbD 23) 23)
def aluSclamp (a : W24) : W24 := if a = 0x800000 then 0x800001 else a

/-- The byte that selector `s` names in the pair `a`, `b` (R119). -/
def permByte (a b : W24) (s : Nat) : Nat :=
  if s < 3 then fld a (8 * s) 8 else if s < 6 then fld b (8 * (s - 3)) 8 else 0

/-- BPERM of a pair under a selector (R119): the result's flag comes from the registers that supply a byte. -/
def aluPerm (a b : Val 24) (sel : Nat) : Val 24 :=
  let s (j : Nat) : Nat := sel / 8 ^ j % 8
  let fromA := (List.range 3).any fun j => decide (s j < 3)
  let fromB := (List.range 3).any fun j => decide (3 ≤ s j) && decide (s j < 6)
  ⟨BitVec.ofNat 24 (permByte a.bits b.bits (s 0) + permByte a.bits b.bits (s 1) * 0x100 + permByte a.bits b.bits (s 2) * 0x10000),
    (a.poison && fromA) || (b.poison && fromB)⟩

/-! ### Operations on D registers -/

/-- What an operation on D registers reads, and how its result and flag follow (R93, R116–R120). -/
inductive AluOp where
  /-- Ds1 and Ds2 -/
  | two (f : W24 → W24 → W24)
  /-- Ds1 alone -/
  | one (f : W24 → W24)
  /-- Ds1 and a signed immediate -/
  | imm (f : W24 → W24 → W24)
  /-- Ds1 shifted by Ds2, a poisoned count raising POISON_USE -/
  | shift (f : W24 → Nat → W24)
  /-- Ds1 shifted by an immediate of at most 23 -/
  | shiftI (f : W24 → Nat → W24)
  /-- a field of Ds1 whose place an immediate gives -/
  | field (f : W24 → Nat → Nat → W24)
  | fieldIns
  /-- the same with the place in Ds2 -/
  | fieldR
  | fieldInsR
  | perm
  | permI
  /-- a sign- or zero-extended immediate -/
  | const (signed : Bool)

/-- The operations on D registers by opcode, without the moves between classes (R116–R120). -/
def aluOp (opc : Nat) : Option AluOp :=
  match opc with
  | 0x01 => some (.two aluAdd)
  | 0x02 => some (.two aluSub)
  | 0x03 => some (.two aluAdds)
  | 0x04 => some (.two aluSubs)
  | 0x05 => some (.one aluNeg)
  | 0x06 => some (.one aluAbs)
  | 0x07 => some (.two aluAnd)
  | 0x08 => some (.two aluOr)
  | 0x09 => some (.two aluXor)
  | 0x0A => some (.two aluMin)
  | 0x0B => some (.two aluMax)
  | 0x11 => some (.imm aluAdd)
  | 0x12 => some (.imm aluAnd)
  | 0x13 => some (.imm aluOr)
  | 0x14 => some (.imm aluXor)
  | 0x40 => some (.two aluCeq)
  | 0x41 => some (.two aluCne)
  | 0x42 => some (.two aluClt)
  | 0x43 => some (.two aluCle)
  | 0x44 => some (.two aluCltu)
  | 0x45 => some (.two aluCleu)
  | 0x48 => some (.imm aluCeq)
  | 0x49 => some (.imm aluClt)
  | 0x4A => some (.imm aluCgt)
  | 0x50 => some (.shift aluShl)
  | 0x51 => some (.shift aluShra)
  | 0x52 => some (.shift aluShrl)
  | 0x53 => some (.shiftI aluShl)
  | 0x54 => some (.shiftI aluShra)
  | 0x55 => some (.shiftI aluShrl)
  | 0x56 => some (.field aluBfext)
  | 0x57 => some (.field aluBfexts)
  | 0x58 => some .fieldIns
  | 0x59 => some .fieldR
  | 0x5A => some .fieldInsR
  | 0x5B => some (.one aluClz)
  | 0x5C => some (.one aluCls)
  | 0x5D => some .perm
  | 0x5E => some .permI
  | 0x5F => some (.one aluSclamp)
  | 0x60 => some (.const true)
  | 0x61 => some (.const false)
  | 0x62 => some (.one id)
  | _ => none

/-- The immediate of an operation is sign-extended (R101, R118–R120). -/
def AluOp.signedImm : AluOp → Bool
  | .imm _ => true
  | .const s => s
  | _ => false

/-- An immediate that the operation cannot take (R106, R118, R119): ILLEGAL_OPERAND. -/
def AluOp.immBad (op : AluOp) (imm : W24) : Bool :=
  let w := fld imm 6 6
  let p := fld imm 0 6
  match op with
  | .shiftI _ => decide (23 < imm.toNat)
  | .field _ => decide (4096 ≤ imm.toNat) || decide (w = 0) || decide (24 < p + w)
  | .fieldIns => decide (4096 ≤ imm.toNat) || decide (w = 0) || decide (24 < p + w)
  | .permI => decide (512 ≤ imm.toNat)
  | _ => false

/-- The operand whose poison raises POISON_USE: a count, position, width or selector in a register (R95). -/
def AluOp.bites (op : AluOp) (b : Val 24) : Bool :=
  match op with
  | .shift _ => b.poison
  | .fieldR => b.poison
  | .fieldInsR => b.poison
  | .perm => b.poison
  | _ => false

/-- The result of an operation on Ds1 and its pair partner, Ds2, Dd and the immediate (R93, R116–R120). -/
def AluOp.eval (op : AluOp) (a a1 b d : Val 24) (imm : W24) : Val 24 :=
  let w := fld b.bits 6 6
  let p := fld b.bits 0 6
  match op with
  | .two f => ⟨f a.bits b.bits, a.poison || b.poison⟩
  | .one f => ⟨f a.bits, a.poison⟩
  | .imm f => ⟨f a.bits imm, a.poison⟩
  | .shift f => ⟨f a.bits b.bits.toNat, a.poison⟩
  | .shiftI f => ⟨f a.bits imm.toNat, a.poison⟩
  | .field f => ⟨f a.bits (fld imm 6 6) (fld imm 0 6), a.poison⟩
  | .fieldIns => ⟨aluBfins d.bits a.bits (fld imm 6 6) (fld imm 0 6), a.poison || d.poison⟩
  | .fieldR => if w = 0 ∨ 24 ≤ p then ⟨0, false⟩ else ⟨aluBfext a.bits w p, a.poison⟩
  | .fieldInsR => if w = 0 ∨ 24 ≤ p then d else ⟨aluBfins d.bits a.bits w p, a.poison || d.poison⟩
  | .perm => aluPerm a a1 b.bits.toNat
  | .permI => aluPerm a a1 imm.toNat
  | .const _ => ⟨imm, false⟩

/-- An operation of format DDD with two sources. -/
def AluOp.twoSources : AluOp → Bool
  | .two _ => true
  | .shift _ => true
  | .fieldR => true
  | .fieldInsR => true
  | .perm => true
  | _ => false

/-- The fields of a DDD or DDI syllable of an operation on D registers are in order (R100, R110, R118–R120). -/
def aluOperandOk (op : AluOp) (y : Syl) : Bool :=
  match op with
  | .two _ => decide (y.fn = 0)
  | .one _ => decide (y.fn = 0) && decide (y.ds2 = 0)
  | .shift _ => decide (y.fn = 0)
  | .fieldR => decide (y.fn = 0)
  | .fieldInsR => decide (y.fn = 0)
  | .perm => decide (y.fn = 0) && decide (y.ds1 % 2 = 0)
  | .permI => decide (y.ds1 % 2 = 0) && !op.immBad (y.imm false)
  | .const _ => decide (y.ds1 = 0)
  | .imm _ => true
  | _ => !op.immBad (y.imm false)

/-! ### XOP (R139–R141) -/

/-- A micro-operation's four words. -/
structure MicroOp where
  w0 : W32
  w1 : W32
  w2 : W32
  w3 : W32
  deriving DecidableEq, Repr

/-- The micro-store entry of a District (R140). -/
def microOp (district entry : Nat) (s : State) : MicroOp :=
  let word (i : Nat) : W32 := w32 (numOf (cellsRead 0 s.mem.ustore (district * 0x4000 + 16 * entry + 4 * i) 4))
  ⟨word 0, word 1, word 2, word 3⟩

/-- The temporaries U0–U7. -/
abbrev Temps := List (Val 24)

def temp (u : Temps) (k : Nat) : Val 24 := u.getD k ⟨0, false⟩

/-- The operand that a SRC value names (R140); none for a reserved one. -/
def microSrc (u : Temps) (d1 d2 dd : Val 24) (imm : W24) (src : Nat) : Option (Val 24) :=
  if src < 8 then some (temp u src)
  else if src = 0x10 then some d1
  else if src = 0x11 then some d2
  else if src = 0x12 then some dd
  else if src = 0x20 then some ⟨imm, false⟩
  else none

/-- A product of two 24-bit operands with the FN bits of R121: U1, U2, FRAC. -/
def product (a b : W24) (fn : Nat) : Int :=
  let x : Int := if fn % 2 = 1 then (a.toNat : Int) else s24 a
  let y : Int := if fn / 2 % 2 = 1 then (b.toNat : Int) else s24 b
  if fn / 4 % 2 = 1 then
    (if fn % 4 = 0 ∧ x = -0x800000 ∧ y = -0x800000 then 0x7FFFFFFFFFFF else x * y * 2)
  else x * y

/-- How a micro-operation ends: with a result, or an exception of its bundle. -/
inductive MicroEnd where
  | ok (v : Val 24)
  | illegal
  | poison
  deriving DecidableEq, Repr

/-- A-slot opcodes that a micro-operation may name (R140). -/
def microOpc (opc : Nat) : Bool :=
  (decide (0x01 ≤ opc) && decide (opc ≤ 0x14)) || (decide (0x40 ≤ opc) && decide (opc ≤ 0x5F)) || decide (opc = 0x60) || decide (opc = 0x62)

/-- The result of a micro-operation's unit (R140, R141); FN other than 0 is illegal outside a multiply (log 91). -/
def microUnit (m : MicroOp) (u : Temps) (d1 d2 dd : Val 24) : MicroEnd :=
  let unit := fld m.w0 22 2
  let opc := fld m.w0 15 7
  let sa := fld m.w1 24 8
  let sb := fld m.w1 16 8
  let fn := fld m.w1 0 7
  let imm : W24 := m.w2.truncate 24
  let src := microSrc u d1 d2 dd imm
  if unit = 1 then
    if opc ≠ 1 ∨ 8 ≤ fn then .illegal
    else match src sa, src sb with
      | some a, some b => .ok ⟨wrap 24 ((product a.bits b.bits fn) / 0x1000000), a.poison || b.poison⟩
      | _, _ => .illegal
  else if unit ≠ 0 ∨ !microOpc opc ∨ fn ≠ 0 then .illegal
  else match aluOp opc with
    | none => .illegal
    | some op =>
      let paired := match op with | .perm => true | .permI => true | _ => false
      let a := src sa
      let b := if op.twoSources then src sb else some ⟨0, false⟩
      if op.immBad imm || (paired && (decide (8 ≤ sa) || decide (sa % 2 = 1))) then .illegal
      else match a, b with
        | some a, some b =>
          if op.bites b then .poison
          else .ok (op.eval a (if paired then temp u (sa + 1) else ⟨0, false⟩) b (temp u (fld m.w0 24 3)) imm)
        | _, _ => .illegal

/-- A micro-operation on the temporaries (R140, R141). -/
def microStep (m : MicroOp) (u : Temps) (d1 d2 dd : Val 24) : MicroEnd × Temps :=
  if bit m.w0 31 || decide (fld m.w0 0 15 ≠ 0) || decide (fld m.w1 7 9 ≠ 0) || decide (fld m.w2 24 8 ≠ 0) || decide (m.w3 ≠ 0) then
    (.illegal, u)
  else
    let dst := fld m.w0 24 3
    let pred := temp u (fld m.w0 27 3)
    match microUnit m u d1 d2 dd with
    | .ok v =>
      if bit m.w0 30 then
        if pred.poison then (.poison, u)
        else if pred.bits = 0 then (.ok (temp u dst), u)
        else (.ok v, u.set dst v)
      else (.ok v, u.set dst v)
    | e => (e, u)

/-- A sequence of micro-operations; the result is the last one's temporary (R141). -/
def microRun (d1 d2 dd : Val 24) : List MicroOp → Temps → MicroEnd → MicroEnd
  | [], _, last => last
  | m :: rest, u, _ =>
    match microStep m u d1 d2 dd with
    | (.ok v, u) => microRun d1 d2 dd rest u (.ok v)
    | (e, _) => e

/-- U0–U7 at the start. -/
def freshTemps : Temps := List.replicate 8 ⟨0, false⟩

/-- The micro-operations of XOPk on Hewer `n` (R139). -/
def xopLength (n k : Nat) (s : State) : Nat := fld (s.effReg (pgHwr n) (0x100 + 4 * k)) 10 6 + 1

/-- XOPk on Hewer `n` (R139, R141, R144). An illegal micro-operation is met whatever the operands carry: ILLEGAL_OPCODE ranks ahead of
POISON_USE (R158). -/
def runXop (n k : Nat) (d1 d2 dd : Val 24) (s : State) : MicroEnd :=
  let e := s.effReg (pgHwr n) (0x100 + 4 * k)
  if !bit e 31 || sparseGet false s.ustoreBad (4 + n / 8) then .illegal
  else
    let ms := (List.range (xopLength n k s)).map fun i => microOp (n / 8) (fld e 0 10 + i) s
    match microRun ⟨0, false⟩ ⟨0, false⟩ ⟨0, false⟩ ms freshTemps .illegal with
    | .illegal => .illegal
    | _ => microRun d1 d2 dd ms freshTemps .illegal

end Sys2Proof.Machine
end

