-- ==== Sys2Proof/Machine/Mac.lean ====
section
/-!
DEFINITION. Sys2Proof/Machine/Mac.lean: the operations of slot X: products, accumulators, extraction, vector lanes (R79, R80,
R121–R123, R488).
-/

namespace Sys2Proof.Machine

/-- An X register's value as an integer, and an integer modulo 2^56 (R79). -/
def s56 (x : BitVec 56) : Int := x.toInt

/-- The multiplier of a Hewer that a multiply uses (R488): a vector operation the one of its lane, a scalar one 0 in PRIMARY and 7 in a SHADOW pass.
The choice changes no result, so that no operation depends on it. -/
def multiplierOf (lane : Option Nat) (shadow : Bool) : Nat := lane.getD (if shadow then 7 else 0)

/-- A product of two D registers with its flag (R80, R93, R121). -/
def mulProduct (a b : Val 24) (fn : Nat) : Val 48 := ⟨wrap 48 (product a.bits b.bits fn), a.poison || b.poison⟩

/-- Accumulation of a product: `sign` is 1 or -1 (R121, R123). -/
def mulAcc (x : Val 56) (a b : Val 24) (fn : Nat) (sign : Int) : Val 56 :=
  ⟨wrap 56 (s56 x.bits + sign * product a.bits b.bits fn), x.poison || a.poison || b.poison⟩

/-- A lane's plain product (VMUL). -/
def mulLane (a b : Val 24) (fn : Nat) : Val 56 := ⟨wrap 56 (product a.bits b.bits fn), a.poison || b.poison⟩

/-- An accumulator plus a product register (MACP), and a product register alone (MOVPX). -/
def accProduct (x : Val 56) (p : Val 48) : Val 56 := ⟨wrap 56 (s56 x.bits + p.bits.toInt), x.poison || p.poison⟩
def ofProduct (p : Val 48) : Val 56 := ⟨wrap 56 p.bits.toInt, p.poison⟩

/-- XADD and XSHA. -/
def accAdd (x y : Val 56) : Val 56 := ⟨x.bits + y.bits, x.poison || y.poison⟩
def accShift (x : Val 56) (n : Int) : Val 56 :=
  ⟨if 0 ≤ n then x.bits <<< n.toNat else x.bits.sshiftRight (-n).toNat, x.poison⟩

/-- A 24-bit value placed in bits 47:24 of an accumulator (R79, XMOVD). -/
def accPlace (a : Val 24) : Val 56 := ⟨wrap 56 (s24 a.bits * 0x1000000), a.poison⟩

/-- The extraction of R122. -/
def accExtract (x : Val 56) (sh : Nat) (trunc : Bool) : Val 24 :=
  let v := s56 x.bits * (2 ^ sh : Nat)
  let v := if trunc then v else v + 0x800000
  ⟨sat24 (v / 0x1000000), x.poison⟩

/-- The FN of an extraction (R122). -/
def extractFnOk (fn : Nat) : Bool := decide (fn % 16 ≤ 8) && decide (fn / 32 = 0)

/-- The operand fields of a syllable of slot X are in order (R100, R110, R121–R123). -/
def macOperandOk (y : Syl) : Bool :=
  let o := y.opc
  let rsv := decide (fld y.f 17 2 = 0)
  let none2 := decide (y.ds2 = 0)
  if o = 0x01 then rsv && decide (fld y.f 21 1 = 0) && decide (y.fn < 8)
  else if o = 0x02 ∨ o = 0x03 then rsv && decide (y.fn < 8)
  else if o = 0x04 ∨ o = 0x05 then rsv && decide (y.ds1 < 4) && none2 && decide (y.fn = 0)
  else if o = 0x40 then rsv && decide (y.ds1 = 0) && none2 && decide (y.fn = 0)
  else if o = 0x41 then rsv && decide (y.ds1 < 8) && none2 && decide (y.fn = 0)
  else if o = 0x42 then rsv && decide (y.ds1 = 0) && none2 && decide (y.fn ≤ 24 ∨ 104 ≤ y.fn)
  else if o = 0x43 then rsv && none2 && decide (y.fn = 0)
  else if o = 0x48 then decide (y.ds1 < 8) && none2 && extractFnOk y.fn
  else if o = 0x49 then decide (fld y.f 13 7 = 0) && extractFnOk (fld y.f 0 13)
  else if o ≤ 0x22 then decide (fld y.f 13 5 = 0) && decide (fld y.f 0 13 < 8)
  else decide (fld y.f 18 2 = 0) && decide (fld y.f 0 13 < 8)

/-- The writes of a vector multiply (R78, R123). -/
def vectorWrites (y : Syl) (t : Thread) : List RegWrite :=
  let fn := fld y.f 0 13
  (List.range 8).map fun i =>
    let a := t.dReg (8 * fld y.f 20 2 + i)
    let b := if y.opc ≤ 0x22 then t.dReg (8 * fld y.f 18 2 + i) else t.dReg (fld y.f 13 5)
    let x := t.xReg i
    wrX i (if y.opc = 0x20 then mulLane a b fn
      else if y.opc = 0x21 ∨ y.opc = 0x23 then mulAcc x a b fn 1 else mulAcc x a b fn (-1))

/-- The writes of a slot X syllable, and the product it starts (R80, R121–R123). -/
def macWrites (y : Syl) (t : Thread) : List RegWrite × Option Product :=
  let x := fld y.f 19 3
  let a := t.dReg y.ds1
  let b := t.dReg y.ds2
  match y.opc with
  | 0x01 => ([], some ⟨fld y.f 19 2, mulProduct a b y.fn⟩)
  | 0x02 => ([wrX x (mulAcc (t.xReg x) a b y.fn 1)], none)
  | 0x03 => ([wrX x (mulAcc (t.xReg x) a b y.fn (-1))], none)
  | 0x04 => ([wrX x (accProduct (t.xReg x) (t.pReg y.ds1))], none)
  | 0x05 => ([wrX x (ofProduct (t.pReg y.ds1))], none)
  | 0x40 => ([wrX x ⟨0, false⟩], none)
  | 0x41 => ([wrX x (accAdd (t.xReg x) (t.xReg y.ds1))], none)
  | 0x42 => ([wrX x (accShift (t.xReg x) (sgn 7 y.fn))], none)
  | 0x43 => ([wrX x (accPlace a)], none)
  | 0x48 => ([wrD y.dd (accExtract (t.xReg y.ds1) (y.fn % 16) (decide (y.fn / 16 % 2 = 1)))], none)
  | 0x49 =>
    let fn := fld y.f 0 13
    ((List.range 8).map fun i => wrD (8 * fld y.f 20 2 + i) (accExtract (t.xReg i) (fn % 16) (decide (fn / 16 % 2 = 1))), none)
  | _ => (vectorWrites y t, none)

end Sys2Proof.Machine
end

