-- ==== Sys2Proof/Machine/Access.lean ====
section
/-!
DEFINITION. Sys2Proof/Machine/Access.lean: the memory accesses of a thread: segments and their checks (R87–R92), the shadow transform
and the pass signature (R165–R176), the store buffer (R149, R150), locked and exchange accesses (R134–R137).
-/

namespace Sys2Proof.Machine

/-! ### Exceptions of a bundle -/

/-- A cause that a syllable raises: its rank and code of R158, its slot, DETAIL, and the address for HWR_FAULT_ADDRt (R160). -/
structure Exc where
  rank : Nat
  slot : Nat
  cause : Nat
  detail : Nat
  addr : Option W32
  deriving DecidableEq, Repr

/-- Causes without DETAIL and address (R158, R160). -/
def excPlain (rank slot cause : Nat) : Exc := ⟨rank, slot, cause, 0, none⟩

/-- The cause with the lowest rank, the first in memory order among equals (R158). -/
def firstExc : List Exc → Option Exc
  | [] => none
  | e :: rest =>
    match firstExc rest with
    | some x => if x.rank < e.rank then some x else some e
    | none => some e

/-! ### Segments -/

/-- The fields of a segment register (R87). -/
def Seg.limit (g : Seg) : Nat := fld g.attr 0 24
def Seg.readable (g : Seg) : Bool := bit g.attr 24
def Seg.writable (g : Seg) : Bool := bit g.attr 25
def Seg.executable (g : Seg) : Bool := bit g.attr 26
def Seg.shadow (g : Seg) : Bool := bit g.attr 27

/-- Stores through the segment are gated (R89, R268). -/
def Seg.gated (g : Seg) : Bool := decide (fld g.owner 0 8 = 0x23)

/-- The kinds of access of R86. -/
def kLoad : Nat := 0
def kStore : Nat := 1
def kFetch : Nat := 2
def kSegload : Nat := 3

/-- A cause of an access through segment `sg` at offset `off`: DETAIL and address by R86 and R160. -/
def segExc (rank slot cause reason kind sg : Nat) (base : W32) (off : Int) : Exc :=
  ⟨rank, slot, cause, reason * 32 + kind * 8 + sg, some (wrap 32 ((base.toNat : Int) + off))⟩

/-- The identity and privilege of a thread's accesses (R89, R333). -/
def threadRequester (h : Hart) (t : Thread) : Requester := ⟨BitVec.ofNat 8 h.core.val, t.priv⟩

/-- The address ranges of R27. -/
def mapRanges : List (Nat × Nat) :=
  [(0x00000000, 0x01000000), (0x01000000, 0x02000000), (0x02000000, 0x02800000), (0x03000000, 0x03180000), (0x04000000, 0x04020000),
   (0x04100000, 0x04110000), (0x10000000, 0x11000000), (0x20000000, 0x30000000)]

/-- The memory from which a core may fetch (R91). -/
def fetchRanges (core : Nat) : List (Nat × Nat) :=
  if core < 32 then [(bankBase core, bankBase core + 0x80000)]
  else [(bankBase (16 + core), bankBase (16 + core) + 0x200000), (0x04000000, 0x04020000), (0x20000000, 0x30000000)]

def within (lo hi : Nat) (rs : List (Nat × Nat)) : Bool := rs.any fun r => decide (r.1 ≤ lo) && decide (hi ≤ r.2)

/-- Checks 3 to 7 of R88 on a descriptor's words. -/
def descriptorOk (core : Nat) (w0 w1 w2 w3 : W32) : Bool :=
  let g : Seg := ⟨w0, w1, w2⟩
  let o := fld w2 0 8
  let lo := w0.toNat
  let hi := w0.toNat + g.limit
  decide (fld w1 28 4 = 0) && decide (fld w2 8 24 = 0) && decide (w3 = 0)
    && (decide (o = 0xFC) || (if core < 32 then decide (o = core) else decide (0x20 ≤ o) && decide (o ≤ 0x23)))
    && (decide (g.limit = 0) || (within lo hi mapRanges && (!g.executable || within lo hi (fetchRanges core))))
    && (!g.shadow || decide (core < 32))

/-! ### Forms -/

/-- The element kinds of R165. -/
def ekSample : Nat := 1
def ekContainer : Nat := 2
def ekAccumulator : Nat := 3
def ekPlain : Nat := 4

/-- The form of a MEM operation (R111–R115, R134, R137, R165): element kind and size, elements, whether it reads and writes memory, and
its kind for R86. -/
structure MemForm where
  ek : Nat
  e : Nat
  cnt : Nat
  reads : Bool
  writes : Bool
  kc : Nat
  deriving DecidableEq, Repr

def MemForm.size (m : MemForm) : Nat := m.e * m.cnt

/-- A load or store of `cnt` elements. -/
def loadForm (ek e cnt : Nat) : MemForm := ⟨ek, e, cnt, true, false, kLoad⟩
def storeForm (ek e cnt : Nat) : MemForm := ⟨ek, e, cnt, false, true, kStore⟩

/-- The form of each opcode of slot M. LDK and STK are plain (log 87); the access kind of XCHG and FADD in DETAIL is a load (log 86). -/
def memForm (opc : Nat) : MemForm :=
  match opc with
  | 0x00 => loadForm ekPlain 1 1
  | 0x01 => loadForm ekPlain 1 1
  | 0x02 => loadForm ekPlain 2 1
  | 0x03 => loadForm ekPlain 2 1
  | 0x04 => loadForm ekSample 3 1
  | 0x05 => loadForm ekContainer 4 1
  | 0x08 => loadForm ekPlain 3 1
  | 0x0C => loadForm ekAccumulator 8 1
  | 0x20 => storeForm ekPlain 1 1
  | 0x22 => storeForm ekPlain 2 1
  | 0x24 => storeForm ekSample 3 1
  | 0x25 => storeForm ekContainer 4 1
  | 0x28 => storeForm ekPlain 3 1
  | 0x2C => storeForm ekAccumulator 8 1
  | 0x40 => loadForm ekSample 3 8
  | 0x41 => loadForm ekContainer 4 8
  | 0x44 => storeForm ekSample 3 8
  | 0x45 => storeForm ekContainer 4 8
  | 0x50 => loadForm ekPlain 4 1
  | 0x51 => storeForm ekPlain 4 1
  | 0x58 => ⟨ekPlain, 8, 2, true, false, kSegload⟩
  | 0x59 => storeForm ekPlain 8 2
  | 0x60 => loadForm ekPlain 3 1
  | 0x62 => storeForm ekPlain 3 1
  | _ => ⟨ekPlain, 3, 1, true, true, kLoad⟩

/-- A vector form of eight lanes. -/
def MemForm.vector (m : MemForm) : Bool := decide (m.cnt = 8)

/-! ### Placement -/

/-- A SHADOW pass with XFORM ROT or NEG+ROT (R167). -/
def shadowPass (t : Thread) : Bool := bit t.sr 4 && (decide (fld t.sr 5 2 = 1) || decide (fld t.sr 5 2 = 2))

/-- Under NEG+ROT. -/
def negating (t : Thread) : Bool := shadowPass t && decide (fld t.sr 5 2 = 2)

/-- The canonical offset of an element (R168, R174). -/
def canonOff (e : Nat) (off : Int) : Int := off + (e : Int) * (7 - 2 * (off / (e : Int) % 8))

/-- An access: segment, form, where each element lies and its canonical offset, whether the SHADOW attribute transforms it (R168). -/
structure Access where
  sg : Nat
  form : MemForm
  locs : List Int
  canon : List Int
  mirrored : Bool
  /-- its halves: offset and length (R92, R113) -/
  halves : List (Int × Nat)
  deriving DecidableEq, Repr

/-- The halves of `n` bytes at `off`, split at a boundary of `unit` bytes (R92, R113). -/
def halvesOf (base : Nat) (off : Int) (n unit : Nat) : List (Int × Nat) :=
  let a : Int := (base : Int) + off
  let first : Nat := (unit : Nat) - (a % (unit : Int)).toNat
  if n ≤ first then [(off, n)] else [(off, first), (off + first, n - first)]

/-- The pieces of `n` bytes at `off`, split at every 8-byte word: those of a descriptor, two unless its segment's base is unaligned (R92,
R115, R334, log 13). -/
def wordRuns (base : Nat) : Nat → Int → Nat → List (Int × Nat)
  | 0, _, _ => []
  | k + 1, off, n =>
    let first : Nat := 8 - (((base : Int) + off) % 8).toNat
    if n ≤ first then [(off, n)] else (off, first) :: wordRuns base k (off + first) (n - first)

/-- An access's places (R165, R168). -/
def placeAccess (t : Thread) (sg : Nat) (m : MemForm) (off : Int) : Access :=
  let g := t.sReg sg
  let inShadow := shadowPass t && decide (m.ek ≠ ekPlain)
  let raw := (List.range m.cnt).map fun (i : Nat) => off + (m.e : Int) * (i : Int)
  let canon := if inShadow then raw.map (canonOff m.e) else raw
  let mirrored := inShadow && g.shadow
  let locs := if mirrored then canon else raw
  let lo := locs.foldl min (locs.headD 0)
  let unit := if m.vector then 32 else 8
  let runs : List (Int × Nat) :=
    if locs.all fun o => decide (o - lo < (m.size : Int)) then [(lo, m.size)] else locs.map fun o => (o, m.e)
  { sg := sg, form := m, locs := locs, canon := canon, mirrored := mirrored
    halves := if m.cnt = 2 then wordRuns g.base.toNat 3 off 16 else runs.flatMap fun r => halvesOf g.base.toNat r.1 r.2 unit }

/-- The physical address of an offset of a segment. -/
def segAddr (g : Seg) (off : Int) : Nat := (wrap 32 ((g.base.toNat : Int) + off)).toNat

/-- Checks 1 to 3 of R90 on one half; `window`: the form may reach the register window (R114). A plain store through a SHADOW segment
fails the rights check in a shadow pass (R168). -/
def halfCheck (t : Thread) (a : Access) (slot kc : Nat) (window : Bool) (h : Int × Nat) : Option Exc :=
  let g := t.sReg a.sg
  let mk (c : Nat) : Option Exc := some (segExc 8 slot c 0 kc a.sg g.base h.1)
  if h.1 < 0 ∨ (g.limit : Int) < h.1 + h.2 then mk 0x08
  else if (if kc = kStore then !g.writable || (g.shadow && shadowPass t && decide (a.form.ek = ekPlain)) else !g.readable) then mk 0x09
  else if inWindow (segAddr g h.1) && !(window && decide (a.form.size = 4) && decide (segAddr g h.1 % 4 = 0)) then mk 0x0A
  else none

/-- The checks of an access at AG, in order: the operation's own ALIGN, every half by R90, both halves in one bank (R92, R113, R115,
R137, R150, R169). -/
def accessCheck (t : Thread) (a : Access) (slot : Nat) (off : Int) (own window : Bool) : Option Exc :=
  let g := t.sReg a.sg
  let m := a.form
  let align (o : Int) : Option Exc := some (segExc 8 slot 0x0A 0 m.kc a.sg g.base o)
  let unaligned := shadowPass t && decide (m.ek ≠ ekPlain) && decide (a.sg ≠ 0)
    && decide (off % ((if m.vector then 8 * m.e else m.e : Nat) : Int) ≠ 0)
  if own || unaligned then align off
  else
    let kinds := if m.reads && m.writes then [kLoad, kStore] else [m.kc]
    match a.halves.findSome? (fun h => kinds.findSome? fun k => halfCheck t a slot k window h) with
    | some e => some e
    | none =>
      if m.writes && !m.reads && g.gated then none
      else match a.halves with
        | [] => none
        | h :: rest =>
          if rest.any fun r => decide (bankOf (segAddr g r.1) ≠ bankOf (segAddr g h.1)) then align h.1 else none

/-! ### Elements -/

/-- The bits of an element's value (R165). -/
def elemWidth (ek e : Nat) : Nat := if ek = ekSample ∨ ek = ekContainer then 24 else if ek = ekAccumulator then 56 else 8 * e

/-- The negation of R166, and the same after SCLAMP. -/
def negVal (w v : Nat) : Nat := (2 ^ w - v % 2 ^ w) % 2 ^ w
def clampVal (ek v : Nat) : Nat := if ek ≠ ekAccumulator ∧ v = 0x800000 then 0x800001 else v

/-- An element: its value and the poison flag of each byte. -/
structure Elem where
  val : Nat
  poison : List Bool
  deriving DecidableEq, Repr

/-- An element whose bytes carry one flag. -/
def elemOf (e v : Nat) (p : Bool) : Elem := ⟨v, List.replicate e p⟩

/-- An element's bytes in memory (R111, R113). -/
def elemBytes (ek e : Nat) (x : Elem) : Payload :=
  let v := if ek = ekContainer then x.val % 0x1000000 * 0x100
    else if ek = ekAccumulator then (wrap 64 (sgn 56 x.val)).toNat else x.val
  (bytesOf e v).zip x.poison

/-- The value that an element's bytes spell (R111, R113). -/
def elemValue (ek : Nat) (bs : Payload) : Nat :=
  let n := payloadNum bs
  if ek = ekContainer then n / 0x100 % 0x1000000 else if ek = ekAccumulator then n % 2 ^ 56 else n

/-- A byte by its offset among those of an access. -/
def byteAt (m : List (Int × Byte × Bool)) (o : Int) : Byte × Bool :=
  match m.find? (fun x => decide (x.1 = o)) with
  | some x => x.2
  | none => (0, false)

/-- The bytes of an access's elements, by offset. -/
def placeBytes (a : Access) (xs : List Elem) : List (Int × Byte × Bool) :=
  (a.locs.zip xs).flatMap fun x =>
    ((elemBytes a.form.ek a.form.e x.2).zipIdx).map fun b => (x.1 + (b.2 : Int), b.1)

/-- The elements of an access from the bytes read, transformed by the SHADOW attribute (R168). -/
def readElems (t : Thread) (a : Access) (m : List (Int × Byte × Bool)) : List Elem :=
  a.locs.map fun o =>
    let bs := (List.range a.form.e).map fun (i : Nat) => byteAt m (o + (i : Int))
    let v := elemValue a.form.ek bs
    ⟨if a.mirrored && negating t then negVal (elemWidth a.form.ek a.form.e) (clampVal a.form.ek v) else v, bs.map (·.2)⟩

/-- What an access stores in an element's place (R168). -/
def storedElem (t : Thread) (a : Access) (x : Elem) : Elem :=
  if a.mirrored && negating t then { x with val := negVal (elemWidth a.form.ek a.form.e) x.val } else x

/-! ### The pass signature -/

/-- One record fed into a signature (R174–R176). -/
def feedSig (g : Sig) (r : SigRec) : Sig :=
  let v := if r.ek = ekPlain then r.value else (wrap 64 (sgn (elemWidth r.ek r.size) r.value)).toNat
  let bs := bytesOf 8 v ++ bytesOf 3 (wrap 24 r.off).toNat ++ bytesOf 5 (r.ek * 16 + r.sg + r.size * 0x100)
  let b := crc64Run g.bits bs
  ⟨b, checkOf b, g.poison || r.poison⟩

/-- A record put in its place by canonical offset. -/
def insertRec (r : SigRec) : List SigRec → List SigRec
  | [] => [r]
  | x :: rest => if r.off < x.off then r :: x :: rest else x :: insertRec r rest

/-- The records of a store, in ascending canonical offset; through S0 there are none (R173, R174). -/
def storeRecords (t : Thread) (a : Access) (xs : List Elem) : List SigRec :=
  if a.sg = 0 then []
  else
    let neg := negating t && decide (a.form.ek ≠ ekPlain)
    (a.canon.zip xs).foldl (fun acc x =>
      let v := if neg then negVal (elemWidth a.form.ek a.form.e) x.2.val else x.2.val
      insertRec ⟨v, x.1, a.form.ek, a.sg, a.form.e, x.2.poison.any id⟩ acc) []

/-- The records that a block instruction holds back, fed into the signature (R173). -/
def flushRecords (t : Thread) : Thread :=
  match t.block with
  | some b => { t with sig := b.records.foldl feedSig t.sig, block := some { b with records := [] } }
  | none => t

/-- An entry leaves a block instruction: the records that it holds back wait for its return (R132, R173). -/
def parkRecords (t : Thread) : Thread :=
  match t.block with
  | some b => { t with parked := b.records :: t.parked }
  | none => t

/-- The records of the block instruction left last, which does not go on, fed into the signature. -/
def feedParked (t : Thread) : Thread :=
  match t.parked with
  | [] => t
  | r :: rest => { t with sig := r.foldl feedSig t.sig, parked := rest }

/-- Every record held back fed into the signature, the oldest first. -/
def feedAllParked (t : Thread) : Thread :=
  { t with sig := t.parked.reverse.flatten.foldl feedSig t.sig, parked := [] }

/-- The records of an element that a block instruction stores (R173): under a transform that reverses the places of a group, they are held
back until the group's last element, so that they feed in ascending canonical offset. -/
def holdRecords (t : Thread) (a : Access) (xs : List Elem) : Thread :=
  match t.block with
  | some b =>
    let v := { t with block := some { b with records := (storeRecords t a xs).foldl (fun l r => insertRec r l) b.records } }
    let raw := (a.canon.head?.map (canonOff a.form.e)).getD 0
    if shadowPass t && decide (a.form.ek ≠ ekPlain) && decide (a.form.cnt = 1) && decide (raw / (a.form.e : Int) % 8 ≠ 7) then v
    else flushRecords v
  | none => t

/-! ### Performing -/

/-- Every half of an access lies in the core's own Face memory (R148). -/
def ownFace (h : Hart) (g : Seg) (a : Access) : Bool :=
  isHewer h && a.halves.all fun x => decide (bankOf (segAddr g x.1) = some h.core.val)

/-- What the bus answers a thread's access: it is served, held (R295), or refused: the kind, the offset and the reason of R160. -/
inductive AccessAnswer where
  | serve
  | hold
  | refuse (kind : Nat) (off : Int) (reason : Nat)
  deriving DecidableEq, Repr

/-- The transactions of an access, each with its kind for the checker and for R86: every half as a read, as a write, or as both (R335). The
fabric tests an access to the register window itself. -/
def transactions (g : Seg) (a : Access) : List (AccKind × Nat × Int) :=
  let halves := (a.halves.map (·.1)).filter fun o => !inWindow (segAddr g o)
  (if a.form.reads then halves.map fun o => (AccKind.read, a.form.kc, o) else [])
    ++ (if a.form.writes then halves.map fun o => (AccKind.write, kStore, o) else [])

/-- The checker evaluates every transaction before any other test (R150, R332, R335). -/
def checkersAnswer (q : Requester) (g : Seg) : List (AccKind × Nat × Int) → State → AccessAnswer × State
  | [], s => (.serve, s)
  | x :: rest, s =>
    let r := mpuCheck q x.1 (segAddr g x.2.2) s
    if r.1 then (.refuse x.2.1 x.2.2 1, r.2) else checkersAnswer q g rest r.2

/-- The targets' tests of every transaction before any is performed (R150, R295), `accepted` naming the banks whose ports took the access
before a hand-over began (R294). -/
def targetsAnswer (m : Byte) (g : Seg) (accepted : List Nat) : List (AccKind × Nat × Int) → State → AccessAnswer × State
  | [], s => (.serve, s)
  | x :: rest, s =>
    let p := segAddr g x.2.2
    match bankOf p with
    | none => (match otherCheck m.toNat x.1 p s with
      | some e => (.refuse x.2.1 x.2.2 e, s)
      | none => targetsAnswer m g accepted rest s)
    | some b =>
      let r := bankPort b m x.1 p (accepted.contains b) s
      match r.1 with
      | .serve => targetsAnswer m g accepted rest r.2
      | .hold => (.hold, r.2)
      | .refuse e => (.refuse x.2.1 x.2.2 e, r.2)

/-- The bus tests of an access (R90 step 4). -/
def checkAccess (q : Requester) (g : Seg) (a : Access) (accepted : List Nat) (s : State) : AccessAnswer × State :=
  let r := checkersAnswer q g (transactions g a) s
  match r.1 with
  | .serve => targetsAnswer q.master g accepted (transactions g a) r.2
  | _ => r

/-- The banks of an access that take it from their owner in effect (R294, R295 row 1). -/
def acceptedBanks (h : Hart) (g : Seg) (a : Access) (s : State) : List Nat :=
  (a.halves.filterMap fun x => bankOf (segAddr g x.1)).filter fun b =>
    decide (b < 52) && !(s.bank b).draining && decide ((s.bank b).owner.toNat = h.core.val)

/-- A byte of a load under one pending store: the store's byte, and the mark of its word as the store will leave it (R94, R149,
R321). DEDUCED: a thread's own load sees the mark of a pending store with its bytes. -/
def forwardOne (addr : Nat) (e : SbEntry) (b : Byte × Bool) : Byte × Bool :=
  let here := (e.bytes.zipIdx).filter fun x => decide ((e.addr + x.2) / 8 = addr / 8)
  let v := if e.addr ≤ addr then (match e.bytes[addr - e.addr]? with | some x => x.1 | none => b.1) else b.1
  (v, (b.2 && !decide (here.length = 8)) || here.any fun x => x.1.2)

/-- Bytes of a load with the thread's own pending stores over them (R149). -/
def forwarded (c : Core) (th : Fin 4) (addr : Nat) (b : Byte × Bool) : Byte × Bool :=
  c.stores.foldl (fun b e => if e.thread = th then forwardOne addr e b else b) b

/-- The bytes of an access's halves, already checked outside the window; an error of the fabric has the offset and reason. -/
def readHalves (h : Hart) (q : Requester) (g : Seg) : List (Int × Nat) → State → Except (Int × Nat) (List (Int × Byte × Bool)) × State
  | [], s => (.ok [], s)
  | x :: rest, s =>
    let p := segAddr g x.1
    let r : Except Nat Payload × State := if inWindow p then busRead q .read p x.2 s else
      let v := portRead q.master p x.2 s
      (.ok v.1, v.2)
    match r.1 with
    | .error e => (.error (x.1, e), r.2)
    | .ok bs =>
      let c := r.2.core h.core.val
      let here := (bs.zipIdx).map fun b => (x.1 + (b.2 : Int), if isHewer h then forwarded c h.thread (p + b.2) b.1 else b.1)
      let more := readHalves h q g rest r.2
      match more.1 with
      | .error e => (.error e, more.2)
      | .ok m => (.ok (here ++ m), more.2)

/-- A word of the access meets MULTI: the first such word (R314). -/
def accessMulti (g : Seg) (a : Access) (s : State) : Option Nat :=
  a.halves.findSome? fun x => if (bankOf (segAddr g x.1)).isSome then firstMulti (segAddr g x.1) x.2 s else none

/-- A replica's store is written to the bank of a replica that is being resynchronised from it as well (R276). -/
def mirrorStore (core addr : Nat) (bs : Payload) (s : State) : State :=
  match s.tri.job with
  | some j =>
    if j.copied ∧ core = 32 + j.donor ∧ bankOf addr = some (48 + j.donor) then
      innerWrite (addr - bankBase (48 + j.donor) + bankBase (48 + j.x)) bs s
    else s
  | none => s

/-- A half stored in place by a thread: the reason where the fabric refuses it. -/
def storeHalf (h : Hart) (q : Requester) (addr : Nat) (bs : Payload) (s : State) : Option Nat × State :=
  if inWindow addr then busWrite q (some h) addr bs s
  else (none, mirrorStore h.core.val addr bs (portWrite q.master (some h) addr bs s))

/-- The bytes of one half. -/
def halfBytes (m : List (Int × Byte × Bool)) (x : Int × Nat) : Payload := (List.range x.2).map fun (i : Nat) => byteAt m (x.1 + (i : Int))

/-- The halves of a store performed in place, already checked outside the window (R150). -/
def storeHalves (h : Hart) (q : Requester) (g : Seg) (m : List (Int × Byte × Bool)) : List (Int × Nat) → State → Option (Int × Nat) × State
  | [], s => (none, s)
  | x :: rest, s =>
    let r := storeHalf h q (segAddr g x.1) (halfBytes m x) s
    match r.1 with
    | some e => (some (x.1, e), r.2)
    | none => storeHalves h q g m rest r.2

/-! ### The store buffer -/

/-- A Face store put into the store buffer, one entry for each half (R149, R150). -/
def bufferStore (h : Hart) (g : Seg) (a : Access) (m : List (Int × Byte × Bool)) (s : State) : State :=
  let n := a.halves.length
  let es := (a.halves.zipIdx).map fun x => SbEntry.mk h.thread (segAddr g x.1.1) (halfBytes m x.1) (decide (x.2 + 1 < n))
  s.setCore h.core.val { s.core h.core.val with stores := (s.core h.core.val).stores ++ es }

/-- Fewer than two entries are free (R148). -/
def bufferFull (c : Nat) (s : State) : Bool := decide (14 < (s.core c).stores.length)

/-- One entry performed (R149). -/
def performEntry (c : Nat) (e : SbEntry) (s : State) : State :=
  portWrite (BitVec.ofNat 8 c) (some ⟨Fin.ofNat 35 c, e.thread⟩) e.addr e.bytes s

/-- Entries performed in order to the end of the first store; the rest (R150). -/
def performStore (c : Nat) : List SbEntry → State → List SbEntry × State
  | [], s => ([], s)
  | e :: rest, s =>
    let s := performEntry c e s
    if e.paired then performStore c rest s else (rest, s)

/-- The oldest store of a Hewer's buffer performed in one cycle (R149, R150). -/
def performOldest (c : Nat) (s : State) : State :=
  let r := performStore c (s.core c).stores s
  r.2.setCore c { r.2.core c with stores := r.1 }

/-- Every store of a Hewer's buffer performed (R149, R162). -/
def drainStores (c : Nat) (s : State) : State :=
  let es := (s.core c).stores
  let s := s.setCore c { s.core c with stores := [] }
  es.foldl (fun s e => performEntry c e s) s

/-- The thread's own stores performed: those of the buffer up to its last (R150). -/
def drainOwn (h : Hart) (s : State) : State :=
  if (s.core h.core.val).stores.any fun e => decide (e.thread = h.thread) then drainStores h.core.val s else s

end Sys2Proof.Machine
end

