-- ==== Sys2Proof/Machine/Entry.lean ====
section
/-!
DEFINITION. Sys2Proof/Machine/Entry.lean: taking an exception or interrupt (R154–R160), lockup (R162), the instruction cache and the
pinned vector lines (R151, R153, R159).
-/

namespace Sys2Proof.Machine

/-! ### Cores -/

/-- The base of a Hewer's Face memory, or of an Overman's own bank (R27). -/
def coreBase (c : Nat) : Nat := if c < 32 then bankBase c else bankBase (16 + c)

/-- A core's domain is ON. -/
def coreOn (c : Nat) (s : State) : Bool := decide (s.domain (if c < 32 then c else 16 + c) = .on)

/-- The core's threads: four, or two (R12, R74). -/
def isThread (h : Hart) : Bool := isHewer h || decide (h.thread.val < 2)

/-- CORE_LOCK (R162). -/
def coreLock (s : State) : Bool := s.cores.any fun c => c.2.lockup

/-! ### Lines -/

/-- The poison mask of a line's words as read (R151). -/
def poisonMask (bs : Payload) : Byte :=
  (List.range 8).foldl (fun m i => if payloadPoison ((bs.drop (8 * i)).take 8) then m ||| BitVec.ofNat 8 (2 ^ i) else m) 0

/-- A line in the cache that may be used; one with a parity error is none (R151). -/
def cacheLine (c line : Nat) (s : State) : Option Byte :=
  match sparseGet .absent (s.core c).cache line with
  | .present p => some p
  | _ => none

/-- A line that is to be filled leaves the cache: a parity error invalidates it (R151). -/
def cacheDrop (c line : Nat) (s : State) : State :=
  s.setCore c { s.core c with cache := sparseErase (s.core c).cache line }

/-- A line put into the cache; a full set of four loses one (R151, log 12). -/
def cacheInstall (c line : Nat) (p : Byte) (s : State) : State :=
  let r := drawFree s
  let k := r.2.core c
  let set := (k.cache.map (·.1)).filter fun x => decide (x % 128 = line % 128) && decide (x ≠ line)
  let cache := if set.length < 4 then k.cache else sparseErase k.cache (set.getD (Config.cacheVictim r.1 % 4) 0)
  r.2.setCore c { k with cache := sparseSet .absent cache line (.present p) }

/-- What the read of a line for a fetch comes to: the line with its poisoned words, a reason of R160, or a word that meets MULTI. -/
inductive LineRead where
  | got (poison : Byte)
  | refused (reason : Nat)
  | multi (word : Nat)
  deriving DecidableEq, Repr

/-- The tests of a line's fetch (R332); `accepted` names the banks whose ports took it before a hand-over or a retirement (R294, R324). -/
def lineCheck (q : Requester) (a : Nat) (accepted : List Nat) (s : State) : Option Nat × State :=
  match (bankOf a).filter fun b => accepted.contains b with
  | none => busCheck q .fetch a s
  | some b =>
    let r := mpuCheck q .fetch a s
    if r.1 then (some 1, r.2)
    else match bankPort b q.master .fetch a true r.2 with
      | (.refuse e, s) => (some e, s)
      | (_, s) => (none, s)

/-- A line from the cache, or read into it (R151, R314). -/
def readLine (h : Hart) (line : Nat) (accepted : List Nat) (s : State) : LineRead × State :=
  match cacheLine h.core.val line s with
  | some m => (.got m, s)
  | none =>
    let a := line * 64
    let r := lineCheck (threadRequester h (s.thread h)) a accepted (cacheDrop h.core.val line s)
    match r.1 with
    | some e => (.refused e, r.2)
    | none =>
      match (if (bankOf a).isSome then firstMulti a 64 r.2 else none) with
      | some w => (.multi w, r.2)
      | none =>
        let v := portRead (BitVec.ofNat 8 h.core.val) a 64 r.2
        let m := poisonMask v.1
        (.got m, cacheInstall h.core.val line m v.2)

/-- A thread lacks the line after `line`, and S0 covers some of it (R151). -/
def wantsNext (t : Thread) (line : Nat) : Bool :=
  let g := t.sReg 0
  let a := (line + 1) * 64
  t.lineBuf.all (fun x => decide (x.1 ≠ line + 1)) && g.executable && decide (g.base.toNat < a + 64) && decide (a < g.base.toNat + g.limit)

/-- The line after `line` is requested into the thread's line buffer, as far as S0 covers it (R151): it is read at once, so that no store of
the issuing bundle changes it (R152). What refuses the request, or a MULTI word, leaves the line out until a bundle needs it (log 10). -/
def requestNext (h : Hart) (line : Nat) (s : State) : State :=
  if wantsNext (s.thread h) line then
    let r := readLine h (line + 1) [] s
    match r.1 with
    | .got m => r.2.setThread h { r.2.thread h with lineBuf := (r.2.thread h).lineBuf ++ [(line + 1, m)] }
    | _ => r.2
  else s

/-- The cache and every line buffer of a core invalidated (R151, R153). -/
def flushCaches (c : Nat) (s : State) : State :=
  let s := s.setCore c { s.core c with cache := [] }
  (List.range 4).foldl (fun s t =>
    let h : Hart := ⟨Fin.ofNat 35 c, Fin.ofNat 4 t⟩
    s.setThread h { s.thread h with lineBuf := [] }) s

/-- The vector offset in effect: exceptions, or interrupts (R163). -/
def vectorOffset (c : Nat) (int : Bool) (s : State) : Nat := fld (s.effReg (corePage c) (if int then 0x044 else 0x040)) 2 22 * 4

/-- A pinned vector line loaded: with its poisoned words, or marked failed where the load ends with an error response, or with nothing but
poison, as that of a retired panel does (R159, R162, R324). DEDUCED: a single poisoned word is loaded with the line, as R162 has it fault
only an entry whose first bundle holds it (log 70). -/
def loadPin (c : Nat) (int : Bool) (s : State) : State :=
  let line := (coreBase c + vectorOffset c int s) / 64
  let r := busRead ⟨BitVec.ofNat 8 c, true⟩ .fetch (line * 64) 64 s
  let pin : Pin := match r.1 with
    | .ok bs => ⟨line, poisonMask bs, if poisonMask bs = 0xFF then some 0x0D else none⟩
    | .error _ => ⟨line, 0, some 0x0C⟩
  let k := r.2.core c
  r.2.setCore c (if int then { k with pinInt := some pin } else { k with pinExc := some pin })

/-- Both pinned lines loaded. -/
def loadPins (c : Nat) (s : State) : State := loadPin c true (loadPin c false s)

/-- The pinned lines whose vector offset a boundary puts into effect (R159). -/
def pinsBoundary (s : State) : State :=
  (List.range 35).foldl (fun s c =>
    let k := s.core c
    let s := s.setCore c { k with excDue := false, intDue := false }
    let s := if k.excDue ∧ coreOn c s then loadPin c false s else s
    if k.intDue ∧ coreOn c s then loadPin c true s else s) s

/-- The pinned lines of a Hewer to which the Onsetter dispatches for the first time (R159). -/
def pinsFirst (s : State) : State :=
  (List.range 32).foldl (fun s c =>
    let mine := (taskIndexes s).any fun e => match s.task e with
      | some t => decide (t.hewer = c) && decide (t.st = .waiting)
      | none => false
    if mine && !(s.core c).pinned then
      let s := loadPins c s
      s.setCore c { s.core c with pinned := true }
    else s) s

/-! ### Lockup -/

/-- The core enters lockup (R162): the record, the event, its stores performed, the Hewer quarantined from the next boundary. -/
def enterLockup (h : Hart) (entryCause cause : Nat) (s : State) : State :=
  let c := h.core.val
  let p := corePage c
  let s := drainStores c s
  let s := s.setCore c { s.core c with lockup := true }
  let s := (s.setReg p 0x048 (w32 (0x80000000 + h.thread.val * 0x1000000 + entryCause * 0x10000 + cause))).setEvt p 1
  if isHewer h then quarantineDue c s else s

/-! ### Entry -/

/-- XINFO as an entry writes it (R129, R132, R157). -/
def entryInfo (t : Thread) : W32 :=
  match t.block with
  | some b => w32 (b.kind * 0x10000000 + (if b.kind = 5 then b2n b.peak.poison * 0x1000000 + b.peak.bits.toNat else 0))
  | none =>
    match t.rep with
    | some r => if r.fresh then 0 else if r.kind = .rep then w32 (0x10000000 + r.left) else 0x20000000
    | none => 0

/-- The thread's registers at entry (R85, R136, R147, R157), XPC taking PC: the bundle that did not execute. A locked sequence is broken
before entry, so that XSR holds SR with LOCKED clear (R136). The records that a block instruction holds back wait until it goes on (R173). -/
def enteredThread (xcause : W32) (vec : W24) (t : Thread) : Thread :=
  let info := entryInfo t
  let t := flushLatch (parkRecords t)
  { t with
    xpc := t.pc
    xsr := (t.sr &&& 0x00FFFF7F#32) ||| (if t.priv then 0x01000000#32 else 0)
    xcause := xcause, xinfo := info
    sr := (t.sr &&& ~~~0x83#32) ||| 1#32
    pc := vec
    buf := [], hold := .none, rep := none, block := none, lock := ⟨0, [], [], false⟩, resume := none, afterRetx := false, agreed := none
    lineBuf := [] }

/-- The pinned line that serves an entry, if one does (R159). -/
def servingPin (c : Nat) (int : Bool) (t : Thread) (s : State) : Option Pin :=
  if (t.sReg 0).base.toNat = coreBase c then (if int then (s.core c).pinInt else (s.core c).pinExc) else none

/-- Entry by exception or interrupt (R156, R157, R162). -/
def enter (h : Hart) (int : Bool) (xcause : W32) (s : State) : State :=
  let c := h.core.val
  let t := s.thread h
  let pin := servingPin c int t s
  let v := enteredThread xcause (BitVec.ofNat 24 (vectorOffset c int s)) t
  let v := { v with
    entering := some ⟨fld xcause 0 8, pin.isSome⟩
    lineBuf := match pin with | some p => [(p.line, p.poison)] | none => [] }
  let s := s.setThread h v
  let s := match pin with
    | some p => if p.failed.isNone then requestNext h p.line s else s
    | none => s
  let s := pmcEvent (1 + c) (if int then 0x0B else 0x0A) 1 h.thread.val s
  match pin.bind (·.failed) with
  | some cause => enterLockup h cause.toNat (fld xcause 0 8) s
  | none => s

/-- A bundle's exception is taken (R157–R160); POISON_USE and FETCH_POISON poison the pass signature (R176, R322). -/
def takeException (h : Hart) (e : Exc) (s : State) : State :=
  let t := s.thread h
  let t := if e.cause = 0x06 ∨ e.cause = 0x0D then { t with sig := { t.sig with poison := true } } else t
  let s := s.setThread h t
  let s := match e.addr with
    | some a => s.setReg (corePage h.core.val) (0x050 + 4 * h.thread.val) a
    | none => s
  enter h false (w32 (e.detail * 0x10000 + e.slot * 0x4000 + e.cause)) s

/-- A cause of the fetch of the first handler bundle faults the entry; of any other bundle, it is an exception (R158, R162). -/
def fetchFault (h : Hart) (e : Exc) (s : State) : State :=
  match (s.thread h).entering with
  | some x => enterLockup h e.cause x.cause (s.setThread h { s.thread h with buf := [], hold := .none })
  | none => takeException h e s

/-! ### Interrupts -/

/-- XCAUSE of an interrupt (R158). -/
def interruptCause (e : Nat) (s : State) : W32 :=
  w32 (0x80000000 + (routePrio e s * 16 + e / 256 % 2) * 0x10000 + e % 256)

/-- A thread may accept an interrupt by its own state (R154). -/
def mayAccept (t : Thread) : Bool :=
  t.running && t.ie && !t.locked && !t.afterRetx
    && (match t.rep with | some r => decide (r.kind ≠ .rep) | none => true)
    && decide (t.hold ≠ .storeBuffer) && decide (t.hold ≠ .passEnd)

/-- The thread is held on a store (R154). -/
def heldStore (t : Thread) : Bool :=
  match t.hold with
  | .access w => w
  | .panel _ w => w
  | _ => false

/-- A Hewer thread accepts the event chosen for it (R154, R415). A held load or a wait is abandoned. -/
def acceptInterrupt (h : Hart) (s : State) : State :=
  let t := s.thread h
  if !isHewer h || !mayAccept t || heldStore t || (s.core h.core.val).lockup || t.entering.isSome then s
  else match chosenEvent (.hewer h.core.val h.thread.val) s with
    | some e => enter h true (interruptCause e s) s
    | none => s

end Sys2Proof.Machine
end

