-- ==== Sys2Proof/Machine/Bundle.lean ====
section
/-!
DEFINITION. Sys2Proof/Machine/Bundle.lean: bundles: structure and decode faults (R105–R108, R128), and what each syllable reads, writes
and raises before any memory access (R95, R116–R138, R158).
-/

namespace Sys2Proof.Machine

/-! ### Structure -/

/-- Operations that stand alone in their bundle (R107, R130). -/
def aloneOp (slot opc : Nat) : Bool :=
  decide (slot = 3) && (decide (0x10 ≤ opc ∧ opc ≤ 0x12) || decide (0x20 ≤ opc ∧ opc ≤ 0x23))

/-- A prefix (R126, R127), and a block instruction (R131). -/
def isPrefix (y : Syl) : Bool := decide (y.slot = 3) && decide (0x10 ≤ y.opc ∧ y.opc ≤ 0x12)
def isBlock (y : Syl) : Bool := decide (y.slot = 3) && decide (0x20 ≤ y.opc ∧ y.opc ≤ 0x23)
def isXop (y : Syl) : Bool := decide (y.slot = 1) && decide (0x70 ≤ y.opc)

/-- A scan of a bundle in memory order (R105): the syllables, last first, and whether the last word was an EXT. -/
structure Scan where
  syls : List Syl
  lastExt : Bool
  anyExt : Bool
  deriving DecidableEq, Repr

/-- Some register is named twice (R81). -/
def twice (a b : List Nat) : Bool := decide (a.eraseDups.length ≠ a.length) || a.any fun r => b.contains r

/-- The scan meets one more word (R81, R105–R108, R130): ILLEGAL_BUNDLE where the structure breaks. -/
def scanWord (c : Scan) (w : W32) : Except Exc Scan :=
  let slot := fld w 29 2
  let bad : Except Exc Scan := .error (excPlain 2 slot 0x01)
  if isExt w then
    match c.syls with
    | [] => bad
    | y :: rest =>
      if c.lastExt || c.anyExt || !extendable y then bad
      else .ok ⟨{ y with ext := some (fld w 0 22) } :: rest, true, true⟩
  else
    let y : Syl := ⟨slot, fld w 22 7, w.truncate 22, none⟩
    let written := c.syls.flatMap writesOf
    let order := c.syls.any fun x => decide (y.slot ≤ x.slot)
    let alone := !c.syls.isEmpty && (aloneOp y.slot y.opc || c.syls.any fun x => aloneOp x.slot x.opc)
    if order || alone || twice (writesOf y) written then bad else .ok ⟨y :: c.syls, false, c.anyExt⟩

/-- The syllables of a bundle's words in memory order (R105). -/
def scanWords : List W32 → Scan → Except Exc (List Syl)
  | [], c => .ok c.syls.reverse
  | w :: rest, c =>
    match scanWord c w with
    | .error e => .error e
    | .ok c => scanWords rest c

/-- The structure of a bundle (R105, R108): no STOP within five words names slot M, whatever else the words break (log 85). -/
def bundleSyls (ws : List W32) : Except Exc (List Syl) :=
  if ws.any fun w => bit w 31 then scanWords ws ⟨[], false, false⟩ else .error (excPlain 2 0 0x01)

/-! ### Operand fields -/

/-- An extended syllable's own immediate has only bits 1:0 (R106). -/
def extOk (y : Syl) : Bool :=
  match y.ext with
  | none => true
  | some _ =>
    match fmtOf y.slot y.opc with
    | some .ddi => decide (fld y.f 2 10 = 0)
    | some .mem => decide (fld y.f 2 6 = 0)
    | _ => decide (fld y.f 2 15 = 0)

/-- The fields of a MEM syllable (R100, R103, R113–R115). -/
def memOperandOk (y : Syl) : Bool :=
  let o := y.opc
  decide (y.am ≠ 3) && (decide (y.am ≠ 2) || decide (fld y.f 4 4 = 0))
    && (if o = 0x08 ∨ o = 0x28 then decide (y.dd < 16)
        else if o = 0x0C ∨ o = 0x2C ∨ o = 0x58 ∨ o = 0x59 then decide (y.dd < 8)
        else if 0x40 ≤ o ∧ o < 0x50 then decide (y.dd % 8 = 0)
        else if o = 0x50 ∨ o = 0x51 then decide (y.dd % 2 = 0) else true)

/-- The fields of an A-slot syllable (R100, R110, R116–R120, R96). -/
def aOperandOk (y : Syl) : Bool :=
  let o := y.opc
  let rest := decide (y.ds2 = 0) && decide (y.fn = 0)
  if o = 0 then decide (y.f = 0)
  else if o = 0x30 ∨ o = 0x31 then decide (y.dd < 16) && decide (y.ds1 < 16) && decide (y.ds2 < 16) && decide (y.fn = 0)
  else if o = 0x32 ∨ o = 0x33 then decide (y.dd < 16) && decide (y.ds1 < 16)
  else if o = 0x34 then decide (y.dd < 16) && decide (y.ds1 = 0)
  else if o = 0x63 then decide (y.ds1 < 16) && rest
  else if o = 0x64 then decide (y.dd < 16) && rest
  else if o = 0x65 then decide (y.ds1 < 8) && rest && (!pairSpecial y.ds1 || decide (y.dd % 2 = 0))
  else if o = 0x66 then decide (y.dd < 8) && rest && (!pairSpecial y.dd || decide (y.ds1 % 2 = 0))
  else if o = 0x6E then rest
  else if 0x70 ≤ o then decide (y.fn = 0)
  else match aluOp o with
    | some op => aluOperandOk op y
    | none => true

/-- The SYS fields of block instructions (R131). -/
def blkSD (y : Syl) : Nat := fld y.f 19 3
def blkAD (y : Syl) : Nat := fld y.f 15 4
def blkSS (y : Syl) : Nat := fld y.f 12 3
def blkAS (y : Syl) : Nat := fld y.f 8 4

/-- The fields of a C-slot syllable (R100, R124–R127, R131, R134, R138). -/
def cOperandOk (y : Syl) : Bool :=
  let o := y.opc
  let low (n : Nat) : Bool := decide (fld y.f 0 n = 0)
  if o = 0x01 ∨ o = 0x02 then true
  else if o = 0x03 then decide (y.dd = 0)
  else if o = 0x04 then decide (y.dd < 16)
  else if o = 0x05 then decide (y.dd < 16) && low 17
  else if o = 0x06 then decide (y.dd < 16) && decide (y.ds1 < 16) && low 12
  else if o = 0x10 then decide (fld y.f 4 18 = 0)
  else if o = 0x11 then decide (fld y.f 17 5 = 0)
  else if o = 0x12 ∨ o = 0x36 then low 17
  else if o = 0x20 ∨ o = 0x23 then low 7 && decide (blkAD y ≠ blkAS y)
  else if o = 0x21 then low 9
  else if o = 0x22 then low 10
  else if o = 0x34 then low 10 && decide (fld y.f 10 2 ≠ 3)
  else if o = 0x37 then decide (fld y.f 8 14 = 0)
  else decide (y.f = 0)

/-- The fields of an assigned syllable are in order (R100, R106, R110). -/
def operandOk (y : Syl) : Bool :=
  extOk y && (match y.slot with | 0 => memOperandOk y | 1 => aOperandOk y | 2 => macOperandOk y | _ => cOperandOk y)

/-- Operations that the core does not execute (R109, R125, R138, R145). -/
def wrongCore (hewer : Bool) (y : Syl) : Bool :=
  if hewer then decide (y.slot = 3) && (decide (y.opc = 0x33) || decide (y.opc = 0x34))
  else isXop y || (decide (y.slot = 3) && decide (y.opc = 0x30))

/-! ### What a bundle does -/

/-- The issue of a bundle: its thread, its offset and the next one's, the privilege under which it executes. -/
structure Ctx where
  h : Hart
  t : Thread
  pc : W24
  next : W24
  priv : Bool

/-- What syllables read and compute: causes raised, registers written, a product started, the target of a transfer. -/
structure Effect where
  excs : List Exc
  writes : List RegWrite
  product : Option Product
  target : Option W24
  deriving DecidableEq, Repr

def noEffect : Effect := ⟨[], [], none, none⟩

def Effect.add (a b : Effect) : Effect :=
  ⟨a.excs ++ b.excs, a.writes ++ b.writes, b.product.or a.product, b.target.or a.target⟩

/-- A cause of a syllable alone. -/
def raise (rank slot cause : Nat) : Effect := { noEffect with excs := [excPlain rank slot cause] }

/-- Writes alone. -/
def effWrites (ws : List RegWrite) : Effect := { noEffect with writes := ws }

/-- Specials that may be read, and written, at a privilege (R83). -/
def specialReads (priv : Bool) (n : Nat) : Bool := priv || decide (n = 0) || decide (n = 1) || decide (n = 3)
def specialWrites (priv : Bool) (n : Nat) : Bool :=
  decide (n = 1) || (priv && (decide (n = 2) || decide (n = 3) || decide (n = 4) || decide (n = 5) || decide (n = 7)))

/-- MFS and MTS (R83, R95, R120). -/
def evalMfs (x : Ctx) (y : Syl) : Effect :=
  let n := y.ds1
  if !specialReads x.priv n then raise 5 1 0x05
  else
    let v := if n = 0 then x.pc.zeroExtend 32 else x.t.special n
    effWrites (wrD y.dd ⟨v.truncate 24, false⟩ :: (if pairSpecial n then [wrD (y.dd + 1) ⟨(v >>> 24).truncate 24, false⟩] else []))

def evalMts (x : Ctx) (y : Syl) : Effect :=
  let n := y.dd
  let a := x.t.dReg y.ds1
  let b := x.t.dReg (y.ds1 + 1)
  if !specialWrites x.priv n then raise 5 1 0x05
  else if a.poison || (pairSpecial n && b.poison) then raise 6 1 0x06
  else effWrites [⟨rSp n, a.bits.toNat + (if pairSpecial n then fld b.bits 0 8 * 0x1000000 else 0), false⟩]

/-- XOP (R141). -/
def evalXop (x : Ctx) (y : Syl) (s : State) : Effect :=
  match runXop x.h.core.val (y.opc - 0x70) (x.t.dReg y.ds1) (x.t.dReg y.ds2) (x.t.dReg y.dd) s with
  | .ok v => effWrites [wrD y.dd v]
  | .illegal => raise 4 1 0x03
  | .poison => raise 6 1 0x06

/-- An A-slot syllable (R116–R120, R96, R141). -/
def evalA (x : Ctx) (y : Syl) (s : State) : Effect :=
  let t := x.t
  let a := t.dReg y.ds1
  match y.opc with
  | 0x00 => noEffect
  | 0x30 => effWrites [wrA y.dd (t.aReg y.ds1 + t.aReg y.ds2)]
  | 0x31 => effWrites [wrA y.dd (t.aReg y.ds1 - t.aReg y.ds2)]
  | 0x32 => effWrites [wrA y.dd (t.aReg y.ds1 + y.imm true)]
  | 0x33 => effWrites [wrA y.dd (aluCirc (t.aReg y.dd) (t.aReg y.ds1) (y.imm true))]
  | 0x34 => effWrites [wrA y.dd (y.imm false)]
  | 0x63 => effWrites [wrD y.dd ⟨t.aReg y.ds1, false⟩]
  | 0x64 => if a.poison then raise 6 1 0x06 else effWrites [wrA y.dd a.bits]
  | 0x65 => evalMfs x y
  | 0x66 => evalMts x y
  | 0x6E => effWrites [wrD y.dd ⟨flag24 a.poison, false⟩]
  | _ =>
    if 0x70 ≤ y.opc then evalXop x y s
    else match aluOp y.opc with
      | none => noEffect
      | some op =>
        let b := t.dReg y.ds2
        if op.bites b then raise 6 1 0x06
        else effWrites [wrD y.dd (op.eval a (t.dReg (y.ds1 + 1)) b (t.dReg y.dd) (y.imm op.signedImm))]

/-- An X-slot syllable. -/
def evalX (x : Ctx) (y : Syl) : Effect :=
  let r := macWrites y x.t
  ⟨[], r.1, r.2, none⟩

/-- A transfer to an offset, which must be a multiple of 4 (R106, R124): ALIGN as a fetch through S0. -/
def transfer (x : Ctx) (v : W24) (ws : List RegWrite) : Effect :=
  if v.toNat % 4 ≠ 0 then ⟨[segExc 8 3 0x0A 0 kFetch 0 (x.t.sReg 0).base (v.toNat : Int)], [], none, none⟩
  else ⟨[], ws, none, some v⟩

/-- RETX's checks (R161). -/
def evalRetx (x : Ctx) : Effect :=
  let t := x.t
  if !x.priv then raise 5 3 0x05
  else if t.xpc.toNat % 4 ≠ 0 then ⟨[segExc 8 3 0x0A 0 kFetch 0 (t.sReg 0).base (t.xpc.toNat : Int)], [], none, none⟩
  else if bit t.xsr 0 && !bit t.xsr 24 && !bit t.xsr 25 then raise 10 3 0x0F
  else noEffect

/-- A conditional branch: a target given by L must be a multiple of 4 whether the branch is taken or not (R95, R106, R124). -/
def evalBranch (x : Ctx) (y : Syl) (taken : Bool) : Effect :=
  if (x.t.dReg y.dd).poison then raise 6 3 0x06
  else
    let r := transfer x (y.target x.pc) []
    if taken then r else { r with target := none }

/-- A C-slot syllable that is no prefix and no block instruction (R124, R125, R138). -/
def evalC (x : Ctx) (y : Syl) : Effect :=
  let t := x.t
  let d := t.dReg y.dd
  match y.opc with
  | 0x01 => evalBranch x y (decide (d.bits = 0))
  | 0x02 => evalBranch x y (decide (d.bits ≠ 0))
  | 0x03 => transfer x (y.target x.pc) []
  | 0x04 => transfer x (y.target x.pc) [wrA y.dd x.next]
  | 0x05 => transfer x (t.aReg y.dd) []
  | 0x06 => transfer x (t.aReg y.dd) [wrA y.ds1 x.next]
  | 0x31 => evalRetx x
  | 0x34 => if (t.dReg y.ds1).poison then raise 6 3 0x06 else noEffect
  | 0x37 => ⟨[⟨10, 3, 0x0E, fld y.f 0 8, none⟩], [], none, none⟩
  | _ => noEffect

/-! ### The M slot before the access -/

/-- The offset of a MEM syllable (R103, R104). -/
def memOffset (t : Thread) (y : Syl) : Int :=
  let a : Int := ((t.aReg y.ab).toNat : Int)
  match y.am with
  | 0 => a + y.disp (memForm y.opc).size
  | 1 => a
  | _ => a + ((t.aReg (fld y.f 0 4)).toNat : Int)

/-- The post-modify of the base register (R103). -/
def postModify (t : Thread) (y : Syl) : List RegWrite :=
  if y.am = 1 then [wrA y.ab (wrap 24 (((t.aReg y.ab).toNat : Int) + y.disp (memForm y.opc).size))] else []

/-- The elements a store syllable stores (R111, R113–R115, R134). -/
def storeElems (t : Thread) (y : Syl) : List Elem :=
  let d := t.dReg y.dd
  let d1 := t.dReg (y.dd + 1)
  match y.opc with
  | 0x20 => [elemOf 1 (d.bits.toNat % 0x100) d.poison]
  | 0x22 => [elemOf 2 (d.bits.toNat % 0x10000) d.poison]
  | 0x25 => [elemOf 4 d.bits.toNat d.poison]
  | 0x28 => [elemOf 3 (t.aReg y.dd).toNat false]
  | 0x2C => [elemOf 8 (t.xReg y.dd).bits.toNat (t.xReg y.dd).poison]
  | 0x44 => (List.range 8).map fun i => elemOf 3 (t.dReg (y.dd + i)).bits.toNat (t.dReg (y.dd + i)).poison
  | 0x45 => (List.range 8).map fun i => elemOf 4 (t.dReg (y.dd + i)).bits.toNat (t.dReg (y.dd + i)).poison
  | 0x51 => [⟨d.bits.toNat + d1.bits.toNat % 0x100 * 0x1000000, [d.poison, d.poison, d.poison, d1.poison]⟩]
  | 0x59 =>
    let g := t.sReg y.dd
    [elemOf 8 (g.base.toNat + g.attr.toNat * 2 ^ 32) false, elemOf 8 g.owner.toNat false]
  | _ => [elemOf 3 d.bits.toNat d.poison]

/-- The access of a MEM syllable. -/
def memAccess (t : Thread) (y : Syl) : Access := placeAccess t y.sg (memForm y.opc) (memOffset t y)

/-- A STK outside a sequence stores nothing (R134). -/
def idleStk (t : Thread) (y : Syl) : Bool := decide (y.opc = 0x62) && !t.locked

/-- The word of a locked access (R134). -/
def lockWord (t : Thread) (y : Syl) : Nat := segAddr (t.sReg y.sg) (memOffset t y) / 8

/-- LOCK_FAULT of a MEM syllable inside a sequence (R134, R136). -/
def lockRefuses (t : Thread) (y : Syl) : Bool :=
  let w := lockWord t y
  let l := t.lock
  let known := l.words.contains w
  let crosses := decide (5 < segAddr (t.sReg y.sg) (memOffset t y) % 8)
  let otherBank := l.words.any fun x => decide (bankOf (8 * x) ≠ bankOf (8 * w))
  if y.opc = 0x64 ∨ y.opc = 0x65 then true
  else if y.opc = 0x60 then crosses || (t.sReg y.sg).gated || (!known && (decide (2 ≤ l.words.length) || otherBank))
  else if y.opc = 0x62 then crosses || (t.sReg y.sg).gated || !known || decide (2 ≤ l.stores.length)
  else false

/-- A MEM syllable's causes before its access, ranks 5 to 8, and its post-modify (R94, R95, R113–R115, R136, R137). -/
def evalM (x : Ctx) (y : Syl) : Effect :=
  let t := x.t
  let m := memForm y.opc
  let a := memAccess t y
  let off := memOffset t y
  let g := t.sReg y.sg
  let dirty := m.writes && !idleStk t y && (storeElems t y).any fun e => e.poison.any id
  let own := (m.vector && decide (off % 8 ≠ 0)) || (decide (m.cnt = 2) && decide (off % 16 ≠ 0))
    || (m.reads && m.writes && decide (5 < segAddr g off % 8))
  let excs :=
    (if m.cnt = 2 && !x.priv then [excPlain 5 0 0x05] else [])
    ++ (if dirty && (inWindow (segAddr g off) || (g.gated && !isHewer x.h)) then [excPlain 6 0 0x06] else [])
    ++ (if t.locked && lockRefuses t y then [excPlain 7 0 0x07] else [])
    ++ (match accessCheck t a 0 off own (decide (y.opc = 0x50 ∨ y.opc = 0x51)) with | some e => [e] | none => [])
  ⟨excs, postModify t y, none, none⟩

/-! ### The bundle -/

/-- The decode faults of rank 4, the first in memory order first (R98, R100, R108, R139); an XOP with both has ILLEGAL_OPERAND (log 90). -/
def decodeFaults (x : Ctx) (s : State) (ys : List Syl) : List Exc :=
  ys.filterMap fun y =>
    if (fmtOf y.slot y.opc).isNone || wrongCore (isHewer x.h) y then some (excPlain 4 y.slot 0x03)
    else if !operandOk y then some (excPlain 4 y.slot 0x04)
    else if isXop y then (evalXop x y s).excs.find? (fun e => decide (e.rank = 4))
    else none

/-- One syllable's effect. -/
def evalSyl (x : Ctx) (s : State) (y : Syl) : Effect :=
  match y.slot with
  | 0 => evalM x y
  | 1 => evalA x y s
  | 2 => evalX x y
  | _ => evalC x y

/-- C-slot operations that may not stand in a locked sequence (R136). -/
def lockForbids (y : Syl) : Bool :=
  decide (y.slot = 3) && ((decide (1 ≤ y.opc) && decide (y.opc < 0x30))
    || decide (y.opc ∈ [0x30, 0x31, 0x33, 0x34, 0x35, 0x37, 0x38]))

/-- UNLOCK and LOCK. -/
def isUnlock (y : Syl) : Bool := decide (y.slot = 3) && decide (y.opc = 0x36)
def isLock (y : Syl) : Bool := decide (y.slot = 3) && decide (y.opc = 0x35)

/-- LOCK_FAULT of the bundle (R136): a forbidden operation; the eighth bundle is not UNLOCK, which names the slot of its first syllable (log 89); an
exchange in the bundle of LOCK. -/
def lockFaults (t : Thread) (ys : List Syl) : List Exc :=
  if t.locked then
    (ys.filter lockForbids).map (fun y => excPlain 7 y.slot 0x07)
      ++ (if 7 ≤ t.lock.bundles && !ys.any isUnlock then [excPlain 7 ((ys.head?.map Syl.slot).getD 0) 0x07] else [])
  else if ys.any isLock then (ys.filter fun y => decide (y.slot = 0) && (decide (y.opc = 0x64) || decide (y.opc = 0x65))).map fun y => excPlain 7 y.slot 0x07
  else []

/-- Everything a bundle does before its access: the causes of all ranks but 9, the writes, the product, the target (R81, R158). -/
def evalBundle (x : Ctx) (s : State) (ys : List Syl) : Effect :=
  match decodeFaults x s ys with
  | e :: _ => { noEffect with excs := [e] }
  | [] =>
    let r := ys.foldl (fun r y => r.add (evalSyl x s y)) noEffect
    { r with excs := r.excs ++ lockFaults x.t ys }

/-- The bundle breaks a rule of R128 as a repeated bundle: the first such syllable. -/
def repeatBreach (counted : Bool) (ys : List Syl) : Option Syl :=
  ys.find? fun y => decide (y.slot = 3) || isXop y || (counted && (writesOf y).contains (rSp 1))

end Sys2Proof.Machine
end

