-- ==== Sys2Proof/Machine/Gate.lean ====
section
/-!
DEFINITION. Sys2Proof/Machine/Gate.lean: the vote and the Gate (R266–R269, R275, R279), rejoining (R276, R277), and the value of an
AGREE (R138, R271).
-/

namespace Sys2Proof.Machine

/-! ### The Gate -/

/-- A released write that ends with an error response, or that the Gate refuses in SAFE (R268, R405). -/
def gateError (addr : Nat) (s : State) : State :=
  let s := if s.getFld pgGat 0x060 0 8 = 0 then s.setReg pgGat 0x064 (w32 addr) else s
  (s.incSat pgGat 0x060 0 8).setEvt pgGat 8

/-- The bytes of a run split at the boundaries of 8-byte words, (R92, R268). -/
def wordPieces (addr : Nat) : Nat → List Byte → List (Nat × List Byte)
  | 0, _ => []
  | n + 1, bs =>
    if bs.isEmpty then []
    else
      let here := 8 - addr % 8
      (addr, bs.take here) :: wordPieces (addr + here) n (bs.drop here)

/-- The transactions of a released write, one for each 8-byte word it touches (R92, R334), performed under 0x23; the address of the first
that ends with an error response. -/
def releasePieces : List (Nat × List Byte) → State → Option Nat × State
  | [], s => (none, s)
  | p :: rest, s =>
    let r := busWrite voted none p.1 (cleanBytes p.2) s
    let more := releasePieces rest r.2
    (if r.1.isSome then some p.1 else more.1, more.2)

/-- One released write; in SAFE only GAT_SAFE is written (R268, R405). -/
def releaseOne (s : State) (g : Gated) : State :=
  if s.guard.safe ∧ g.addr ≠ regAddr pgGat 0x058 then gateError g.addr s
  else
    let r := releasePieces (wordPieces g.addr 5 g.bytes) s
    match r.1 with
    | some a => gateError a r.2
    | none => r.2

/-- A queue released in order; the writes behind one that resets the device are lost (R457). -/
def releaseQueue (q : List Gated) (s : State) : State := q.foldl (fun s g => if s.life.phase = .asserted then s else releaseOne s g) s

/-! ### Events at a checkpoint -/

/-- A thread of a replica takes the event chosen for it, if its status permits it (R154, R275). What it holds for a response, a store too, is
abandoned: every active replica takes the event at its resume, and only some may have issued the bundle. -/
def takePosted (r t : Nat) (s : State) : State :=
  let h := overmanThread r t
  let x := s.thread h
  match chosenEvent (.overman t) s with
  | some e => if mayAccept x && !(s.core h.core.val).lockup then enter h true (interruptCause e s) s else s
  | none => s

/-- The events of both threads taken by a replica at its resume. -/
def takeEvents (r : Nat) (s : State) : State := takePosted r 1 (takePosted r 0 s)

/-! ### Checkpoints without a vote -/

/-- A core that runs with no partner closes its own checkpoint and releases its own queue (R279). -/
def ownCheckpoint (r : Nat) (s : State) : State :=
  let q := (s.replica r).queue
  let s := closeReplica r s
  let s := pmcEvent (33 + r) 0x10 1 0 (releaseQueue q (s.incReg pgGat 0x048))
  takeEvents r s

/-- The replicas that run with no partner, lowest letter first. -/
def soloReplicas (s : State) : List Nat := (List.range 3).filter fun r => decide ((s.replica r).role = .solo)

/-! ### The vote -/

/-- The verdicts of R266. -/
inductive VoteResult where
  | all
  | odd (x : Nat)
  | pair
  | none
  deriving DecidableEq, Repr

def voteCode : VoteResult → Nat
  | .all => 0 | .odd x => 1 + x | .pair => 4 | .none => 5

/-- A signature as the voters receive it, with its check byte and what flips on the way: the corrected bits, none where the error cannot
be corrected (R266). -/
def receivedSignature (sig : W64) (flips : BitVec 72) : Option W64 :=
  let r := sigDecode ⟨sig ^^^ flips.extractLsb' 0 64, checkOf sig ^^^ flips.extractLsb' 64 8, false⟩
  if r.2.2 then none else some r.1

/-- The verdict of a voter with the comparator `c` on the signatures it received from the present replicas among `n` active ones
(R266). -/
def verdictOn (c : Comparator) (n : Nat) (sigs : List (Nat × W64)) : VoteResult :=
  let eq (a b : Nat) : Bool :=
    match sigs.find? (fun x => decide (x.1 = a)), sigs.find? (fun x => decide (x.1 = b)) with
    | some x, some y => c.shows (decide (x.2 = y.2))
    | _, _ => false
  let ab := eq 0 1
  let bc := eq 1 2
  let ca := eq 0 2
  match decide (n = 3), ab, bc, ca with
  | true, true, true, true => .all
  | true, true, _, _ => .odd 2
  | true, _, true, _ => .odd 0
  | true, _, _, true => .odd 1
  | true, _, _, _ => .none
  | false, _, _, _ => if ab || bc || ca then .pair else .none

/-- The verdict of voter `v` (R266). -/
def voterVerdict (n : Nat) (sigs : List (Nat × W64)) (s : State) (v : Nat) : VoteResult := verdictOn (s.comparator (57 + v)) n sigs

/-- The Triad's verdict: the one at least two voters give, else NONE (R267). -/
def triadVerdict (v0 v1 v2 : VoteResult) : VoteResult := if v0 = v1 ∨ v0 = v2 then v0 else if v1 = v2 then v1 else .none

/-- A VOTER_FAULT: a voter that differs from the Triad's verdict, or whose output is no valid code (R267). -/
def voterFault (v : VoteResult) (n : Nat) (sigs : List (Nat × W64)) (s : State) : Bool :=
  (List.range 3).any fun k => decide (voterVerdict n sigs s k ≠ v) || decide (s.comparator (57 + k) = .badCode)

/-- GAT_VOTE and GAT_SIG_r of a vote (R287). -/
def recordVote (v v0 v1 v2 : VoteResult) (boundary : Bool) (queued absent : Nat) (sigs : List (Nat × W64)) (s : State) : State :=
  let s := s.setReg pgGat 0x04C (w32 (queued * 0x10000 + b2n boundary * 0x8000 + absent * 0x1000 + voteCode v2 * 0x200
    + voteCode v1 * 0x40 + voteCode v0 * 8 + voteCode v))
  (List.range 3).foldl (fun s r =>
    let g : W64 := match sigs.find? (fun x => decide (x.1 = r)) with | some x => x.2 | none => 0
    (s.setReg pgGat (0x080 + 8 * r) (w32 g.toNat)).setReg pgGat (0x084 + 8 * r) (w32 (g.toNat / 2 ^ 32))) s

/-- The thread's bundle has not issued: its syllables are spelled again. -/
def unissued (t : Thread) : Thread := { t with buf := [], hold := .none }

/-- A segment of a donor as its copy holds it: a BASE in the own bank lies in the copy's own, and OWNER is kept as written (R89, R276,
log 40). -/
def copySeg (d x : Nat) (g : Seg) : Seg :=
  let b := g.base.toNat
  if replicaBase d ≤ b ∧ b < replicaBase d + 0x200000 then { g with base := w32 (b - replicaBase d + replicaBase x) } else g

/-- A donor's thread as its copy resumes (R276): a bundle that the donor holds for a response issues again on the copy, which has sent no
request. -/
def copyThread (d x : Nat) (t : Thread) : Thread :=
  let t := if t.hold = .none ∨ t.hold = .wait then t else unissued t
  { t with s := t.s.map fun k => (k.1, copySeg d x k.2)
           sr := putFld t.sr 16 8 (0x20 + x), xsr := putFld t.xsr 16 8 (if fld t.xsr 16 8 = 0x20 + d then 0x20 + x else fld t.xsr 16 8)
           lineBuf := [] }

/-- Replica X rejoins at a boundary checkpoint with the state of its donor (R276, R164). What D has stored since the copy began is in X's bank
too (log 40). -/
def rejoin (j : ResyncJob) (s : State) : State :=
  let c := 32 + j.x
  let s := copyOvermanBank (48 + j.donor) (48 + j.x) s
  let s := (List.range 2).foldl (fun s t =>
    s.setThread (overmanThread j.x t) (copyThread j.donor j.x (s.thread (overmanThread j.donor t)))) s
  let s := [0x040, 0x044].foldl (fun s o =>
    (s.setReg (pgOvm j.x) o (s.reg (pgOvm j.donor) o)).setEff (pgOvm j.x) o (s.effReg (pgOvm j.donor) o)) s
  let s := (s.setCore c { s.core c with lockup := false }).setReg (pgOvm j.x) 0x048 0
  let s := loadPins c (flushCaches c s)
  let s := closeReplica j.x s
  let s := s.setReplica j.x { s.replica j.x with role := .active, rejoined := some (shiftNo s).toNat }
  { s.setEvt pgGat 4 with tri := { s.tri with job := none } }

/-- A replica that the vote names odd (R267, R276, R277). -/
def oddReplica (x : Nat) (s : State) : State :=
  let s := s.setEvt pgGat 1
  let again := match (s.replica x).rejoined with
    | some n => decide ((shiftNo s - w32 n).toNat < 16)
    | none => false
  if again then resyncFails x s else startResync x s

/-- What a vote brings after its release (R267, R275, R276, R283). -/
def afterRelease (v : VoteResult) (fault boundary : Bool) (sigs : List (Nat × W64)) (job : Option ResyncJob) (s : State) : State :=
  let s := match v with
    | .odd x => oddReplica x s
    | .none => refugeCause 2 true (enterSafe .noMajority 35 (s.setEvt pgGat 2))
    | _ => s
  let s := if fault then enterSafe .voterFault 35 (s.setEvt pgGat 3) else s
  let s := if boundary then canaryVoter 2 sigs (canaryVoter 1 sigs (canaryVoter 0 sigs s)) else s
  let s := match job with
    | some j => if boundary && j.copied && decide (v = .pair) then rejoin j s else s
    | none => s
  (actives s).foldl (fun s r => takeEvents r s) s

/-- The open checkpoint closes with a vote (R262, R266–R268, R275, R276); where a released write resets the device, nothing follows the release
(R457, R458). -/
def checkpointVote (s : State) : State :=
  if !voteReady s then s
  else
    let act := actives s
    let present := act.filter fun r => !absentNow r s
    let sigs := present.filterMap fun r => (receivedSignature (replicaSignature r s) (sparseGet 0 s.flips r)).map fun g => (r, g)
    let absent := (act.filter fun r => absentNow r s).foldl (fun v r => v + 2 ^ r) 0
    let voter := voterVerdict act.length sigs s
    let v := triadVerdict (voter 0) (voter 1) (voter 2)
    let fault := voterFault v act.length sigs s
    let boundary := s.tri.ckBoundary
    let winner := match v with
      | .odd x => act.find? fun r => decide (r ≠ x)
      | .none => Option.none
      | _ => act.head?
    let queue := match winner with | some r => (s.replica r).queue | none => []
    let s := recordVote v (voter 0) (voter 1) (voter 2) boundary queue.length absent sigs (s.incReg pgGat 0x048)
    let s := act.foldl (fun s r => pmcEvent (33 + r) 0x10 1 0 (closeReplica r s)) s
    let s := { s with tri := { s.tri with ckOpen := false, ckBoundary := false, targets := [] } }
    let job := s.tri.job
    let s := releaseQueue queue s
    if s.life.phase = .asserted then s else afterRelease v fault boundary sigs job s

/-! ### AGREE -/

/-- The middle of three numbers. -/
def median3 (a b c : Int) : Int := max (min a b) (min (max a b) c)

/-- The agreed value of the active replicas' offers, lowest letter first (R138); two voted replicas of TRIAD mode that differ have none
stated (log 50). -/
def agreeValue (duplex : Bool) (kind : BitVec 2) (vs : List W24) (s : State) : W24 × State :=
  match vs with
  | [a, b, c] =>
    (match kind with
      | 0 => wrap 24 (median3 a.toInt b.toInt c.toInt)
      | 1 => (a &&& b) ||| (b &&& c) ||| (a &&& c)
      | _ => wrap 24 (median3 (a.toNat : Int) (b.toNat : Int) (c.toNat : Int)), s)
  | [a, b] =>
    if duplex || decide (a = b) then (a, s)
    else
      let r := freeBelow (2 ^ 24) s
      (BitVec.ofNat 24 r.1, r.2)
  | a :: _ => (a, s)
  | [] => (0, s)

end Sys2Proof.Machine
end

