-- ==== Sys2Proof/Machine/Run.lean ====
section
/-!
DEFINITION. Sys2Proof/Machine/Run.lean: the issue of bundles: fetch (R151), repeats (R126–R129, R133), memory accesses (R148–R150, R268),
AGREE (R270), and retirement (R82).
-/

namespace Sys2Proof.Machine

/-! ### Who may issue -/

/-- The device runs: handed over and not halted (R427, R455). -/
def live (s : State) : Bool := decide (s.life.phase = .running) && !halted s

/-- A replica executes: active or with no partner (R276, R278). -/
def replicaRuns (h : Hart) (s : State) : Bool :=
  isHewer h || decide ((s.replica (replicaOf h)).role = .active) || decide ((s.replica (replicaOf h)).role = .solo)

/-- A core executes: its domain is ON, it is not in lockup (R162). -/
def coreRuns (h : Hart) (s : State) : Bool := coreOn h.core.val s && !(s.core h.core.val).lockup && replicaRuns h s

/-- A thread may issue the next syllable of a bundle (R63, R148, R261, R427). -/
def mayIssue (h : Hart) (s : State) : Bool :=
  let t := s.thread h
  live s && isThread h && t.running && decide (t.hold = .none) && coreRuns h s && !checkpointHolds h s
    && !(haltPending s && t.buf.isEmpty && threadStops t)

/-- The thread is held for a reason. -/
def holdFor (h : Hart) (x : Hold) (s : State) : State := s.setThread h { s.thread h with hold := x }

/-- The panel decoder is asked for a word, with the thread it holds (R314, R318). -/
def askDecode (word : Nat) (h : Option Hart) (s : State) : State :=
  let g := groupOf (8 * word)
  { s with decodes := sparseSet [] s.decodes g (sparseGet [] s.decodes g ++ [⟨word, h⟩]) }

/-- A thread is held until the panel decoder has repaired the panel of a word (R314), with the banks that took the access from their owner
(R294). -/
def holdPanel (h : Hart) (word : Nat) (store : Bool) (banks : List Nat) (s : State) : State :=
  askDecode word (some h) (s.setThread h { s.thread h with hold := .panel (word / 512) store, accepted := banks })

/-- A thread is held until the response to its access comes (R148), with the banks that took it from their owner (R294). -/
def holdAccess (h : Hart) (store : Bool) (banks : List Nat) (s : State) : State :=
  s.setThread h { s.thread h with hold := .access store, accepted := banks }

/-! ### Fetch -/

/-- What the fetch of a syllable gives: the lines it lies in, with their poisoned words, a line that is not at hand, or a cause. -/
inductive Fetch where
  | ok (lines : List (Nat × Byte))
  | miss (line : Nat)
  | fault (e : Exc)
  deriving DecidableEq, Repr

/-- A cause of the fetch at an offset of S0 (R158, R160). -/
def fetchExc (t : Thread) (off : Nat) (cause reason : Nat) : Exc := segExc 1 0 cause reason kFetch 0 (t.sReg 0).base off

/-- A line from the line buffer, or from the cache (R151). -/
def lineAt (h : Hart) (t : Thread) (line : Nat) (s : State) : Option Byte :=
  match t.lineBuf.find? (fun x => decide (x.1 = line)) with
  | some x => some x.2
  | none => cacheLine h.core.val line s

/-- One line of a syllable at physical addresses `lo` to `hi`. -/
def fetchLine (h : Hart) (t : Thread) (off line lo hi : Nat) (s : State) : Fetch :=
  match lineAt h t line s with
  | none => .miss line
  | some m =>
    let bad := (List.range 8).any fun i => bit m i && decide (lo / 8 ≤ line * 8 + i) && decide (line * 8 + i ≤ hi / 8)
    if bad then .fault (fetchExc t off 0x0D 0) else .ok [(line, m)]

/-- Both of a pair of fetches. -/
def Fetch.both : Fetch → Fetch → Fetch
  | .ok a, .ok b => .ok (a ++ b)
  | .ok _, x => x
  | x, _ => x

/-- The fetch of the syllable at an offset (R90, R91, R151). -/
def fetchSyl (h : Hart) (t : Thread) (off : Nat) (s : State) : Fetch :=
  let g := t.sReg 0
  if g.limit < off + 4 then .fault (fetchExc t off 0x08 0)
  else if !g.executable then .fault (fetchExc t off 0x09 0)
  else
    let lo := segAddr g off
    let hi := segAddr g (off + 3)
    let a := fetchLine h t off (lo / 64) lo hi s
    if hi / 64 = lo / 64 then a else a.both (fetchLine h t off (hi / 64) lo hi s)

/-- The fetch of `n` syllables from an offset on. -/
def fetchFrom (h : Hart) (t : Thread) : Nat → Nat → State → Fetch
  | 0, _, _ => .ok []
  | n + 1, off, s => (fetchSyl h t off s).both (fetchFrom h t n (off + 4) s)

/-- The offset of the bundle in the buffer: the one after a prefix whose repeated bundle it is (R128). -/
def bundlePc (t : Thread) : W24 :=
  match t.rep with
  | some r => if r.fresh then t.pc + 4 else t.pc
  | none => t.pc

/-- The fetch of the bundle in the buffer. -/
def fetchBundle (h : Hart) (t : Thread) (s : State) : Fetch := fetchFrom h t t.buf.length (bundlePc t).toNat s

/-! ### Repeats -/

/-- The prefix retires and its repeat begins (R126–R128). -/
def settlePrefix (t : Thread) : Thread :=
  match t.rep with
  | some r =>
    let v := flushLatch t
    { v with
      pc := t.pc + 4, retired := t.retired + 1, afterRetx := false
      rc := if r.kind = .repi then BitVec.ofNat 24 r.left else t.rc
      rep := some { r with fresh := false, rcAtPrefix := t.rc } }
  | none => t

/-- A repeat of no iterations (R127, R133). -/
def emptyRepeat (t : Thread) : Bool :=
  match t.rep with
  | some r => !r.fresh && (if r.kind = .rep then decide (r.left = 0) else decide (t.rc = 0))
  | none => false

/-- The bundle in the buffer is skipped. -/
def skipBundle (next : W24) (t : Thread) : Thread :=
  { t with pc := next, rep := none, buf := [], hold := .none, resume := none, afterRetx := false }

/-- An iteration of the thread's repeat, if one runs, has retired: whether the bundle is done, and the thread (R126, R127). -/
def nextIteration (t : Thread) : Bool × Thread :=
  match t.rep with
  | none => (true, t)
  | some r =>
    if r.kind = .rep then
      if r.left ≤ 1 then (true, { t with rep := none, rc := r.rcDeferred.getD t.rc })
      else (false, { t with rep := some { r with left := r.left - 1 } })
    else
      let rc := t.rc - 1
      if rc = 0 then (true, { t with rep := none, rc := rc }) else (false, { t with rc := rc })

/-- The resume latch applied to the bundle at the return address (R133); a block instruction keeps it for its start. -/
def applyResume (ys : List Syl) (t : Thread) : Thread :=
  match t.resume with
  | none => t
  | some v =>
    let kind := fld v 28 4
    let new (k : RepKind) : Repeat := ⟨k, fld v 0 24, false, none, t.rc, none⟩
    if kind = 1 ∧ (repeatBreach false ys).isNone then { t with rep := some (new .rep), resume := none }
    else if kind = 2 ∧ (repeatBreach true ys).isNone then { t with rep := some (new .repi), resume := none }
    else if ys.any (fun y => isBlock y && decide (y.opc = 0x20 + (kind - 3)) && decide (3 ≤ kind)) then t
    else if 3 ≤ kind then { feedParked t with resume := none }
    else { t with resume := none }

/-- A prefix issues (R126–R128): its faults wait for the check with the repeated bundle. -/
def issuePrefix (h : Hart) (y : Syl) (s : State) : State :=
  let t := s.thread h
  let d := t.dReg (fld y.f 17 5)
  let kind := if y.opc = 0x10 then RepKind.rep else RepKind.repi
  let n := if y.opc = 0x10 then fld y.f 0 4 + 1 else if y.opc = 0x11 then fld y.f 0 17 else d.bits.toNat
  let fault := if !operandOk y then some 0x04 else if y.opc = 0x12 ∧ d.poison then some 0x06 else if t.locked then some 0x07 else none
  s.setThread h { t with rep := some ⟨kind, n, true, fault, t.rc, none⟩, resume := none, buf := [], hold := .none }

/-! ### Memory accesses -/

/-- What a memory access comes to: the bundle is held or not issued, as the state says; a cause; or performed, with the registers it
loads. -/
inductive MemResult where
  | held (s : State)
  | raised (e : Exc) (s : State)
  | done (ws : List RegWrite) (s : State)

/-- Flags of some of an element's bytes. -/
def anyPoison (lo n : Nat) (e : Elem) : Bool := (e.poison.drop lo).take n |>.any id

/-- A loaded value as a D register receives it. -/
def loadedD (n : Nat) (v : Nat) (p : Bool) : RegWrite := wrD n ⟨BitVec.ofNat 24 v, p⟩

/-- The registers that a load syllable writes from the elements it read (R93, R111–R115, R134, R137). -/
def loadWrites (y : Syl) (xs : List Elem) : List RegWrite :=
  let e := xs.headD ⟨0, []⟩
  let any := e.poison.any id
  match y.opc with
  | 0x00 => [loadedD y.dd (wrap 24 (sgn 8 e.val)).toNat any]
  | 0x02 => [loadedD y.dd (wrap 24 (sgn 16 e.val)).toNat any]
  | 0x05 => [loadedD y.dd e.val (anyPoison 1 3 e)]
  | 0x08 => [wrA y.dd (BitVec.ofNat 24 e.val)]
  | 0x0C => [wrX y.dd ⟨BitVec.ofNat 56 e.val, anyPoison 0 7 e⟩]
  | 0x40 => xs.zipIdx.map fun x => loadedD (y.dd + x.2) x.1.val (x.1.poison.any id)
  | 0x41 => xs.zipIdx.map fun x => loadedD (y.dd + x.2) x.1.val (anyPoison 1 3 x.1)
  | 0x50 => [loadedD y.dd e.val (anyPoison 0 3 e), loadedD (y.dd + 1) (e.val / 0x1000000) (anyPoison 3 1 e)]
  | 0x58 => [⟨rS y.dd, e.val + (xs.getD 1 ⟨0, []⟩).val % 0x100000000 * 2 ^ 64, false⟩]
  | _ => [loadedD y.dd e.val any]

/-- The first byte of the first half of an access that holds a poisoned byte, of the bytes read (R160). -/
def firstPoisoned (halves : List (Int × Nat)) (m : List (Int × Byte × Bool)) (off : Int) : Int :=
  ((halves.find? fun x => m.any fun b => decide (x.1 ≤ b.1) && decide (b.1 < x.1 + x.2) && b.2.2).map (·.1)).getD off

/-- Causes of rank 9 that the data of LDA and LDSEG raise (R88, R111, R158): of the access at `off`, the first half that failed at
`bad`. -/
def dataFault (h : Hart) (t : Thread) (y : Syl) (off bad : Int) (xs : List Elem) : Option Exc :=
  let mk (c k : Nat) : Option Exc := some (segExc 9 0 c 0 k y.sg (t.sReg y.sg).base (if c = 0x06 then bad else off))
  let poisoned := xs.any fun e => e.poison.any id
  if y.opc = 0x08 then (if poisoned then mk 0x06 kLoad else none)
  else if y.opc = 0x58 then
    if poisoned then mk 0x06 kSegload
    else
      let a := (xs.headD ⟨0, []⟩).val
      let b := (xs.getD 1 ⟨0, []⟩).val
      if descriptorOk h.core.val (w32 a) (w32 (a / 2 ^ 32)) (w32 b) (w32 (b / 2 ^ 32)) then none else mk 0x0B kSegload
  else none

/-- The elements that a syllable stores, given those it read (R137). -/
def storedBy (t : Thread) (y : Syl) (xs : List Elem) : List Elem :=
  let old := xs.headD ⟨0, []⟩
  let d := t.dReg y.dd
  if y.opc = 0x65 then [elemOf 3 ((old.val + d.bits.toNat) % 0x1000000) (d.poison || old.poison.any id)]
  else if y.opc = 0x64 then [elemOf 3 d.bits.toNat d.poison]
  else storeElems t y

/-- A store's records fed into the signature of a Hewer thread (R173). -/
def recordStore (h : Hart) (a : Access) (xs : List Elem) (s : State) : State :=
  if isHewer h then
    let t := s.thread h
    s.setThread h { t with sig := (storeRecords t a xs).foldl feedSig t.sig }
  else s

/-- The gate-queue entries of a store: one for a store of up to 8 bytes, as a record of R265 holds them; a descriptor's two, and one for
each 8-byte word of a vector or group (log 13). -/
def gatedPieces (h : Hart) (g : Seg) (a : Access) (m : List (Int × Byte × Bool)) : List Gated :=
  let lo := a.locs.headD 0
  let bytes (x : Int × Nat) : List Byte := (halfBytes m x).map (·.1)
  let runs : List (Nat × List Byte) :=
    if a.form.size ≤ 8 then [(segAddr g lo, bytes (lo, a.form.size))]
    else if a.form.cnt = 2 then [(segAddr g lo, bytes (lo, 8)), (segAddr g (lo + 8), bytes (lo + 8, 8))]
    else a.halves.flatMap fun x => wordPieces (segAddr g x.1) 5 (bytes x)
  runs.map fun p => ⟨p.1, p.2, h.thread.val⟩

/-- A gated store joins the queue of its replica (R268 step 1). -/
def performGated (h : Hart) (gs : List Gated) (s : State) : State :=
  pmcEvent (pmcOfHart h) 0x12 1 h.thread.val (gs.foldl (fun s g => queueGated (replicaOf h) g s) s)

/-- The replica has no partner. -/
def isSolo (h : Hart) (s : State) : Bool := decide ((s.replica (replicaOf h)).role = .solo)

/-- A CHECK, or a gated store that finds the queue full: the checkpoint opens, or a core with no partner closes its own (R260, R279). -/
def triggerCheck (h : Hart) (s : State) : State :=
  let r := replicaOf h
  if isSolo h s then ownCheckpoint r s
  else
    let x := s.replica r
    openCheckpoint false (s.setReplica r { x with atCheck := sparseSet false x.atCheck h.thread.val true })

/-- A gated store: refused to core C of DUPLEX+SOLO (R279); a full queue of 128 entries takes a checkpoint first (R260). -/
def gatedStore (h : Hart) (t : Thread) (y : Syl) (a : Access) (xs : List Elem) (perform : Bool) (ws : List RegWrite) (s : State) : MemResult :=
  let g := t.sReg y.sg
  let gs := gatedPieces h g a (placeBytes a (xs.map (storedElem t a)))
  if isSolo h s ∧ s.tri.mode = 1 then
    .raised (segExc 9 0 0x0C 1 kStore y.sg g.base ((a.halves.head?.map (·.1)).getD 0)) s
  else if !perform then .done ws s
  else if 128 < (s.replica (replicaOf h)).queue.length + gs.length then .held (triggerCheck h (s.setThread h (unissued (s.thread h))))
  else .done ws (performGated h gs s)

/-- The tests of the register window where nothing is performed (R32, R332). -/
def windowRefuses (q : Requester) (k : AccKind) (g : Seg) (a : Access) (s : State) : Option Nat × State :=
  match a.halves.find? (fun x => inWindow (segAddr g x.1)) with
  | some x => windowCheck q k (segAddr g x.1) x.2 s
  | none => (none, s)

/-- A store performed in its place, or put into the store buffer (R148–R150); the offset and reason where the fabric refuses it. -/
def placeStore (h : Hart) (q : Requester) (local_ : Bool) (a : Access) (xs : List Elem) (s : State) : Option (Int × Nat) × State :=
  let t := s.thread h
  let g := t.sReg a.sg
  let m := placeBytes a (xs.map (storedElem t a))
  if local_ then (none, bufferStore h g a m s) else storeHalves h q g m a.halves s

/-- The banks that took a held access from their owner, once its response has come; and, for a fed bundle, which waits for nothing, those
of which the core is the new owner (R294, R295, R430). -/
def takenBanks (x : Ctx) (g : Seg) (a : Access) (responded fed : Bool) (s : State) : List Nat :=
  if fed then (a.halves.filterMap fun z => bankOf (segAddr g z.1)).filter fun b => newOwner b (BitVec.ofNat 8 x.h.core.val) s
  else if responded then x.t.accepted else []

/-- A gated store whose data are poisoned by what the bundle read (R94): POISON_USE on returned data. -/
def gatedPoison (slot sg : Nat) (g : Seg) (off : Int) (xs : List Elem) : Option Exc :=
  if xs.any fun e => e.poison.any id then some (segExc 9 slot 0x06 0 kStore sg g.base off) else none

/-- The access of a MEM syllable, past its causes of rank 8 (R82, R90 step 4, R148–R150). `perform` is false where a cause of rank 10
stands; `responded` where the response has come; `fed` for a fed bundle (R430), which waits for nothing. -/
def performAccess (x : Ctx) (y : Syl) (perform responded fed : Bool) (s : State) : MemResult :=
  let h := x.h
  let t := x.t
  let g := t.sReg y.sg
  let a := memAccess t y
  let m := a.form
  let q : Requester := ⟨BitVec.ofNat 8 h.core.val, x.priv⟩
  let off := memOffset t y
  let near := ownFace h g a
  let gate := m.writes && g.gated && !isHewer h
  let busError (k : Nat) (o : Int) (e : Nat) : Exc := segExc 9 0 0x0C e k y.sg g.base o
  if idleStk t y || decide (y.opc = 0x62) then .done [] s
  else if fed && gate then .raised (busError kStore off 2) s
  else if gate && !m.reads then gatedStore h t y a (storeElems t y) perform [] s
  else if fed && a.halves.any (fun z => decide (bankOf (segAddr g z.1) ≠ some (if isHewer h then h.core.val else 16 + h.core.val))) then
    .raised (busError m.kc off 2) s
  else if !fed && !near && !responded then .held (holdAccess h m.writes (acceptedBanks h g a s) s)
  else
    let c := checkAccess q g (if gate then { a with form := { m with writes := false } } else a) (takenBanks x g a responded fed s) s
    match c.1 with
    | .refuse k o e => .raised (busError k o e) c.2
    | .hold => .held (holdAccess h m.writes [] c.2)
    | .serve =>
      let w := if perform then (none, c.2) else windowRefuses q (if m.reads then .read else .write) g a c.2
      match w.1 with
      | some e => .raised (busError m.kc off e) w.2
      | none =>
        let s := w.2
        match (if fed || (near && !m.reads) then none else accessMulti g a s) with
        | some word => .held (holdPanel h word m.writes (if responded then t.accepted else acceptedBanks h g a s) s)
        | none =>
          if !m.reads then
            if !perform then .done [] s
            else if near && bufferFull h.core.val s && !fed then .held (holdFor h .storeBuffer s)
            else
              let xs := storeElems t y
              let r := placeStore h q near a xs (if fed && bufferFull h.core.val s then drainStores h.core.val s else s)
              match r.1 with
              | some e => .raised (busError kStore e.1 e.2) r.2
              | none => .done [] (recordStore h a xs r.2)
          else if !perform && !(decide (y.opc = 0x08) || decide (y.opc = 0x58)) then .done [] s
          else
            let s := if m.writes then drainOwn h s else s
            let r := readHalves h q g a.halves s
            match r.1 with
            | .error e => .raised (busError m.kc e.1 e.2) r.2
            | .ok bs =>
              let xs := readElems t a bs
              match dataFault h t y off (firstPoisoned a.halves bs off) xs with
              | some e => .raised e r.2
              | none =>
                let ws := loadWrites y xs
                let stored := storedBy t y xs
                if !m.writes || !perform then .done ws r.2
                else if gate then
                  match gatedPoison 0 y.sg g off stored with
                  | some e => .raised e r.2
                  | none => gatedStore h t y a stored true ws r.2
                else
                  let w := placeStore h q false a stored r.2
                  match w.1 with
                  | some e => .raised (busError kStore e.1 e.2) w.2
                  | none => .done ws (recordStore h a stored w.2)

/-! ### Retirement -/

/-- LDK and STK inside a sequence at retirement: the word reserved, the store buffered (R134); those in the bundle of LOCK itself are outside it
(log 88). -/
def lockAccess (t : Thread) (ys : List Syl) (v : Thread) : Thread :=
  if !t.locked then v
  else
    let l := v.lock
    let l := { l with bundles := l.bundles + 1 }
    match ys.find? (fun y => decide (y.slot = 0)) with
    | some y =>
      if y.opc = 0x60 ∧ !l.words.contains (lockWord t y) then { v with lock := { l with words := l.words ++ [lockWord t y] } }
      else if y.opc = 0x62 then
        { v with lock := { l with stores := l.stores ++ [⟨segAddr (t.sReg y.sg) (memOffset t y), t.dReg y.dd, BitVec.ofNat 3 y.sg,
                                                           wrap 24 (memOffset t y)⟩] } }
      else { v with lock := l }
    | none => { v with lock := l }

/-- The bytes of a buffered store. -/
def lockBytes (x : LockStore) : Payload := elemBytes ekPlain 3 (elemOf 3 x.val.bits.toNat x.val.poison)

/-- Every buffered store may be written (R335). -/
def lockStoresOk (q : Requester) : List LockStore → State → Bool × State
  | [], s => (true, s)
  | x :: rest, s =>
    let r := busCheck q .write x.addr s
    if r.1.isSome then (false, r.2) else lockStoresOk q rest r.2

/-- The record that a buffered store feeds when it is performed (R173, R174). -/
def lockRecord (x : LockStore) : Option SigRec :=
  if x.seg = 0 then none
  else some ⟨x.val.bits.toNat, (x.off.toNat : Int), ekPlain, x.seg.toNat, 3, x.val.poison⟩

/-- The multiply-accumulates of a syllable: one of MAC and MSU, eight of a vector operation (R121, R123, R436). -/
def macCount (y : Syl) : Nat :=
  if y.slot ≠ 2 then 0 else if y.opc = 0x02 ∨ y.opc = 0x03 then 1 else if 0x20 ≤ y.opc ∧ y.opc ≤ 0x24 then 8 else 0

/-- Accesses performed at `locs` for a core, as its unit's counters see them: those of its own Face memory by kind, and those made outside
it and outside the own bank (R436). -/
def countPlaces (h : Hart) (locs : List Nat) (load store : Bool) (s : State) : State :=
  let i := pmcOfHart h
  if locs.all fun p => decide (bankOf p = some (if isHewer h then h.core.val else 16 + h.core.val)) then
    if isHewer h then
      let s := if load then pmcEvent i 0x07 1 0 s else s
      if store then pmcEvent i 0x08 1 0 s else s
    else s
  else if load || store then pmcEvent i 0x09 (b2n load + b2n store) 0 s
  else s

/-- UNLOCK at retirement: the stores performed together if every reservation holds; Dc (R134). -/
def unlockNow (h : Hart) (q : Requester) (dc : Nat) (s : State) : State :=
  let t := s.thread h
  let l := t.lock
  let closed (v : Thread) : Thread := { v with lock := ⟨0, [], [], false⟩, sr := putFld v.sr 7 1 0 }
  let finish (ok : Bool) (s : State) : State :=
    let v := closed (s.thread h)
    s.setThread h (v.write (wrD dc ⟨BitVec.ofNat 24 (b2n ok), false⟩))
  if !t.locked || l.broken then finish false s
  else
    let c := lockStoresOk q l.stores s
    if !c.1 then finish false c.2
    else
      let s := if l.stores.isEmpty then c.2 else drainOwn h c.2
      let s := l.stores.foldl (fun s x => countPlaces h [x.addr] false true (storeHalf h q x.addr (lockBytes x) s).2) s
      let v := s.thread h
      let s := if isHewer h then s.setThread h { v with sig := (l.stores.filterMap lockRecord).foldl feedSig v.sig } else s
      finish true s

/-- A performed access; a gated store is queued, which counts apart. -/
def countAccess (h : Hart) (g : Seg) (a : Access) (s : State) : State :=
  countPlaces h (a.halves.map fun x => segAddr g x.1) a.form.reads (a.form.writes && !(g.gated && !isHewer h)) s

/-- The access of a retired bundle; a store inside a sequence is performed by its UNLOCK (R134). -/
def countBundle (x : Ctx) (ys : List Syl) (s : State) : State :=
  match ys.find? (fun y => decide (y.slot = 0)) with
  | some y => if idleStk x.t y || decide (y.opc = 0x62) then s else countAccess x.h (x.t.sReg y.sg) (memAccess x.t y) s
  | none => s

/-- The registers of a retired bundle (R80–R82, R147), its slot C operation apart. -/
def retireThread (x : Ctx) (ys : List Syl) (e : Effect) (ws : List RegWrite) (v : Thread) : Thread :=
  let v := lockAccess x.t ys v
  let v := { flushLatch v with latch := e.product.toList }
  let v := v.writeAll (e.writes ++ ws)
  let n := nextIteration v
  { n.2 with
    pc := if n.1 then e.target.getD x.next else v.pc
    buf := [], hold := .none, agreed := none, resume := none, block := none, afterRetx := false, retired := v.retired + 1 }

/-- RETX at retirement, by the specials as they stood before its bundle (R81, R133, R161). -/
def returnThread (before t : Thread) : Thread :=
  { t with sr := putFld t.sr 0 2 (fld before.xsr 0 2), pc := before.xpc, resume := some before.xinfo, xinfo := 0, afterRetx := true }

/-- The value that AGREE writes: the agreed one, or a replica's own where it has no partner (R138). -/
def agreeWrites (x : Ctx) (ys : List Syl) : List RegWrite :=
  (ys.filter fun y => decide (y.slot = 3) && decide (y.opc = 0x34)).map fun y =>
    wrD y.dd ⟨x.t.agreed.getD (x.t.dReg y.ds1).bits, false⟩

/-- AGREE at retirement (R270). -/
def agreeRetired (h : Hart) (s : State) : State :=
  let r := replicaOf h
  let v := s.replica r
  let k := h.thread.val
  let s := s.setReplica r { v with agreed := sparseSet 0 v.agreed k (sparseGet 0 v.agreed k + 1) }
  pmcEvent (pmcOfHart h) 0x11 1 k s

/-- The slot C operation of a retired bundle (R62, R125, R134, R153, R260). -/
def retireOp (x : Ctx) (y : Syl) (s : State) : State :=
  let h := x.h
  let t := s.thread h
  if y.slot ≠ 3 then s
  else match y.opc with
    | 0x30 => holdFor h .passEnd s
    | 0x31 => s.setThread h (returnThread x.t t)
    | 0x32 => loadPins h.core.val (flushCaches h.core.val s)
    | 0x33 => triggerCheck h s
    | 0x34 => agreeRetired h s
    | 0x35 => s.setThread h { t with sr := putFld t.sr 7 1 1, lock := ⟨1, [], [], false⟩ }
    | 0x36 => unlockNow h ⟨BitVec.ofNat 8 h.core.val, x.priv⟩ y.dd s
    | 0x38 => holdFor h .wait s
    | _ => s

/-- A bundle retires (R82). -/
def retire (x : Ctx) (ys : List Syl) (e : Effect) (ws : List RegWrite) (s : State) : State :=
  let h := x.h
  let words := (s.thread h).buf.length
  let s := s.setThread h (retireThread x ys e (ws ++ agreeWrites x ys) (s.thread h))
  let s := ys.foldl (fun s y => retireOp x y s) s
  let i := pmcOfHart h
  let s := (ys.filter isXop).foldl (fun s y => pmcEvent i 0x0C (xopLength h.core.val (y.opc - 0x70) s) 0 s) s
  let macs := (ys.map macCount).sum
  let s := countBundle x ys (if macs = 0 then s else pmcEvent i 0x03 macs 0 s)
  pmcEvent i 0x02 words h.thread.val (pmcEvent i 0x01 1 h.thread.val s)

/-! ### Bundles -/

/-- What the execution of a bundle comes to: held or not issued, as the state says; a cause; or retired. -/
inductive Ran where
  | held (s : State)
  | raised (e : Exc) (s : State)
  | retired (s : State)

/-- AGREE waits: a voted replica that has not received the agreed value (R270). -/
def agreeWaits (x : Ctx) (ys : List Syl) (s : State) : Option Syl :=
  if isHewer x.h || x.t.agreed.isSome || !isActive (replicaOf x.h) s then none
  else ys.find? fun y => decide (y.slot = 3) && decide (y.opc = 0x34)

/-- AGREE is offered and the thread held (R270). -/
def offerAgree (x : Ctx) (y : Syl) (s : State) : State :=
  let r := replicaOf x.h
  let v := s.replica r
  let o : Offer := ⟨(x.t.dReg y.ds1).bits, BitVec.ofNat 2 (fld y.f 10 2)⟩
  holdFor x.h .agree (s.setReplica r { v with offers := sparseSet none v.offers x.h.thread.val (some o) })

/-- UNLOCK of a sequence whose stores lie outside the Face memory waits for the response (R148). -/
def unlockWaits (x : Ctx) (ys : List Syl) : Bool :=
  ys.any isUnlock && x.t.locked && !x.t.lock.broken
    && (x.t.lock.stores.any (fun z => decide (bankOf z.addr ≠ some x.h.core.val)) || ys.any fun y => decide (y.slot = 0) && decide (y.opc = 0x62)
        && decide (bankOf (segAddr (x.t.sReg y.sg) (memOffset x.t y)) ≠ some x.h.core.val))

/-- A bundle that is no prefix and no block instruction (R81, R82, R158). AGREE is offered again after the checkpoint only (R261). -/
def runPlain (x : Ctx) (ys : List Syl) (responded fed : Bool) (s : State) : Ran :=
  let e := evalBundle x s ys
  match firstExc (e.excs.filter fun c => decide (c.rank < 9)) with
  | some c => .raised c s
  | none =>
    let late := firstExc e.excs
    match agreeWaits x ys s with
    | some y => .held (if s.tri.ckOpen then s.setThread x.h (unissued (s.thread x.h)) else offerAgree x y s)
    | none =>
      if unlockWaits x ys && !responded && !fed then .held (holdAccess x.h true [] s)
      else
        let r := match ys.find? (fun y => decide (y.slot = 0)) with
          | some y => performAccess x y late.isNone responded fed s
          | none => .done [] s
        match r with
        | .held s => .held s
        | .raised c s => .raised c s
        | .done ws s =>
          match late with
          | some c => .raised c s
          | none => .retired (retire x ys e ws s)

/-! ### Block instructions -/

/-- The element of a block instruction: kind, element size, elements (R131). -/
def blockForm (y : Syl) : Nat × Nat × Nat :=
  let word := if y.opc = 0x20 then bit y.f 7 else if y.opc = 0x21 then bit y.f 9 else false
  if y.opc = 0x23 then (ekSample, 3, 8) else if word then (ekPlain, 8, 1) else (ekSample, 3, 1)

/-- Source of a block instruction: segment and A register; BFILL has none. -/
def blockSource (y : Syl) : Option (Nat × Nat) :=
  if y.opc = 0x21 then none else if y.opc = 0x22 then some (fld y.f 14 3, fld y.f 10 4) else some (blkSS y, blkAS y)

/-- Destination; BSCAN has none. -/
def blockDest (y : Syl) : Option (Nat × Nat) := if y.opc = 0x22 then none else some (blkSD y, blkAD y)

/-- The greater of two magnitudes, with both flags (R131). -/
def peakWith (p : Val 24) (e : Elem) : Val 24 :=
  ⟨BitVec.ofNat 24 (max p.bits.toNat (sgn 24 (clampVal ekSample e.val)).natAbs), p.poison || e.poison.any id⟩

/-- An element every byte of which has its mark: what is stored of a poisoned element is poisoned (R93, R94, R131). -/
def Elem.marked (e : Elem) : Elem := { e with poison := e.poison.map fun _ => e.poison.any id }

/-- The elements a block instruction stores from those it loaded (R131). -/
def blockStored (y : Syl) (t : Thread) (xs : List Elem) : List Elem :=
  let d := t.dReg (fld y.f 10 5)
  if y.opc = 0x21 then
    [if bit y.f 9 then elemOf 8 (wrap 64 (sgn 24 d.bits.toNat)).toNat d.poison else elemOf 3 d.bits.toNat d.poison]
  else if y.opc = 0x23 then
    xs.reverse.map fun e => { e.marked with val := if bit y.f 7 then negVal 24 (clampVal ekSample e.val) else e.val }
  else xs.map Elem.marked

/-- An access of an element. -/
def blockAccess (t : Thread) (y : Syl) (store : Bool) (p : Nat × Nat) : Access :=
  let f := blockForm y
  placeAccess t p.1 (if store then storeForm f.1 f.2.1 f.2.2 else loadForm f.1 f.2.1 f.2.2) (t.aReg p.2).toNat

/-- The address checks of an element's access: ALIGN of a group, then R90 (R131). -/
def blockCheck (t : Thread) (y : Syl) (store : Bool) (p : Nat × Nat) : Option Exc :=
  let off : Int := (t.aReg p.2).toNat
  accessCheck t (blockAccess t y store p) 3 off (decide (y.opc = 0x23) && decide (off % 8 ≠ 0)) false

/-- Causes of a block instruction as a whole, ranks 4 to 7 (R95, R130, R131, R136). -/
def blockFaults (x : Ctx) (y : Syl) : Option Exc :=
  let t := x.t
  let window := match blockDest y with
    | some p => inWindow (segAddr (t.sReg p.1) (t.aReg p.2).toNat) || ((t.sReg p.1).gated && !isHewer x.h)
    | none => false
  if !operandOk y then some (excPlain 4 3 0x04)
  else if !x.priv then some (excPlain 5 3 0x05)
  else if y.opc = 0x21 && (t.dReg (fld y.f 10 5)).poison && window && decide (t.bn ≠ 0) then some (excPlain 6 3 0x06)
  else if t.locked then some (excPlain 7 3 0x07) else none

/-- The thread at the start of an element: its block run, from the resume latch on a return (R133). -/
def blockStart (y : Syl) (t : Thread) : Thread :=
  let kind := y.opc - 0x20 + 3
  let fresh : Val 24 := match t.resume with
    | some v => if fld v 28 4 = kind then ⟨BitVec.ofNat 24 (fld v 0 24), bit v 24⟩ else ⟨0, false⟩
    | none => ⟨0, false⟩
  let goesOn := match t.resume with | some v => decide (fld v 28 4 = kind) | none => false
  let b := match t.block with
    | some b => if b.kind = kind then b else ⟨kind, fresh, []⟩
    | none => ⟨kind, fresh, if goesOn then t.parked.headD [] else []⟩
  { t with block := some b, resume := none, parked := if goesOn && t.block.isNone then t.parked.tail else t.parked }

/-- The peak a block instruction carries. -/
def blockPeak (t : Thread) : Val 24 := match t.block with | some b => b.peak | none => ⟨0, false⟩

/-- An A register advanced by the element size. -/
def advanceA (n : Nat) (p : Option (Nat × Nat)) (t : Thread) : Thread :=
  match p with
  | some q => t.write (wrA q.2 (t.aReg q.2 + BitVec.ofNat 24 n))
  | none => t

/-- A thread with the peak its block instruction carries. -/
def Thread.withPeak (t : Thread) (peak : Val 24) : Thread :=
  match t.block with
  | some b => { t with block := some { b with peak := peak } }
  | none => t

/-- An element is complete (R130–R132). A block instruction at the return address of RETX bars interrupts until it retires (R154). -/
def elementDone (x : Ctx) (y : Syl) (peak : Val 24) (s : State) : State :=
  let f := blockForm y
  let t := s.thread x.h
  let v := (advanceA (f.2.1 * f.2.2) (blockDest y) (advanceA (f.2.1 * f.2.2) (blockSource y) t)).withPeak peak
  let left := v.bn - 1
  s.setThread x.h { v with bn := left, buf := if left = 0 then t.buf else [], hold := .none }

/-- A block instruction completes: BSCAN writes its peak (R131). -/
def blockRetire (x : Ctx) (y : Syl) (s : State) : State :=
  let ws := if y.opc = 0x22 then [wrD y.dd (blockPeak (s.thread x.h))] else []
  let s := s.setThread x.h (flushRecords (s.thread x.h))
  retire x [y] { noEffect with writes := ws } [] s

/-- What the bus answers an element's access (R90 step 4). -/
def blockBus (x : Ctx) (y : Syl) (responded store : Bool) (p : Option (Nat × Nat)) (s : State) : AccessAnswer × State :=
  match p with
  | none => (.serve, s)
  | some p =>
    let g := x.t.sReg p.1
    let a := blockAccess x.t y store p
    if store && g.gated && !isHewer x.h then
      (if isSolo x.h s ∧ s.tri.mode = 1 then .refuse kStore (x.t.aReg p.2).toNat 1 else .serve, s)
    else checkAccess (threadRequester x.h x.t) g a (takenBanks x g a responded false s) s

/-- An access of the element is made to a memory other than the own Face memory (R148). -/
def blockFar (x : Ctx) (y : Syl) (store : Bool) (p : Option (Nat × Nat)) : Bool :=
  match p with
  | none => false
  | some p =>
    let g := x.t.sReg p.1
    !(store && g.gated && !isHewer x.h) && !ownFace x.h g (blockAccess x.t y store p)

/-- The banks that take the element's accesses from their owner in effect (R294). -/
def blockAccepted (x : Ctx) (y : Syl) (s : State) : List Nat :=
  let banks (store : Bool) (p : Nat × Nat) : List Nat := acceptedBanks x.h (x.t.sReg p.1) (blockAccess x.t y store p) s
  ((blockSource y).map (banks false)).getD [] ++ ((blockDest y).map (banks true)).getD []

/-- The elements an element's load reads. -/
def blockLoad (x : Ctx) (y : Syl) (s : State) : Except Exc (List Elem) × State :=
  match blockSource y with
  | none => (.ok [], s)
  | some p =>
    let g := x.t.sReg p.1
    let a := blockAccess x.t y false p
    let r := readHalves x.h (threadRequester x.h x.t) g a.halves s
    match r.1 with
    | .error e => (.error (segExc 9 3 0x0C e.2 kLoad p.1 g.base e.1), r.2)
    | .ok bs => (.ok (readElems x.t a bs), r.2)

/-- A MULTI word that the element's accesses meet (R314). -/
def blockMulti (x : Ctx) (y : Syl) (s : State) : Option Nat :=
  match blockSource y with
  | some p => accessMulti (x.t.sReg p.1) (blockAccess x.t y false p) s
  | none => none

/-- The element stored, or queued at the Gate. -/
def blockStore (x : Ctx) (y : Syl) (p : Nat × Nat) (xs : List Elem) (s : State) : Ran :=
  let g := x.t.sReg p.1
  let a := blockAccess x.t y true p
  let near := ownFace x.h g a
  if g.gated && !isHewer x.h then
    match gatedPoison 3 p.1 g (x.t.aReg p.2).toNat xs with
    | some c => .raised c s
    | none =>
      let gs := gatedPieces x.h g a (placeBytes a xs)
      if 128 < (s.replica (replicaOf x.h)).queue.length + gs.length then
        .held (triggerCheck x.h (s.setThread x.h (unissued (s.thread x.h))))
      else .retired (performGated x.h gs s)
  else if near && bufferFull x.h.core.val s then .held (holdFor x.h .storeBuffer s)
  else
    let r := placeStore x.h (threadRequester x.h x.t) near a xs s
    match r.1 with
    | some e => .raised (segExc 9 3 0x0C e.2 kStore p.1 g.base e.1) r.2
    | none => .retired (if isHewer x.h then r.2.setThread x.h (holdRecords (r.2.thread x.h) a xs) else r.2)

/-- The accesses of an element performed. -/
def countElement (x : Ctx) (y : Syl) (s : State) : State :=
  let count (store : Bool) (p : Option (Nat × Nat)) (s : State) : State := match p with
    | some p => countAccess x.h (x.t.sReg p.1) (blockAccess x.t y store p) s
    | none => s
  count true (blockDest y) (count false (blockSource y) s)

/-- One element past its bus tests: loaded, stored, counted; the last one completes the instruction (R130–R132). -/
def blockElement (x : Ctx) (y : Syl) (s : State) : Ran :=
  let l := blockLoad x y s
  match l.1 with
  | .error c => .raised c l.2
  | .ok xs =>
    let old := blockPeak (l.2.thread x.h)
    let peak := if y.opc = 0x22 then (xs.head?.map (peakWith old)).getD old else old
    let st := match blockDest y with
      | some p => blockStore x y p (blockStored y x.t xs) l.2
      | none => .retired l.2
    match st with
    | .retired s =>
      let s := elementDone x y peak (countElement x y s)
      if (s.thread x.h).bn = 0 then .retired (blockRetire x y s) else .retired s
    | r => r

/-- The bus tests of an element, of its load and of its store, and a MULTI word that it meets (R90 step 4, R295, R314). -/
def blockAccesses (x : Ctx) (y : Syl) (responded : Bool) (s : State) : Ran :=
  let sgOf (p : Option (Nat × Nat)) : Nat := (p.map (·.1)).getD 0
  let error (p : Option (Nat × Nat)) (k : Nat) (o : Int) (e : Nat) : Exc := segExc 9 3 0x0C e k (sgOf p) (x.t.sReg (sgOf p)).base o
  let src := blockBus x y responded false (blockSource y) s
  match src.1 with
  | .refuse k o e => .raised (error (blockSource y) k o e) src.2
  | .hold => .held (holdAccess x.h false [] src.2)
  | .serve =>
    let dst := blockBus x y responded true (blockDest y) src.2
    match dst.1 with
    | .refuse k o e => .raised (error (blockDest y) k o e) dst.2
    | .hold => .held (holdAccess x.h true [] dst.2)
    | .serve =>
      match blockMulti x y dst.2 with
      | some w => .held (holdPanel x.h w false (if responded then x.t.accepted else blockAccepted x y dst.2) dst.2)
      | none => blockElement x y dst.2

/-- One element of a block instruction, or its completion with BN = 0 (R130–R132). -/
def runBlock (x : Ctx) (y : Syl) (responded : Bool) (s : State) : Ran :=
  match blockFaults x y with
  | some c => .raised c s
  | none =>
    let s := s.setThread x.h (blockStart y (s.thread x.h))
    if x.t.bn = 0 then .retired (blockRetire x y s)
    else
      match ((blockSource y).bind (blockCheck x.t y false)).or ((blockDest y).bind (blockCheck x.t y true)) with
      | some c => .raised c s
      | none =>
        let far := blockFar x y true (blockDest y)
        if !responded && (far || blockFar x y false (blockSource y)) then .held (holdAccess x.h far (blockAccepted x y s) s)
        else blockAccesses x y responded s

/-! ### Issue -/

/-- The context of the bundle in the buffer. -/
def ctxOf (h : Hart) (t : Thread) : Ctx := ⟨h, t, t.pc, t.pc + BitVec.ofNat 24 (4 * t.buf.length), t.priv⟩

/-- The bundle in the buffer executes at PC (R81, R82, R126–R133). -/
def executeBundle (h : Hart) (ys : List Syl) (responded : Bool) (s : State) : State :=
  let s := s.setThread h (applyResume ys (s.thread h))
  let t := s.thread h
  let x := ctxOf h t
  if emptyRepeat t then s.setThread h (skipBundle x.next t)
  else
    let counted := match t.rep with | some r => decide (r.kind = .repi) | none => false
    match (if t.rep.isSome then repeatBreach counted ys else none) with
    | some y => takeException h (excPlain 3 y.slot 0x02) s
    | none =>
      match ys.find? (fun y => isPrefix y) with
      | some y => issuePrefix h y s
      | none =>
        let r := match ys.find? (fun y => isBlock y) with
          | some y => runBlock x y responded s
          | none => runPlain x ys responded false s
        match r with
        | .held s => s
        | .raised c s => takeException h c s
        | .retired s => s

/-- The bundle in the buffer, which no line is missing for, decodes (R105–R108) and, as the first one after a prefix, is checked with it
(R128). A bundle that a repeat of 0 skips raises the faults of its structure only (log 92). -/
def decodeBundle (h : Hart) (responded : Bool) (s : State) : State :=
  let t := s.thread h
  let pre := match t.rep with | some r => if r.fresh then some r else none | none => none
  match bundleSyls t.buf with
  | .error c =>
    match pre with
    | none => takeException h c s
    | some r =>
      match r.fault with
      | some k => takeException h (excPlain 4 3 k) s
      | none => takeException h c (s.setThread h (settlePrefix t))
  | .ok ys =>
    match pre with
    | none => executeBundle h ys responded s
    | some r =>
      match repeatBreach (decide (r.kind = .repi)) ys, r.fault with
      | some y, _ => takeException h (excPlain 3 y.slot 0x02) s
      | none, some k => takeException h (excPlain 4 3 k) s
      | none, none =>
        let i := pmcOfHart h
        let s := pmcEvent i 0x02 1 h.thread.val (pmcEvent i 0x01 1 h.thread.val (s.setThread h (settlePrefix t)))
        if checkpointHolds h s then s.setThread h (unissued (s.thread h)) else executeBundle h ys responded s

/-- A failed fetch of the bundle in the buffer: a fault of its prefix comes first (R128, R158, R162). -/
def failedFetch (h : Hart) (c : Exc) (s : State) : State :=
  let t := s.thread h
  match t.rep with
  | some r =>
    if r.fresh then
      match r.fault with
      | some k => takeException h (excPlain 4 3 k) s
      | none => fetchFault h c (s.setThread h (settlePrefix t))
    else fetchFault h c s
  | none => fetchFault h c s

/-- The bundle in the buffer is fetched and executes (R148, R151). -/
def runBundle (h : Hart) (responded : Bool) (s : State) : State :=
  let t := s.thread h
  if checkpointHolds h s then s.setThread h (unissued t)
  else match fetchBundle h t s with
    | .fault c => failedFetch h c s
    | .miss _ => holdFor h .lineFill s
    | .ok lines =>
      let first := segAddr (t.sReg 0) (bundlePc t).toNat / 64
      let held := (lines ++ t.lineBuf.filter fun x => decide (x.1 = first + 1)).eraseDups
      decodeBundle h responded (requestNext h first (s.setThread h { t with lineBuf := held, entering := none, hold := .none }))

/-- A held bundle goes on with its response (R148). -/
def resumeBundle (h : Hart) (s : State) : State :=
  if checkpointHolds h s then s else decodeBundle h true (s.setThread h { s.thread h with hold := .none })

/-- The words of a command that issues a syllable (R97, R106). -/
def issueWords (i : Issue) (slot opc opnd : Nat) : List W32 :=
  match i.ext with
  | none => [sylWord i.stop slot opc opnd]
  | some l => [sylWord false slot opc opnd, sylWord i.stop 3 0x7F l.toNat]

/-- A syllable issues: it joins its bundle, which runs once its last syllable, or the fifth, has joined (R97, R105). -/
def issueSyl (i : Issue) (slot opc opnd : Nat) (s : State) : State :=
  if !mayIssue i.hart s then s
  else
    let t := s.thread i.hart
    let buf := (t.buf ++ issueWords i slot opc opnd).take 5
    let s := s.setThread i.hart { t with buf := buf }
    if i.stop || decide (5 ≤ buf.length) then runBundle i.hart false s else s

end Sys2Proof.Machine
end

