-- ==== Sys2Proof/Machine/Resume.lean ====
section
/-!
DEFINITION. Sys2Proof/Machine/Resume.lean: what ends a hold (R125, R148–R151, R270, R271, R314), the completion of a pass (R62), and fed
bundles (R430).
-/

namespace Sys2Proof.Machine

/-- A held thread may go on: its device and its core run. -/
def mayGoOn (h : Hart) (s : State) : Bool := live s && isThread h && (s.thread h).running && coreRuns h s

/-- A held access may complete: in lockup, too (R162). -/
def accessGoesOn (h : Hart) (s : State) : Bool :=
  live s && isThread h && (s.thread h).running && coreOn h.core.val s && replicaRuns h s

/-! ### Fills and responses -/

/-- The line that the bundle in the buffer misses. -/
def missingLine (h : Hart) (s : State) : Option Nat :=
  match fetchBundle h (s.thread h) s with
  | .miss line => some line
  | _ => none

/-- The bank that takes the fetch of a line from its owner in effect (R294). -/
def fetchBanks (h : Hart) (line : Nat) (s : State) : List Nat :=
  (bankOf (line * 64)).toList.filter fun b =>
    decide (b < 52) && !(s.bank b).draining && decide ((s.bank b).owner.toNat = h.core.val)

/-- The line that the bundle in the buffer misses comes into the cache and the line buffer; a refusal is a BUS_ERROR of the fetch. -/
def fillLine (h : Hart) (accepted : List Nat) (s : State) : State :=
  match missingLine h s with
    | none => runBundle h false s
    | some line =>
      let t := s.thread h
      let off : Nat := (((line * 64 : Nat) : Int) - ((t.sReg 0).base.toNat : Int)).toNat
      let r := readLine h line accepted s
      match r.1 with
      | .refused e => failedFetch h (fetchExc t (max off (bundlePc t).toNat) 0x0C e) r.2
      | .multi w => holdPanel h w false (fetchBanks h line r.2) r.2
      | .got m =>
        let s := if (cacheLine h.core.val line s).isSome then r.2 else pmcEvent (pmcOfHart h) 0x06 1 h.thread.val r.2
        let t := s.thread h
        runBundle h false (s.setThread h { t with hold := .none, lineBuf := (t.lineBuf ++ [(line, m)]).drop (t.lineBuf.length - 1) })

/-- The fill of R151 completes. -/
def lineFill (h : Hart) (s : State) : State :=
  if (s.thread h).hold ≠ .lineFill || !mayGoOn h s then s else fillLine h [] s

/-- A thread that the panel decoder held goes on: with its fetch, or with its access (R314). -/
def afterDecode (h : Hart) (s : State) : State :=
  if (missingLine h s).isSome then fillLine h (s.thread h).accepted s else runBundle h true s

/-- The response of a memory or of the fabric (R148). -/
def accessResponse (h : Hart) (s : State) : State :=
  match (s.thread h).hold with
  | .access _ => if accessGoesOn h s then resumeBundle h s else s
  | _ => s

/-- Threads of a core held on the store buffer try again (R148). -/
def retryStores (c : Nat) (s : State) : State :=
  (List.range 4).foldl (fun s t =>
    let h : Hart := ⟨Fin.ofNat 35 c, Fin.ofNat 4 t⟩
    if (s.thread h).hold = .storeBuffer && accessGoesOn h s && !bufferFull c s then resumeBundle h s else s) s

/-- The oldest store of a Hewer's buffer is performed (R149); held stores that find room go on. -/
def storeBufferPerform (c : Nat) (s : State) : State :=
  if !live s || !coreOn c s then s else retryStores c (performOldest c s)

/-- The panel decoder of a bank group serves the head of its queue (R318), and the thread that it held goes on (R314). -/
def panelDecode (g : Nat) (s : State) : State :=
  if !live s then s else match sparseGet [] s.decodes g with
  | [] => s
  | r :: rest =>
    let s := { s with decodes := sparseSet [] s.decodes g rest }
    let s := if s.mem.isMulti r.word then (repairPanel .access r.word s).2 else s
    match r.hart with
    | none => s
    | some h =>
      match (s.thread h).hold with
      | .panel p _ => if p = r.word / 512 && accessGoesOn h s then afterDecode h s else s
      | _ => s

/-- A Bell event routed to a waiting thread is pending; with IE 0 it continues (R125). -/
def waitResume (h : Hart) (s : State) : State :=
  let t := s.thread h
  let tg : Target := if isHewer h then .hewer h.core.val h.thread.val else .overman h.thread.val
  if t.hold ≠ .wait || !mayGoOn h s || t.ie || (chosenEvent tg s).isNone then s else s.setThread h { t with hold := .none }

/-- The pass of a thread completes (R62). -/
def endPass (h : Hart) (s : State) : State :=
  if !live s || (s.thread h).hold ≠ .passEnd then s
  else
    let r := passComplete h (s.setThread h (feedAllParked (s.thread h)))
    if (r.thread h).running then r else pmcEvent (pmcOfHart h) 0x0D 1 h.thread.val r

/-- The drain of a hand-over completes (R38, R65, R294): a Face memory's pending stores are performed in it (R149). -/
def ownerDrained (b : Nat) (s : State) : State :=
  if !(s.bank b).draining || drainOpen b s then s else drainDone b (if b < 32 then drainStores b s else s)

/-- A Hewer thread accepts an interrupt (R154). -/
def interruptAccept (h : Hart) (s : State) : State := if mayGoOn h s then acceptInterrupt h s else s

/-! ### AGREE -/

/-- A replica's offer for a thread, with the count of its AGREEs retired (R270). -/
def offerOf (r t : Nat) (s : State) : Option (Nat × Offer) :=
  (sparseGet none (s.replica r).offers t).map fun o => (sparseGet 0 (s.replica r).agreed t, o)

/-- The agreed value reaches a replica, whose bundle goes on (R270). -/
def deliverAgree (t : Nat) (v : W24) (s : State) (r : Nat) : State :=
  let h := overmanThread r t
  let x := s.replica r
  let s := s.setReplica r { x with offers := sparseSet none x.offers t none }
  let s := s.setThread h { s.thread h with agreed := some v }
  if (s.thread h).hold = .agree then decodeBundle h false (s.setThread h { s.thread h with hold := .none }) else s

/-- Every active replica has offered for the same match: each receives the agreed value (R138, R270). -/
def agreeMatch (t : Nat) (s : State) : State :=
  let act := actives s
  let offers := act.filterMap fun r => offerOf r t s
  match offers.head? with
  | none => s
  | some o =>
    if !live s || offers.length ≠ act.length || offers.any (fun x => decide (x.1 ≠ o.1)) then s
    else
      let v := agreeValue (decide (s.tri.mode ≠ 0)) o.2.kind (offers.map (·.2.value)) s
      act.foldl (deliverAgree t v.1) v.2

/-- 20 µs after the first offer of a match: those that have offered receive the value of the lowest-lettered of them; the others are
absent from the next vote (R271). Where every active replica has offered for the match, none is late. -/
def agreeTimeout (t : Nat) (s : State) : State :=
  let act := actives s
  let offered := act.filterMap fun r => (offerOf r t s).map fun o => (r, o)
  match offered with
  | [] => s
  | o :: rest =>
    let n := rest.foldl (fun n x => min n x.2.1) o.2.1
    let group := offered.filter fun x => decide (x.2.1 = n)
    let complete := decide (group.length = act.length)
    let late := act.filter fun r => (offerOf r t s).isNone && decide (sparseGet 0 (s.replica r).agreed t ≤ n)
    match group.head? with
    | none => s
    | some w =>
      if !live s || complete then s
      else
        let s := late.foldl (fun s r => s.setReplica r { s.replica r with agreeLate := true }) (s.setEvt pgGat 7)
        (group.map (·.1)).foldl (deliverAgree t w.2.2.value) s

/-! ### Fed bundles -/

/-- The thread that DBG_FEED_SEL names (R435). -/
def feedHart (s : State) : Hart :=
  let v := s.reg pgDbg 0x084
  ⟨Fin.ofNat 35 (if bit v 7 then 32 + fld v 2 5 else fld v 2 5), Fin.ofNat 4 (fld v 0 2)⟩

/-- Words up to the one with STOP. -/
def upToStop : List W32 → List W32
  | [] => []
  | w :: rest => if bit w 31 then [w] else w :: upToStop rest

/-- The fed words. -/
def feedWords (s : State) : List W32 := upToStop ((List.range 5).map fun k => s.reg pgDbg (0x088 + 4 * k))

/-- DBG_FEED_STAT with GO fallen (R435): 1 DONE, 2 EXCEPTION, 3 REFUSED. -/
def feedResult (result slot cause : Nat) (s : State) : State :=
  s.setReg pgDbg 0x09C (w32 (result * 0x20000000 + slot * 0x4000 + cause))

/-- A bundle that is not fed (R430). -/
def feedRefused (ys : List Syl) : Bool :=
  ys.any fun y => isPrefix y || isBlock y || isXop y
    || (decide (y.slot = 3) && decide (y.opc ∈ [0x30, 0x33, 0x34, 0x35, 0x36, 0x38]))

/-- The thread after a transfer of control by a fed bundle: what it had begun to issue is abandoned. -/
def redirected (pc : W24) (t : Thread) : Thread :=
  { flushRecords t with
    pc := pc, buf := [], rep := none, block := none, agreed := none, lineBuf := []
    hold := match t.hold with | .wait => .wait | .passEnd => .passEnd | _ => .none }

/-- A fed bundle is done: its writes, its product, a transfer, RETX and IFLUSH (R430). -/
def feedRetire (h : Hart) (ys : List Syl) (e : Effect) (ws : List RegWrite) (s : State) : State :=
  let before := s.thread h
  let t := before.writeAll (e.writes ++ ws)
  let t := flushLatch { t with latch := e.product.toList }
  let t := match e.target with | some pc => redirected pc t | none => t
  let op (k : Nat) : Bool := ys.any fun y => decide (y.slot = 3) && decide (y.opc = k)
  let t := if op 0x31 then returnThread before (redirected before.xpc t) else t
  let s := s.setThread h t
  if op 0x32 then loadPins h.core.val (flushCaches h.core.val s) else s

/-- The access of a fed bundle, and its end (R430). -/
def feedRun (h : Hart) (ys : List Syl) (s : State) : State :=
  let t := flushLatch (s.thread h)
  let x : Ctx := ⟨h, t, t.pc, t.pc + BitVec.ofNat 24 (4 * (feedWords s).length), true⟩
  let fail (c : Exc) (s : State) : State := feedResult 2 c.slot c.cause s
  let e := evalBundle x s ys
  match firstExc (e.excs.filter fun c => decide (c.rank < 9)) with
  | some c => fail c s
  | none =>
    let late := firstExc e.excs
    let r := match ys.find? (fun y => decide (y.slot = 0)) with
      | some y => performAccess x y late.isNone true true s
      | none => .done [] s
    match r with
    | .held s => feedResult 3 0 0 s
    | .raised c s => fail c s
    | .done ws s =>
      match late with
      | some c => fail c s
      | none => feedResult 1 0 0 (feedRetire h ys e ws s)

/-- GO: a halted thread executes the fed bundle (R430). -/
def feedGo (s : State) : State :=
  if !halted s || !bit (s.reg pgDbg 0x09C) 31 then s
  else
    let h := feedHart s
    if !feedSelOk (s.reg pgDbg 0x084) || !isThread h || !coreOn h.core.val s then feedResult 3 0 0 s
    else
      let s := s.setThread h (flushLatch (s.thread h))
      match bundleSyls (feedWords s) with
      | .error c => feedResult 2 c.slot c.cause s
      | .ok ys => if feedRefused ys then feedResult 3 0 0 s else feedRun h ys s

end Sys2Proof.Machine
end

