-- ==== Sys2Proof/Machine/DepRun.lean ====
section
/-!
DEFINITION. Sys2Proof/Machine/DepRun.lean: the instructions of the Deputy cores (R245, R247–R250).
-/

namespace Sys2Proof.Machine

/-! ### Registers -/

/-- G registers, Y registers, and pairs of G registers with the first as the low byte (R247, R248). -/
def DepCore.gReg (d : DepCore) (n : Nat) : Byte := sparseGet 0 d.g n
def DepCore.setG (d : DepCore) (n : Nat) (v : Byte) : DepCore := { d with g := sparseSet 0 d.g n v }
def DepCore.yReg (d : DepCore) (n : Nat) : BitVec 16 := if n = 0 then d.y0 else d.y1
def DepCore.setY (d : DepCore) (n : Nat) (v : BitVec 16) : DepCore := if n = 0 then { d with y0 := v } else { d with y1 := v }
def DepCore.pairReg (d : DepCore) (n : Nat) : BitVec 16 := (d.gReg (n + 1)).append (d.gReg n)
def DepCore.setPair (d : DepCore) (n : Nat) (v : BitVec 16) : DepCore := (d.setG n (v.truncate 8)).setG (n + 1) ((v >>> 8).truncate 8)

/-- A condition as a G register holds it. -/
def flag8 (c : Bool) : Byte := BitVec.ofNat 8 (b2n c)

/-! ### The address map -/

/-- A pair's accesses (R245, R333). -/
def depRequester (p : Nat) : Requester := ⟨BitVec.ofNat 8 (0x30 + p), true⟩

/-- The physical address of an offset of a pair's memory (R27). -/
def depMem (p a : Nat) : Nat := bankBase (52 + p) + a

/-- A window address as the register it reaches (R245): a DEP_ or COR_ register; the status mirror, whose fourth words are 0. -/
def depWindowReg (p a : Nat) : Option Nat :=
  if a < 0x9000 then some (regAddr (pgDep p) (a - 0x8000))
  else if a < 0xD000 then some (regAddr (pgCor (4 * p + (a - 0x9000) / 0x1000)) (a % 0x1000))
  else
    let c := 4 * p + (a - 0xD000) / 0x10
    match a % 0x10 with
    | 0x0 => some (regAddr (pgSns c) 0x044)
    | 0x4 => some (regAddr (pgSns c) 0x048)
    | 0x8 => some (regAddr (pgPwm c) 0x044)
    | _ => none

/-- What an access ends with: bytes, or a fault (R247). -/
abbrev DepResult := Except DepCause (List Byte)

/-- A load or fetch of the pair's memory. -/
def depMemRead (p a n : Nat) (k : AccKind) (s : State) : DepResult × State :=
  let r := busRead (depRequester p) k (depMem p a) n s
  match r.1 with
  | .error _ => (.error .access, r.2)
  | .ok bs => (if payloadPoison bs then .error .poison else .ok (bs.map (·.1)), r.2)

/-- A store to the pair's memory. -/
def depMemWrite (p a : Nat) (bs : List Byte) (s : State) : Option DepCause × State :=
  let r := busWrite (depRequester p) none (depMem p a) (cleanBytes bs) s
  (r.1.map fun _ => .access, r.2)

/-- The data and report areas take stores (R245). -/
def depStorable (a : Nat) : Bool := (decide (0x4000 ≤ a) && decide (a < 0x6000)) || (decide (0x6400 ≤ a) && decide (a < 0x8000))

/-- A load of a byte, or of a word with `n` = 4 (R245, R247): a window takes aligned words only. -/
def depLoad (p a n : Nat) (s : State) : DepResult × State :=
  if a % n ≠ 0 ∨ (if n = 1 then 0x8000 else 0xD040) ≤ a then (.error .access, s)
  else if a < 0x8000 then depMemRead p a n .read s
  else match depWindowReg p a with
    | none => (.ok (bytesOf 4 0), s)
    | some x =>
      let r := fabricRead (depRequester p) .read x 4 s
      match r.1 with
      | .error _ => (.error .access, r.2)
      | .ok v => (.ok (bytesOf 4 v.toNat), r.2)

/-- A store of a byte or of a word (R245, R247). -/
def depStore (p a : Nat) (bs : List Byte) (s : State) : Option DepCause × State :=
  if a % bs.length ≠ 0 ∨ (if bs.length = 1 then 0x8000 else 0xD000) ≤ a then (some .access, s)
  else if a < 0x8000 then (if depStorable a then depMemWrite p a bs s else (some .access, s))
  else match depWindowReg p a with
    | none => (some .access, s)
    | some x =>
      let r := fabricWrite (depRequester p) x 4 (w32 (numOf bs)) s
      (r.1.map fun _ => .access, r.2)

/-! ### Execution -/

/-- A pair executes: ON, in RUN, no WAITE and no halt (R250, R427). -/
def depRuns (p : Nat) (s : State) : Bool :=
  live s && !haltPending s && depOn p s && decide (depState p s = 1) && !(s.deputy p).master.waiting

/-- The fetch of an instruction's words from the code area (R245, R247). -/
def depFetch (p : Nat) : Nat → Nat → State → Option DepCause × State
  | 0, _, s => (none, s)
  | n + 1, pc, s =>
    if pc % 2 ≠ 0 ∨ 0x4000 ≤ pc then (some .access, s)
    else
      let r := depMemRead p pc 2 .fetch s
      match r.1 with
      | .error c => (some c, r.2)
      | .ok _ => depFetch p n (pc + 2) r.2

/-- What an instruction does with the registers of a core (R248): it ends with a fault or with new registers, at once, or after a load with
the bytes loaded, or with a store. -/
inductive DepAct where
  | ends (r : Except DepCause DepCore)
  | load (a n : Nat) (k : List Byte → DepCore)
  | store (a : Nat) (bs : List Byte) (v : DepCore)

/-- What the comparator sees of an access: address, size and write data (R251). -/
def DepAct.shown : DepAct → Option (Nat × Nat × Option (List Byte))
  | .ends _ => none
  | .load a n _ => some (a, n, none)
  | .store a bs _ => some (a, bs.length, some bs)

/-- What the comparator sees of a core: PC, which is its next fetch address, IE and the return-stack pointer (R251). -/
def DepCore.shown (d : DepCore) : BitVec 16 × Bool × Nat := (d.pc, d.ie, d.stack.length)

/-- The registers an action leaves in a core, with the bytes of its load; what they were where it faults. -/
def DepAct.leaves (x : DepCore) (bs : List Byte) : DepAct → DepCore
  | .ends (.ok v) => v
  | .ends (.error _) => x
  | .load _ _ k => k bs
  | .store _ _ v => v

/-- What the master received, as the delay registers pass it to the checker (R251). -/
def depDelayed (p : Nat) (s : State) (bs : List Byte) : List Byte :=
  (bs.zipIdx).map fun b => b.1 ^^^ ((sparseGet 0 s.delays p >>> (8 * b.2)).truncate 8)

/-- The comparator of a pair reports outputs that differ (R251, R254). -/
def depDiffers (p : Nat) (d : Deputy) (m c : DepAct) (bs : List Byte) (s : State) : Bool :=
  (s.comparator (33 + p)).shows (decide (m.shown = c.shown
    ∧ (m.leaves d.master bs).shown = (c.leaves d.checker (depDelayed p s bs)).shown)) == false

/-- The pair after an action of both cores with the bytes of its load, in `s`: a difference restarts it (R251, R252). -/
def depEnds (p : Nat) (d : Deputy) (m c : DepAct) (bs : List Byte) (s : State) : State :=
  if depDiffers p d m c bs s then depMismatch p s
  else s.setDeputy p { s.deputy p with master := m.leaves d.master bs, checker := c.leaves d.checker (depDelayed p s bs) }

/-- An action of both cores: a memory load issues at once; a window load and a store are performed only where their comparison passes (R252). -/
def depAct (p : Nat) (m c : DepAct) (s : State) : State :=
  let d := s.deputy p
  match m with
  | .ends (.error e) => depFault p e s
  | .ends (.ok _) => depEnds p d m c [] s
  | .load a n _ =>
    if decide (0x8000 ≤ a) && depDiffers p d m c [] s then depMismatch p s
    else
      let r := depLoad p a n s
      match r.1 with
      | .error e => depFault p e r.2
      | .ok bs => depEnds p d m c bs r.2
  | .store a bs _ =>
    if depDiffers p d m c [] s then depMismatch p s
    else
      let r := depStore p a bs s
      match r.1 with
      | some e => depFault p e r.2
      | none => depEnds p d m c [] r.2

/-- One instruction of `words` words: its fetch, then what both cores do, PC being that of the next instruction. -/
def depInstr (p words : Nat) (run : DepCore → DepAct) (s : State) : State :=
  if !depRuns p s then s
  else if s.comparator (33 + p) = .badCode then depFail p .cmpFault s
  else
    let f := depFetch p words (s.deputy p).master.pc.toNat s
    match f.1 with
    | some c => depFault p c f.2
    | none =>
      let next (x : DepCore) : DepCore := { x with pc := x.pc + BitVec.ofNat 16 (2 * words) }
      depAct p (run (next (f.2.deputy p).master)) (run (next (f.2.deputy p).checker)) f.2

/-- An instruction that only computes on registers. -/
def depCompute (p words : Nat) (f : DepCore → Except DepCause DepCore) (s : State) : State := depInstr p words (fun x => .ends (f x)) s

/-- An instruction with an immediate, Gd := f Gd. -/
def depImm (p d : Nat) (f : Byte → Byte) (s : State) : State := depCompute p 1 (fun x => .ok (x.setG d (f (x.gReg d)))) s

/-- An ALU function on bytes: Gd := f Gd Gs (R249). -/
def depAlu (p d r : Nat) (f : Byte → Byte → Byte) (s : State) : State :=
  depCompute p 1 (fun x => .ok (x.setG d (f (x.gReg d) (x.gReg r)))) s

/-- An ALU function on pairs: an odd number is an ILLEGAL fault (R248, R249). -/
def depAluPair (p d r : Nat) (f : BitVec 16 → BitVec 16 → BitVec 16) (s : State) : State :=
  depCompute p 1 (fun x =>
    if d % 2 ≠ 0 ∨ r % 2 ≠ 0 then .error .illegal else .ok (x.setPair d (f (x.pairReg d) (x.pairReg r)))) s

/-- Addresses Yn + #u, and Yn + s for post-modify (R248). -/
def depOffset (x : DepCore) (y u : Nat) : Nat := (x.yReg y + BitVec.ofNat 16 u).toNat
def depStep (x : DepCore) (y : Nat) (u : BitVec 7) : DepCore := x.setY y (x.yReg y + wrap 16 (sgn 7 u.toNat))

/-- Gd := byte at an address. -/
def depByteIn (d a : Nat) (x : DepCore) : DepAct := .load a 1 fun bs => x.setG d (bs.headD 0)

/-- The four G registers of Qq (R248). -/
def depQuad (x : DepCore) (q : Nat) : List Byte := (List.range 4).map fun b => x.gReg (4 * q + b)
def depSetQuad (x : DepCore) (q : Nat) (bs : List Byte) : DepCore := (bs.zipIdx).foldl (fun x b => x.setG (4 * q + b.2) b.1) x

/-- A push on the return stack, with the transfer (R247). -/
def depPush (x : DepCore) (ret target : BitVec 16) : Except DepCause DepCore :=
  if 8 ≤ x.stack.length then .error .rstack else .ok { x with stack := ret :: x.stack, pc := target }

/-- A pop into PC. -/
def depPop (x : DepCore) : Except DepCause DepCore :=
  match x.stack with
  | [] => .error .rstack
  | r :: rest => .ok { x with stack := rest, pc := r }

/-- A branch taken: PC := PC + 2 + 2s, PC having moved on (R248). -/
def depBranch (taken : Bool) (disp : Byte) (x : DepCore) : DepCore :=
  if taken then { x with pc := x.pc + wrap 16 (2 * sgn 8 disp.toNat) } else x

/-- DEP_IRQ.PEND and IEN is non-zero (R248, R250). -/
def depIrq (p : Nat) (s : State) : Bool := decide (s.getFld (pgDep p) 0x060 0 4 &&& s.getFld (pgDep p) 0x060 16 4 ≠ 0)

/-- WAITE ends (R248). -/
def depWake (p : Nat) (s : State) : State :=
  let d := s.deputy p
  let wake (x : DepCore) : DepAct := .ends (.ok { x with waiting := false })
  if live s && depOn p s && decide (depState p s = 1) && d.master.waiting && depIrq p s then depAct p (wake d.master) (wake d.checker) s else s

/-- A pending request is accepted (R250). -/
def depAccept (p : Nat) (s : State) : State :=
  let d := s.deputy p
  let accept (x : DepCore) : DepAct := .ends ((depPush x x.pc 0x0008).map fun v => { v with ie := false, waiting := false })
  if !live s || haltPending s || !depOn p s || decide (depState p s ≠ 1) || !d.master.ie || !depIrq p s then s
  else depAct p (accept d.master) (accept d.checker) s

end Sys2Proof.Machine
end

