-- ==== Sys2Proof/Machine/HostPort.lean ====
section
/-!
DEFINITION. Sys2Proof/Machine/HostPort.lean: the requests of the PCIe host (R342, R428, R464).
-/

namespace Sys2Proof.Machine

/-- The implemented BARs: the physical address of host offset 0, and the size (R464). -/
def barRange (bar : Nat) : Option (Nat × Nat) :=
  if bar = 0 then some (0x10000000, 0x1000000) else if bar = 2 then some (0, 0x4000000) else none

/-- `n` bytes from an offset on, divided at aligned 64-byte boundaries (R342); `fuel` bounds the pieces. -/
def hostPieces : Nat → Nat → Nat → List (Nat × Nat)
  | 0, _, _ => []
  | fuel + 1, off, n =>
    if n = 0 then []
    else
      let k := min n (64 - off % 64)
      (off, k) :: hostPieces fuel (off + k) (n - k)

/-- Some piece is refused by its checker, lies beyond the BAR, or lacks a byte enable of a register access (R342, R464). -/
def hostRefused (k : AccKind) (bar base size : Nat) (enabled : Bool) (ps : List (Nat × Nat)) (s : State) : Bool × State :=
  ps.foldl (fun (r : Bool × State) x =>
    if size < x.1 + x.2 ∨ (bar = 0 ∧ (!enabled ∨ x.1 % 4 ≠ 0 ∨ x.2 % 4 ≠ 0)) then (true, r.2)
    else
      let c := mpuCheck hostMaster k (base + x.1) r.2
      (r.1 || c.1, c.2)) (false, s)

/-- A piece of BAR0 read, each DWORD as one register access; none where a page is not listed (R31, R464). -/
def hostRegRead : Nat → Nat → State → Option Payload × State
  | 0, _, s => (some [], s)
  | n + 1, off, s =>
    if (pageKind (off / 0x1000)).isNone then (none, s)
    else
      let v := pageRead (off / 0x1000) (off % 0x1000) s
      let r := hostRegRead n (off + 4) v.2
      (r.1.map fun bs => cleanBytes (bytesOf 4 v.1.toNat) ++ bs, r.2)

/-- A piece of BAR0 written: done, or ended by a target. -/
def hostRegWrite : List Byte → Nat → State → Bool × State
  | a :: b :: c :: d :: rest, off, s =>
    if (pageKind (off / 0x1000)).isNone then (false, s)
    else hostRegWrite rest (off + 4) (pageWrite hostMaster.master (off / 0x1000) (off % 0x1000) (w32 (numOf [a, b, c, d])) s)
  | _, _, s => (true, s)

/-- The pieces of a read performed in order: its bytes, or none where a target ended one (R342). -/
def hostReadAll (bar base : Nat) : List (Nat × Nat) → State → Option Payload × State
  | [], s => (some [], s)
  | x :: rest, s =>
    let r : Option Payload × State := if bar = 0 then hostRegRead (x.2 / 4) x.1 s
      else match busRead hostMaster .read (base + x.1) x.2 s with
        | (.ok bs, s) => (some bs, s)
        | (.error _, s) => (none, s)
    match r.1 with
    | none => (none, r.2)
    | some bs =>
      let t := hostReadAll bar base rest r.2
      (t.1.map (bs ++ ·), t.2)

/-- The pieces of a write performed in order up to one that a target ends (R342). -/
def hostWriteAll (bar base : Nat) : List (Nat × Nat) → List Byte → State → State
  | [], _, s => s
  | x :: rest, bytes, s =>
    let r : Bool × State := if bar = 0 then hostRegWrite (bytes.take x.2) x.1 s
      else
        let w := busWrite hostMaster none (base + x.1) (cleanBytes (bytes.take x.2)) s
        (w.1.isNone, w.2)
    if r.1 then hostWriteAll bar base rest (bytes.drop x.2) r.2 else r.2

/-- The port claims a memory request: the function is in D0 with Memory Space Enable set, and the request starts in a BAR (R464). -/
def hostClaims (bar off : Nat) (s : State) : Option (Nat × Nat) :=
  if pciD3 s ∨ !bit (s.pciCfg 0x04) 1 then none
  else match barRange bar with
    | some r => if off < r.2 then some r else none
    | none => none

/-- A memory read of the host (R342, R464). -/
def hostRead (bar off len : Nat) (enabled : Bool) (s : State) : State :=
  match hostClaims bar off s with
  | none => pciReply .unsupported s
  | some (base, size) =>
    let ps := hostPieces (len + 1) off len
    let c := hostRefused .read bar base size enabled ps s
    if c.1 then pciReply .abort c.2
    else match hostReadAll bar base ps c.2 with
      | (some bs, s) => pciReply (.success (bs.map Prod.fst) (payloadPoison bs)) s
      | (none, s) => pciReply .abort s

/-- A memory write of the host (R342, R464), which has no completion. -/
def hostWrite (bar off : Nat) (bytes : List Byte) (enabled : Bool) (s : State) : State :=
  match hostClaims bar off s with
  | none => s
  | some (base, size) =>
    let ps := hostPieces (bytes.length + 1) off bytes.length
    let c := hostRefused .write bar base size enabled ps s
    if c.1 then c.2 else hostWriteAll bar base ps bytes c.2

/-- A request of the host reaches the port's function. -/
def hostPerform (s : State) (r : HostReq) : State :=
  match r with
  | .config w off data => pciConfig w off.toNat data s
  | .read bar off len enabled => hostRead bar off len enabled s
  | .write bar off bytes enabled => hostWrite bar off bytes enabled s

/-- A request of the host: held during a halt (R428), lost where the link is down. -/
def hostRequest (r : HostReq) (s : State) : State :=
  let s := pciReply .none s
  if !pciLinkUp s then s
  else if halted s then { s with pci := { s.pci with held := s.pci.held ++ [r] } }
  else hostPerform s r

/-- The requests held during a halt are performed in order at its release (R428). -/
def hostRelease (s : State) : State :=
  if halted s ∨ s.pci.held = [] then s else s.pci.held.foldl hostPerform { s with pci := { s.pci with held := [] } }

end Sys2Proof.Machine
end

