-- ==== Sys2Proof/Machine/Commit.lean ====
section
/-!
DEFINITION. Sys2Proof/Machine/Commit.lean: what follows from every command: the Bell, the trace, the pairs' bells, and the freezes and
halts that SAFE or a lockup asks for.
-/

namespace Sys2Proof.Machine

/-- The Bell event of a pair in RUN: the event chosen for it stands in DEP_BELL_NO while PEND.BELL is 1 (R250). -/
def ringPair (p : Nat) (s : State) : State :=
  if depState p s ≠ 1 ∨ bit (s.reg (pgDep p) 0x060) 3 then s
  else match chosenEvent (.pair p) s with
    | none => s
    | some e => depPend p 3 (s.setReg (pgDep p) 0x064 (w32 e))

/-- The pairs that pending events name. -/
def rungPairs (s : State) : List Nat :=
  s.bell.foldl (fun acc e => match routeTarget e s with
    | some (.pair p) => insertRising p acc
    | _ => acc) []

/-- SAFE has been entered: FREEZE_ON_SAFE and HALT_ON_SAFE (R426, R438). -/
def safeEntered (s : State) : State :=
  let s := if bit (s.reg (pgPmc 0) 0x040) 5 then pmcFreeze s else s
  if bit (s.reg pgDbg 0x080) 4 then haltRequest s else s

/-- The cores in lockup (R162). -/
def lockups (s : State) : List Nat := (List.range 35).filter fun c => (s.core c).lockup

/-- What a command's effect brings with it in the same step: a freeze and a halt on SAFE, a halt on a lockup (R426), the trace of the
Bell sources (R434), the sources themselves and the pairs they ring (R250). -/
def settle (old s : State) : State :=
  let s := if !old.guard.safe && s.guard.safe then safeEntered s else s
  let s := if (lockups s).any (fun c => !(old.core c).lockup) && bit (s.reg pgDbg 0x080) 5 then haltRequest s else s
  if halted s then s
  else
  let now := bellLevels s
  let s := { traceChanges old.bell now s with bell := now }
  let s := (rungPairs s).foldl (fun s p => ringPair p s) s
  { s with bell := bellLevels s }

/-- An effect that comes about only while the device runs and no halt holds it (R427, R455). -/
def whenLive (f : State → State) (s : State) : State := if live s then f s else s

/-- The outcome of a command whose effect is `f`. -/
def commit (f : State → State) (s : State) : Host.Outcome State Fault Refusal := .next (settle s (f s))

end Sys2Proof.Machine
end

