-- ==== Sys2Proof/Machine/BusCmd.lean ====
section
/-!
DEFINITION. Sys2Proof/Machine/BusCmd.lean: reads and writes of register pages as commands.
-/

namespace Sys2Proof.Machine

/-- The fabric answers: PD51 is powered, no reset is asserted and no halt holds it (R386, R427, R442). -/
def fabricUp (s : State) : Bool :=
  (decide (s.life.phase = .booting) || decide (s.life.phase = .bootHold) || decide (s.life.phase = .running)) && !halted s

/-- A requester with the privilege that its master has: a core's as stated, any other's fixed (R333). -/
def settledRequester (q : Requester) : Requester := if q.master.toNat < 0x23 then q else fixedRequester q.master

/-- The masters that issue transactions as commands (R24, R25): 0xFE issues none but those of the wire (R423), and the boot ROM
issues its own only while it runs (R269). -/
def masterIssues (m : Nat) (s : State) : Bool :=
  decide (m ≤ 0x23) || (decide (0x30 ≤ m) && decide (m ≤ 0x47)) || (decide (0x50 ≤ m) && decide (m ≤ 0x93)) || decide (m = 0xA0)
    || (decide (m = 0xFF) && decide (s.life.phase = .booting))

/-- A transaction may be issued, of an aligned address (R32). -/
def mayTransact (q : Requester) (a size : Nat) (s : State) : Bool :=
  fabricUp s && masterIssues q.master.toNat s && decide (a % max 1 size = 0)

/-- The state with the answer to a bus command. -/
def State.setAnswer (s : State) (a : BusAnswer) : State := { s with answer := a }

/-- A write of a register page by a master (R31–R36). -/
def busCommand (q : Requester) (a size : Nat) (data : W32) (s : State) : State :=
  if !mayTransact q a size s then s.setAnswer .none
  else if !inWindow a then s.setAnswer (.error 4)
  else
    let r := fabricWrite (settledRequester q) a size data s
    r.2.setAnswer (match r.1 with
      | some e => .error e
      | none => .done none)

/-- A 32-bit write of the register at `off` of page `p`. -/
def regCommand (q : Requester) (p off : Nat) (data : W32) (s : State) : State := busCommand q (regAddr p off) 4 data s

/-- A 32-bit read of the register at `off` of page `p`. -/
def readCommand (q : Requester) (p off : Nat) (s : State) : State :=
  let a := regAddr p off
  if !mayTransact q a 4 s then s.setAnswer .none
  else
    let r := fabricRead (settledRequester q) .read a 4 s
    r.2.setAnswer (match r.1 with
      | .error e => .error e
      | .ok v => .done (some v))

end Sys2Proof.Machine
end

