-- ==== Sys2Proof/Machine/AudioCmd.lean ====
section
/-!
DEFINITION. Sys2Proof/Machine/AudioCmd.lean: the Tipple, the media clock, the audio inputs and outputs and the Refuge route.
-/

namespace Sys2Proof.Machine

/-- Island 46 runs: no halt, or one that leaves the Refuge route running (R427). -/
def whileRefuge (f : State → State) (s : State) : State :=
  if (halted s && !bit (s.reg pgDbg 0x040) 27) || s.life.supplyLow then s else f s

/-- REFUGE_REQ becomes present: cause REQ (R229), and a wake from DORMANT where LRM_WAKE asks for it (R387). -/
def refugeRequested (s : State) : State :=
  let s := refugeCause 3 true s
  if bit (s.reg pgLrm 0x088) 30 then wake s else s

/-- TIPPLE_STAGE_DATA_WRITE (R202). -/
def execTippleStageDataWrite (q : Requester) (data : W32) (s : State) : Host.Outcome State Fault Refusal :=
  commit (regCommand q pgTpl 0x044 data) s

/-- TIPPLE_COLUMN_COMPARE (R199). -/
def execTippleColumnCompare (column : Fin 256) (s : State) : Host.Outcome State Fault Refusal :=
  commit (whenLive (compareCommand column.val)) s

/-- FAIL_LOG_READ (R205). -/
def execFailLogRead (q : Requester) (s : State) : Host.Outcome State Fault Refusal :=
  commit (readCommand q pgTpl 0x080) s

/-- MCLK_SOURCE_VALID (R208). -/
def execMclkSourceValid (s : State) : Host.Outcome State Fault Refusal :=
  commit (whenLive (mclkValid)) s

/-- MCLK_SOURCE_INVALID (R208). -/
def execMclkSourceInvalid (s : State) : Host.Outcome State Fault Refusal :=
  commit (whenLive (mclkInvalid)) s

/-- MCLK_LOCKED (R208). -/
def execMclkLocked (s : State) : Host.Outcome State Fault Refusal :=
  commit (whenLive (mclkLock)) s

/-- TDM_FRAME (R212), which the Refuge route's receiver reads for itself (R226). -/
def execTdmFrame (port : Fin 8) (rx : TdmIn) (misplaced : Bool) (s : State) : Host.Outcome State Fault Refusal :=
  commit (fun s => whenLive (Sys2Proof.Machine.tdmFrame port.val rx.din rx.period misplaced) (whileRefuge (refugeReceive port.val rx.din) s)) s

/-- TDM_BCLK_LOSS (R212). -/
def execTdmBclkLoss (port : Fin 8) (s : State) : Host.Outcome State Fault Refusal :=
  commit (whenLive (Sys2Proof.Machine.tdmBclkLoss port.val)) s

/-- PDM_WARMUP_END (R216). -/
def execPdmWarmupEnd (group : Fin 8) (s : State) : Host.Outcome State Fault Refusal :=
  commit (whenLive (pdmWarm group.val)) s

/-- MIC_STUCK (R216). -/
def execMicStuck (mic : Fin 64) (s : State) : Host.Outcome State Fault Refusal :=
  commit (whenLive (micStuckNow mic.val)) s

/-- MODULATOR_CLIP (R219). -/
def execModulatorClip (chan : Fin 96) (s : State) : Host.Outcome State Fault Refusal :=
  commit (whenLive (pwmClips chan.val)) s

/-- PWM_STATE_WRITE (R220). -/
def execPwmStateWrite (q : Requester) (chan : Fin 96) (data : W32) (s : State) : Host.Outcome State Fault Refusal :=
  commit (regCommand q (pgPwm chan.val) 0x040 data) s

/-- SENSE_STUCK (R224). -/
def execSenseStuck (chan : Fin 96) (current : Bool) (s : State) : Host.Outcome State Fault Refusal :=
  commit (whenLive (senseFlag chan.val (if current then 1 else 0) 1)) s

/-- SENSE_CLIP (R224). -/
def execSenseClip (chan : Fin 96) (current : Bool) (s : State) : Host.Outcome State Fault Refusal :=
  commit (whenLive (senseFlag chan.val (if current then 3 else 2) 2)) s

/-- REFUGE_ARM_WRITE (R227). -/
def execRefugeArmWrite (q : Requester) (data : W32) (s : State) : Host.Outcome State Fault Refusal :=
  commit (regCommand q pgRfg 0x070 data) s

/-- REFUGE_REQ_PRESENT (R229). -/
def execRefugeReqPresent (s : State) : Host.Outcome State Fault Refusal :=
  commit (whileRefuge refugeRequested) s

/-- REFUGE_REQ_ABSENT (R229). -/
def execRefugeReqAbsent (s : State) : Host.Outcome State Fault Refusal :=
  commit (whileRefuge (refugeCause 3 false)) s

/-- REFUGE_LEVEL_RAMP_DONE (R229). -/
def execRefugeLevelRampDone (s : State) : Host.Outcome State Fault Refusal :=
  commit (whileRefuge refugeRampDone) s

/-- REFUGE_DEACTIVATE (R230). -/
def execRefugeDeactivate (s : State) : Host.Outcome State Fault Refusal :=
  commit (whileRefuge Sys2Proof.Machine.refugeDeactivate) s

/-- REFUGE_SOURCE_LOST (R228). -/
def execRefugeSourceLost (s : State) : Host.Outcome State Fault Refusal :=
  commit (whileRefuge refugeLost) s

/-- REFUGE_SOURCE_RETURN (R228). -/
def execRefugeSourceReturn (s : State) : Host.Outcome State Fault Refusal :=
  commit (whileRefuge refugeFound) s

/-- REFUGE_TONE_SEGMENT_END (R228). -/
def execRefugeToneSegmentEnd (s : State) : Host.Outcome State Fault Refusal :=
  commit (whileRefuge refugeSegmentEnd) s

end Sys2Proof.Machine
end

