-- ==== Sys2Proof/Machine/BankCmd.lean ====
section
/-!
DEFINITION. Sys2Proof/Machine/BankCmd.lean: invalidation, the Winders, the panel decoder, the ECC and scrub pages.
-/

namespace Sys2Proof.Machine

/-- BANK_INVALIDATE_GO (R300). -/
def execBankInvalidateGo (q : Requester) (bank : Fin 52) (words : BitVec 19) (s : State) : Host.Outcome State Fault Refusal :=
  commit (regCommand q (pgBnk bank.val) 0x048 (w32 (0x80000000 + words.toNat))) s

/-- INV_DONE (R300). -/
def execInvDone (bank : Fin 52) (s : State) : Host.Outcome State Fault Refusal :=
  commit (whenLive (invalidateDone bank.val)) s

/-- WINDER_START (R307): `data` gives the other fields of the write. -/
def execWinderStart (q : Requester) (district : Fin 4) (chan : Fin 16) (data : W32) (s : State) : Host.Outcome State Fault Refusal :=
  commit (regCommand q (pgWnd district.val) (wndOff chan.val 0) (data ||| 1)) s

/-- WINDER_STOP (R309): `data` gives the other fields of the write. -/
def execWinderStop (q : Requester) (district : Fin 4) (chan : Fin 16) (data : W32) (s : State) : Host.Outcome State Fault Refusal :=
  commit (regCommand q (pgWnd district.val) (wndOff chan.val 0) (data ||| 2)) s

/-- WINDER_RESUME (R309): `data` gives the other fields of the write. -/
def execWinderResume (q : Requester) (district : Fin 4) (chan : Fin 16) (data : W32) (s : State) : Host.Outcome State Fault Refusal :=
  commit (regCommand q (pgWnd district.val) (wndOff chan.val 0) (data ||| 4)) s

/-- WINDER_ENTRY (R307); the Winders stop at an element boundary for a halt (R427). -/
def execWinderEntry (district : Fin 4) (chan : Fin 16) (elements : Nat) (s : State) : Host.Outcome State Fault Refusal :=
  commit (whenLive fun s => if haltPending s then s else Sys2Proof.Machine.winderEntry district.val chan.val elements s) s

/-- PANEL_DECODE (R318). -/
def execPanelDecode (group : Fin 10) (s : State) : Host.Outcome State Fault Refusal :=
  commit (Sys2Proof.Machine.panelDecode group.val) s

/-- ECC_RETIRE_WRITE (R324). -/
def execEccRetireWrite (q : Requester) (group : Fin 10) (w : Fin 64) (data : W32) (s : State) : Host.Outcome State Fault Refusal :=
  commit (regCommand q (pgEcc group.val) (0x400 + 4 * w.val) data) s

/-- ECC_CLR_ALL (R329). -/
def execEccClrAll (q : Requester) (group : Fin 10) (s : State) : Host.Outcome State Fault Refusal :=
  commit (regCommand q (pgEcc group.val) 0x044 0x80000000) s

/-- ECC_CLR_COUNTS (R329). -/
def execEccClrCounts (q : Requester) (group : Fin 10) (s : State) : Host.Outcome State Fault Refusal :=
  commit (regCommand q (pgEcc group.val) 0x044 0x40000000) s

/-- ECC_CLR_ONE (R329). -/
def execEccClrOne (q : Requester) (group : Fin 10) (index : Fin 64) (s : State) : Host.Outcome State Fault Refusal :=
  commit (regCommand q (pgEcc group.val) 0x044 (w32 (0x100 + index.val))) s

/-- SCRUB_GO (R326), PARITY as it stands. -/
def execScrubGo (q : Requester) (group : Fin 10) (s : State) : Host.Outcome State Fault Refusal :=
  commit (fun s => regCommand q (pgScb group.val) 0x048 ((s.reg (pgScb group.val) 0x048 &&& 0x100) ||| 1) s) s

/-- SCRUB_STOP (R326), PARITY as it stands. -/
def execScrubStop (q : Requester) (group : Fin 10) (s : State) : Host.Outcome State Fault Refusal :=
  commit (fun s => regCommand q (pgScb group.val) 0x048 ((s.reg (pgScb group.val) 0x048 &&& 0x100) ||| 2) s) s

/-- SCRUB_DONE (R326). -/
def execScrubDone (group : Fin 10) (s : State) : Host.Outcome State Fault Refusal :=
  commit (whenLive (Sys2Proof.Machine.scrubDone group.val)) s

/-- ECC_SELFTEST_GO (R327). -/
def execEccSelftestGo (q : Requester) (group : Fin 10) (s : State) : Host.Outcome State Fault Refusal :=
  commit (regCommand q (pgEcc group.val) 0x04C 1) s

/-- ECC_SELFTEST_DONE (R327). -/
def execEccSelftestDone (group : Fin 10) (fail : Option (Nat × Fin 9)) (s : State) : Host.Outcome State Fault Refusal :=
  commit (whenLive (selftestDone group.val (fail.map fun x => (x.1, x.2.val)))) s

end Sys2Proof.Machine
end

