-- ==== Sys2Proof/Machine/Shift.lean ====
section
/-!
DEFINITION. Sys2Proof/Machine/Shift.lean: the phase edges of a shift, in the order of R46, with the cut-off of R48, and the shift boundary.
-/

namespace Sys2Proof.Machine

/-- An edge comes when the shift timer runs and stands in the segment before it (R45, R46); a halt stops the timer (R427). -/
def edgeComes (g : Segment) (s : State) : Bool := live s && s.ons.runs && decide (s.ons.seg = g)

/-- The state with the shift timer in a segment. -/
def State.setSeg (s : State) (g : Segment) : State := { s with ons := { s.ons with seg := g } }

/-- An edge of the shift timer: only where it stands before that edge (R45); its actions find the timer in the segment it opens. -/
def onEdge (g g' : Segment) (f : State → State) (s : State) : State :=
  if edgeComes g s then (f (s.setSeg g')).setSeg g' else s

/-! ### Edges within a shift -/

/-- 40.0 µs for one District: an INTAKE transfer in progress is late (R52). -/
def intakeDistrict (s : State) (d : Nat) : State :=
  if intakeBusy d s then intakeLateTasks d (intakeStop d (s.setEvt pgOns 5)) else s

/-- 40.0 µs: INTAKE completion is checked, the blocks enter the Tipple, the pools' queues are retested after the releases, the PRIMARY owners
are applied (R46, R52, R188, R356, R368). -/
def intakeEdge (s : State) : State :=
  let s := (List.range 4).foldl intakeDistrict s
  let s := pumpPools (releaseDelivered (fillFromNetwork (fillFromFrontEnd s)))
  applyOwners 1 s

/-- The Tipple's counters of a pass over the columns computed in this shift: their live entries, with a multiply-accumulate each per sample
(R194, R195, R436). -/
def countPass (s : State) : State :=
  if !tplRuns s then s
  else
    let columns := (List.range 256).filter fun j => (sparseGet none s.tpl.first j).isSome
    let n := (columns.map fun j => sparseGet 0 s.tpl.live j).sum
    pmcEvent 36 0x03 (n * blockLen s) 0 (pmcEvent 36 0x13 n 0 s)

/-- 330.0 µs: cuts, the SHADOW owners, the Tipple's first pass (R46, R66). -/
def primaryEdge (s : State) : State := countPass (tippleFirstPass (applyOwners 2 (primaryCuts s)))

/-- Every Hewer thread becomes idle (R46). -/
def idleHewers (s : State) : State :=
  (List.range 128).foldl (fun s k =>
    let h := hewerThread (k / 4) (k % 4)
    if (s.thread h).running then stopThread h s else s) s

/-- 620.0 µs: cuts, every Hewer thread idle, the VERDICT owners, the verdicts, the transmit reservations (R46, R67, R178, R360). -/
def shadowEdge (s : State) : State :=
  let s := applyOwners 3 (idleHewers (shadowCuts (countPass s)))
  txReserve (canaryVerdicts (verdicts s))

/-- The micro-store check of a District (R144). -/
def ustoreCheck (s : State) (d : Nat) : State :=
  let c := s.reg (pgWnd d) 0x700
  if s.domain (32 + 4 * d) ≠ .on ∨ !bit c 1 ∨ bit c 0 then s
  else
    let sum := crc32 (cellsRead 0 s.mem.ustore (d * 0x4000) 0x4000)
    let bad := decide (sum ≠ s.reg (pgWnd d) 0x704)
    let s := (s.setReg (pgWnd d) 0x708 sum).setEvtIf bad (pgWnd d) 31
    { s with ustoreBad := sparseSet false s.ustoreBad d bad }

/-- The Tipple's counters after a release: the columns released and those concealed, by TPL_VERDICT (R436, R205). -/
def countColumns (s : State) : State :=
  let bad := s.getFld pgTpl 0x05C 16 9
  pmcEvent 36 0x15 bad 0 (pmcEvent 36 0x14 (256 - bad) 0 s)

/-- The staged writes that a boundary applies: those it does not refuse (R203). -/
def stagedApplied (s : State) : Nat :=
  (s.tpl.queue.foldl (fun (a : Nat × State) q => (a.1 + b2n (!(decide (q.table = 2) && destTaken q.index q.data a.2.tpl)), stageApply q a.2)) (0, s)).1

/-- 650.0 µs: the Tipple's release, the DRAIN owners, the Winders and the Adit (R46, R144, R307, R355, R360, R368). -/
def verdictEdge (s : State) : State :=
  let s := applyOwners 4 (if tplRuns s then countColumns (tippleRelease s) else s)
  let s := landingStart (packFrames (failQueued (winderDrain s)))
  (List.range 4).foldl ustoreCheck s

/-- 664.5 µs: the Adit starts no more copies (R48), and the landing of the next blocks ends (R355). -/
def cutoffEdge (s : State) : State := landingEnd s

/-- An empty crossing. -/
def idleCrossing : Crossing := ⟨[], [], []⟩

/-- A crossing empties in DRAIN: everything in it and at its source has been delivered, in order (R19, R47). -/
def Crossing.drained (c : Crossing) : Crossing :=
  let rest := c.waiting ++ c.held
  if rest.isEmpty then c else ⟨[], [], rest⟩

/-- Every crossing is empty, and the copies of received frames that began before 664.5 µs are complete (R47, R48). -/
def drainPaths (s : State) : State :=
  let crossings := s.crossings.foldl (fun m kv => sparseSet idleCrossing m kv.1 kv.2.drained) []
  (List.range 4).foldl (fun s p => frameCopyDone p s) { s with crossings := crossings }

/-- 665.0 µs: the drain deadline and the Lamp check (R46, R50, R371, R311, R363). -/
def drainEdge (s : State) : State :=
  let s := drainPaths s
  lampCheck (if drainBusy s then drainStop (s.setEvt pgOns 6) else s)

/-! ### The boundary -/

/-- The blocks that play in the next shift, by the output descriptors they were computed under (R72, R197): an output with no block released is
all-zero (R204, R405). -/
def playedBlocks (s : State) : Sparse (List W24) :=
  (List.range 256).foldl (fun m j =>
    let d := s.tpl.output j
    let blk := sparseGet [] s.tpl.out j
    let blk := if blk.isEmpty then List.replicate (blockLen s) 0 else blk
    if fld d 29 3 = 1 then sparseSet [] m j blk
    else if fld d 29 3 = 2 then sparseSet [] m (128 + fld d 20 9) blk
    else m) []

/-- A boundary at a TDM port: a new count of frames, and RATE_FAULT (R211, R213). -/
def tdmBoundary (changed : Bool) (s : State) (n : Nat) : State :=
  let s := s.setTdmPort n { s.tdmPort n with frames := [], next := 0, err := false }
  if changed && frontEndOn s && !tdmFits (s.effReg (pgTdm n) 0x040) (rate96 s) then (s.setFld (pgTdm n) 0x04C 1 1 1).setEvt (pgTdm n) 2 else s

/-- The Triad's hand-over at a boundary (R280). -/
def handOverBoundary (s : State) : State :=
  match s.tri.handOver with
  | none => s
  | some x =>
    let s := (setDomainState (48 + x) .off s).setFld (pgOvm x) 0x01C 0 2 0
    let s := s.setReplica x { s.replica x with role := .retired }
    let mine : Bool := match s.tri.job with
      | some j => decide (j.x = x)
      | none => false
    ({ s with tri := { s.tri with handOver := none, mode := 3, job := if mine then none else s.tri.job } }).setEvt pgGat 6

/-- An event whose target cannot accept it (R416). -/
def undeliverable (e : Nat) (s : State) : Bool :=
  match routeTarget e s with
  | none => false
  | some (.hewer n _) => decide (s.domain n ≠ .on) || quarantined n s || (s.core n).lockup
  | some (.overman _) => (List.range 3).all fun r => !(isActive r s || decide (r ∈ soloReplicas s)) || (s.core (32 + r)).lockup
  | some (.pair p) => decide (depState p s ≠ 1)

/-- The Bell's record of an undeliverable event at a boundary (R416). -/
def undelivered (s : State) : State :=
  match s.bell.find? (fun e => undeliverable e s) with
  | none => s
  | some e =>
    let s := s.setEvt pgBel 4
    if bit (s.reg pgBel 0x07C) 31 then s else s.setReg pgBel 0x07C (w32 (0x80000000 + e))

/-- What ends with the old shift, by the registers still in effect: the gPTP engine's own time, captured and played blocks, the media clock's discipline, the Roster
switch (R348, R72, R208, R56). -/
def boundaryBefore (inp : BoundaryIn) (s : State) : State :=
  let s := ptpAdvance s
  let was := s
  let s := micStreams inp.pdm s
  let caught := { was with aud := { was.aud with micStuck := s.aud.micStuck } }
  let a := { s.aud with capture := captureAll inp.pdm caught, hpf := micFilters inp.pdm was, play := playedBlocks s, before := s.aud.play }
  let s := { s with aud := a }
  let s := if s.ons.first then s else mclkBoundary inp.phaseErr inp.corr s
  rosterActivate s

/-- The registers take effect; the ledger of the shift that ends (R46, R375). -/
def boundaryRegisters (inp : BoundaryIn) (s : State) : State :=
  let source := mclkSource s
  let total := s.effFld pgLrm 0x044 0 20
  let s := { s with eff := s.regs }
  let s := mclkSelect source inp.sourceValid (pinsBoundary s)
  if s.ons.first then s else hourBoundary (lampBoundary inp.use total s)

/-- Quarantines, operating points, then power domains (R20, R23, R46, R183, R280, R389). -/
def boundaryPower (s : State) : State :=
  let v := pointsBoundary (handOverBoundary (quarantineBoundary s))
  let p := powerBoundary v.2
  surveyBoundary (vidBoundary (max v.1 p.1) p.2)

/-- ONS_SHIFT_NO increments, except at the first boundary after the timer starts (R46, R455). -/
def countShift (s : State) : State := if s.ons.first then s else s.incReg pgOns 0x04C

/-- The line inputs and outputs: sense samples into the correlators, clock groups, TDM ports (R213, R216, R222, R225, R242). -/
def boundaryLines (inp : BoundaryIn) (changed : Bool) (s : State) : State :=
  let vi := (List.range 96).map fun c => senseSamples c (inp.sense.getD c []) s
  let s := senseStreams inp.sense s
  let flags := s.aud.sense
  let s := pmonBoundary (countShift (boundaryPower (outputsBoundary vi s)))
  let s := { s with aud := { s.aud with sense := flags } }
  let s := (List.range 96).foldl (fun s c => correlatorBoundary c (vi.getD c []) s) s
  let s := { s with aud := { s.aud with sense := [] } }
  (List.range 8).foldl (tdmBoundary changed) (pdmBoundary s)

/-- The Tipple, the streams, the Deputies and the Canary (R188, R283, R365). -/
def boundaryBlocks (was : State) (inp : BoundaryIn) (changed : Bool) (s : State) : State :=
  let s := lampForecast s
  let s := streamsBoundary was inp.grid (pmcEvent 36 0x16 (if s.domain 61 = .on then stagedApplied s else 0) 0 (tippleBoundary changed s))
  let s := (List.range 24).foldl (fun s p => deputyBoundary p s) s
  let s := watchdogBoundary (was.active pgWdg) (aliveBoundary (canaryDeputies (canaryBoundary s)))
  { s with ustoreBad := (List.range 4).foldl (fun m d => sparseSet false m (4 + d) (sparseGet false m d)) s.ustoreBad }

/-- The INTAKE owners, the Winders, the relays and admission (R46, R59, R286). -/
def boundaryAdmit (s : State) : State :=
  let s := winderBoundary (applyOwners 0 (closeShift s))
  let s := { s with guard := { s.guard with relays := relayLevels s.guard.safe s } }
  let r := admitTasks s
  pinsFirst (if r.1 then enterSafe .rosterPoison 37 (r.2.setEvt pgOns 8) else r.2)

/-- The voted replicas' boundary checkpoint opens, and replicas without a partner take theirs (R260, R276, R279). -/
def boundaryTriad (s : State) : State :=
  let s := openCheckpoint true (resyncBoundary s)
  (soloReplicas s).foldl (fun s r => ownCheckpoint r s) s

/-- The shift timer opens the shift, unless a reset has come with the boundary; the Adit's copies begin again (R48). -/
def openShift (s : State) : State :=
  if s.life.phase = .running then pumpPorts { s with ons := { s.ons with seg := .intake, first := false } } else s

/-- The shift boundary (R46): DORMANT in place of the new shift where it has been asked for (R386). -/
def boundary (inp : BoundaryIn) (s : State) : State :=
  let s := boundaryBefore inp s
  let was := s
  let s := boundaryRegisters inp s
  let changed := decide (rate96 was ≠ rate96 s)
  let s := boundaryBlocks was inp changed (boundaryLines inp changed s)
  if s.effFld pgLrm 0x040 0 2 = 3 ∧ !s.guard.safe then enterDormant s
  else openShift (boundaryTriad (undelivered (boundaryAdmit s)))

/-- A boundary that the running shift timer reaches (R45). -/
def onBoundary (inp : BoundaryIn) (s : State) : State := if edgeComes .lamp s then boundary inp s else s

end Sys2Proof.Machine
end

