-- ==== Sys2Proof/Machine/BootCmd.lean ====
section
/-!
DEFINITION. Sys2Proof/Machine/BootCmd.lean: resets, the boot, the flash controller and the PCIe host port.
-/

namespace Sys2Proof.Machine

/-- The first boundary: step 7 of the boot, then the boundary that opens shift 0 (R455, R450). -/
def bootHandOver (micros : Nat) (inp : BoundaryIn) (s : State) : State :=
  if s.life.phase ≠ .booting ∨ halted s ∨ s.life.heldBoot.isSome then s
  else
    let s := handover micros s
    let s := [32, 33, 34].foldl (fun s c => loadPins c (flushCaches c s)) s
    boundary inp s

/-- The flash controller runs (R462). -/
def whileFlash (f : State → State) (s : State) : State := if fabricUp s then f s else s

/-- A write of AON_BOOT.RETRY, which only 0xFE performs (R449). -/
def retryBoot (s : State) : State := Sys2Proof.Machine.bootRetry 0xFE s

/-- POWER_ON_RESET_CAUSE (R484). -/
def execPowerOnResetCause (s : State) : Host.Outcome State Fault Refusal :=
  commit (supplyFalls) s

/-- SUPPLY_RETURN (R484). -/
def execSupplyReturn (s : State) : Host.Outcome State Fault Refusal :=
  commit (supplyReturns) s

/-- REFERENCE_COUNT_DONE (R484). -/
def execReferenceCountDone (s : State) : Host.Outcome State Fault Refusal :=
  commit (refCountDone) s

/-- WARM_RESET_PIN (R418). -/
def execWarmResetPin (s : State) : Host.Outcome State Fault Refusal :=
  commit (pinFalls) s

/-- WARM_RESET_PIN_END (R442). -/
def execWarmResetPinEnd (s : State) : Host.Outcome State Fault Refusal :=
  commit (pinRises) s

/-- RESET_RELEASE (R442). -/
def execResetRelease (inp : BootIn) (s : State) : Host.Outcome State Fault Refusal :=
  commit (releaseReset inp) s

/-- BOOT_TIMEOUT (R448). -/
def execBootTimeout (s : State) : Host.Outcome State Fault Refusal :=
  commit (Sys2Proof.Machine.bootTimeout) s

/-- BOOT_RETRY (R449). -/
def execBootRetry (s : State) : Host.Outcome State Fault Refusal :=
  commit (retryBoot) s

/-- BOOT_HANDOVER (R455). -/
def execBootHandover (micros : Nat) (inp : BoundaryIn) (s : State) : Host.Outcome State Fault Refusal :=
  commit (bootHandOver micros inp) s

/-- XSP_CMD_GO (R462): `data` gives the other fields of the write. -/
def execXspCmdGo (q : Requester) (data : W32) (s : State) : Host.Outcome State Fault Refusal :=
  commit (regCommand q pgXsp 0x048 (data ||| 0x80000000)) s

/-- XSP_STATUS_POLL (R462). -/
def execXspStatusPoll (status : FlashStatus) (s : State) : Host.Outcome State Fault Refusal :=
  commit (whileFlash (xspPoll status)) s

/-- XSP_POLL_TIMEOUT (R462). -/
def execXspPollTimeout (s : State) : Host.Outcome State Fault Refusal :=
  commit (whileFlash xspTimeout) s

/-- XSP_CMD_DONE (R462). -/
def execXspCmdDone (read : List Byte) (changed : List (Nat × Byte)) (s : State) : Host.Outcome State Fault Refusal :=
  commit (whileFlash (xspDone read changed)) s

/-- PCIE_CONFIG_REQUEST (R464). -/
def execPcieConfigRequest (write : Bool) (off : BitVec 12) (data : W32) (s : State) : Host.Outcome State Fault Refusal :=
  commit (hostRequest (.config write off data)) s

/-- PCIE_BAR_READ (R342). -/
def execPcieBarRead (bar : Fin 6) (off : Nat) (len : Nat) (enabled : Bool) (s : State) : Host.Outcome State Fault Refusal :=
  commit (hostRequest (.read bar.val off len enabled)) s

/-- PCIE_BAR_WRITE (R342). -/
def execPcieBarWrite (bar : Fin 6) (off : Nat) (bytes : List Byte) (enabled : Bool) (s : State) : Host.Outcome State Fault Refusal :=
  commit (hostRequest (.write bar.val off bytes enabled)) s

/-- PCIE_PERST (R481). -/
def execPciePerst (level : Bool) (s : State) : Host.Outcome State Fault Refusal :=
  commit (pciPerst level) s

/-- PCIE_LINK_CHANGE (R466). -/
def execPcieLinkChange (link : Option (BitVec 2 × BitVec 2)) (s : State) : Host.Outcome State Fault Refusal :=
  commit (pciLink link) s

/-- PCI_H2D_WRITE (R465). -/
def execPciH2dWrite (q : Requester) (data : W32) (s : State) : Host.Outcome State Fault Refusal :=
  commit (regCommand q pgPci 0x05C data) s

/-- PCI_H2D_ACK (R465). -/
def execPciH2dAck (q : Requester) (s : State) : Host.Outcome State Fault Refusal :=
  commit (regCommand q pgPci 0x060 1) s

/-- PCI_D2H_WRITE (R465). -/
def execPciD2hWrite (q : Requester) (data : W32) (s : State) : Host.Outcome State Fault Refusal :=
  commit (regCommand q pgPci 0x07C data) s

/-- PCI_D2H_ACK (R465). -/
def execPciD2hAck (q : Requester) (s : State) : Host.Outcome State Fault Refusal :=
  commit (regCommand q pgPci 0x080 1) s

/-- PCI_MSI_SEND (R465). -/
def execPciMsiSend (q : Requester) (vector : BitVec 5) (s : State) : Host.Outcome State Fault Refusal :=
  commit (regCommand q pgPci 0x084 (vector.zeroExtend 32)) s

/-- MSI_PENDING_SEND (R465). -/
def execMsiPendingSend (vector : Fin 32) (s : State) : Host.Outcome State Fault Refusal :=
  commit (whenLive (msiPending vector.val)) s

end Sys2Proof.Machine
end

