-- ==== Sys2Proof/Machine/DebugCmd.lean ====
section
/-!
DEFINITION. Sys2Proof/Machine/DebugCmd.lean: the debug wire, halt, the terminal, the trace and the counters.
-/

namespace Sys2Proof.Machine

/-- What a request of the wire brings with it: a fed bundle executes (R430), and at the end of a halt a boot that it held goes on (R431)
and the host's requests that it held are performed (R428). -/
def wireStep (f : State → State) (s : State) : State := hostRelease (resumeBoot (Sys2Proof.Machine.feedGo (f s)))

/-- The bus answers the debug port (R422, R429): PD51 is powered and no reset is asserted. -/
def wireBusUp (s : State) : Bool :=
  match s.life.phase with
  | .asserted => false
  | .dormant => s.emu.dormant
  | _ => true

/-- A bus access of 0xFE performed, with what it is answered (R421, R422). -/
def debugTransfer (write : Bool) (a size : Nat) (data : W32) (s : State) : WireReply × State :=
  if !wireBusUp s then (⟨ackCode .fault, none⟩, s)
  else if write then
    let r := busWrite debugMaster none a (cleanBytes (bytesOf size data.toNat)) s
    (⟨ackCode (if r.1.isSome then .fault else .ok), none⟩, r.2)
  else match busRead debugMaster .read a size s with
    | (.error _, s) => (⟨ackCode .fault, none⟩, s)
    | (.ok bs, s) => (⟨ackCode (if payloadPoison bs then .poison else .ok), some (w32 (payloadNum bs))⟩, s)

/-- The state with the port's access and the wire's last response. -/
def State.setAccess (s : State) (a : DbgAccess) (r : WireReply) : State := { s with dbg := { s.dbg with access := a, wire := some r } }

/-- The level that an access needs (R423). -/
def accessNeeds (write : Bool) (a : Nat) : Nat := if write || (inWindow a && decide (a % 0x1000 < 0x800)) then 2 else 1

/-- An MREAD or MWRITE (R421–R423); `late`: it is not complete at the response point. -/
def debugAccess (write : Bool) (a size : Nat) (data : W32) (late : Bool) (s : State) : State :=
  if size = 3 then wireReply .fault none s
  else if debugLevel s < accessNeeds write a then wireReply .denied none s
  else match s.dbg.access with
    | .outstanding _ _ _ _ => wireReply .wait none s
    | _ =>
      let n := 2 ^ size
      if a % n ≠ 0 then wireReply .fault none s
      else if late then s.setAccess (.outstanding write (w32 a) n data) ⟨ackCode .wait, none⟩
      else
        let r := debugTransfer write a n data s
        r.2.setAccess .none r.1

/-- The outstanding access completes, and its result waits for POLL (R422). -/
def debugComplete (s : State) : State :=
  match s.dbg.access with
  | .outstanding write a n data =>
    let r := debugTransfer write a.toNat n data s
    { r.2 with dbg := { r.2.dbg with access := .unreported r.1 } }
  | _ => s

/-- POLL (R422). -/
def debugPoll (s : State) : State :=
  match s.dbg.access with
  | .none => wireReply .fault none s
  | .outstanding _ _ _ _ => wireReply .wait none s
  | .unreported r => s.setAccess .none r

/-- A DWRITE of DBG_CTRL.RESUME; `long`: the halt has lasted more than 10 µs (R431). -/
def resumeHalt (long : Bool) (s : State) : State :=
  if debugLevel s < 2 then wireReply .denied none s else wireReply .ok none (haltRelease long s)

/-- DREAD (R420). -/
def execDread (off : BitVec 12) (s : State) : Host.Outcome State Fault Refusal :=
  commit (wireRead off.toNat) s

/-- DWRITE (R420). -/
def execDwrite (off : BitVec 12) (data : W32) (s : State) : Host.Outcome State Fault Refusal :=
  commit (wireStep (wireWrite off.toNat data)) s

/-- MREAD (R422). -/
def execMread (addr : W32) (size : BitVec 2) (late : Bool) (s : State) : Host.Outcome State Fault Refusal :=
  commit (debugAccess false addr.toNat size.toNat 0 late) s

/-- MWRITE (R422). -/
def execMwrite (addr : W32) (size : BitVec 2) (data : W32) (late : Bool) (s : State) : Host.Outcome State Fault Refusal :=
  commit (wireStep (debugAccess true addr.toNat size.toNat data late)) s

/-- POLL (R422). -/
def execPoll (s : State) : Host.Outcome State Fault Refusal :=
  commit (debugPoll) s

/-- BREAK (R418): it discards a packet in progress, and a request is a command only once whole. -/
def execWireBreak (s : State) : Host.Outcome State Fault Refusal :=
  commit (fun s => s) s

/-- DEBUG_ACCESS_DONE (R422). -/
def execDebugAccessDone (s : State) : Host.Outcome State Fault Refusal :=
  commit (wireStep debugComplete) s

/-- DBG_AUTH_REQUEST (R424). -/
def execDbgAuthRequest (level : BitVec 2) (s : State) : Host.Outcome State Fault Refusal :=
  commit (wireStep (wireWrite 0x044 (level.zeroExtend 32))) s

/-- DBG_RESPONSE_COMPARE (R424). -/
def execDbgResponseCompare (data : W32) (s : State) : Host.Outcome State Fault Refusal :=
  commit (wireStep (wireWrite 0x07C data)) s

/-- HALT_REQUEST (R426). -/
def execHaltRequest (s : State) : Host.Outcome State Fault Refusal :=
  commit (Sys2Proof.Machine.haltRequest) s

/-- HALT_COMPLETE (R427). -/
def execHaltComplete (elapsed : Nat) (s : State) : Host.Outcome State Fault Refusal :=
  commit (Sys2Proof.Machine.haltComplete elapsed) s

/-- RESUME (R431). -/
def execResume (long : Bool) (s : State) : Host.Outcome State Fault Refusal :=
  commit (wireStep (resumeHalt long)) s

/-- FEED_GO (R430). -/
def execFeedGo (s : State) : Host.Outcome State Fault Refusal :=
  commit (wireStep (wireWrite 0x09C 0x80000000)) s

/-- TXD_WRITE (R433). -/
def execTxdWrite (q : Requester) (data : W32) (s : State) : Host.Outcome State Fault Refusal :=
  commit (regCommand q pgDbg 0x0A0 data) s

/-- TX_ACK (R433). -/
def execTxAck (s : State) : Host.Outcome State Fault Refusal :=
  commit (wireWrite 0x0A8 0x100) s

/-- RXD_WRITE (R433). -/
def execRxdWrite (data : W32) (s : State) : Host.Outcome State Fault Refusal :=
  commit (wireWrite 0x0A4 data) s

/-- RX_ACK (R433). -/
def execRxAck (q : Requester) (s : State) : Host.Outcome State Fault Refusal :=
  commit (regCommand q pgDbg 0x0A8 0x200) s

/-- TRACE_READ (R434). -/
def execTraceRead (q : Requester) (s : State) : Host.Outcome State Fault Refusal :=
  commit (readCommand q pgDbg 0x0B0) s

/-- PMC_COUNTER_WRITE (R437): `page` counts the PMC_ pages. -/
def execPmcCounterWrite (q : Requester) (page : Nat) (k : Fin 8) (data : W32) (s : State) : Host.Outcome State Fault Refusal :=
  commit (fun s => if page < 38 then regCommand q (pgPmc page) (0x080 + 8 * k.val) data s else s.setAnswer .none) s

/-- PMC_SNAP (R438), the other fields as they stand. -/
def execPmcSnap (q : Requester) (s : State) : Host.Outcome State Fault Refusal :=
  commit (fun s => regCommand q (pgPmc 0) 0x040 ((s.reg (pgPmc 0) 0x040 &&& 0x31) ||| 2) s) s

/-- PMC_COUNTER_WRAP (R437). -/
def execPmcCounterWrap (page : Nat) (k : Fin 8) (s : State) : Host.Outcome State Fault Refusal :=
  commit (whenLive (pmcWrap page k.val)) s

/-- BW_WINDOW_END (R439). -/
def execBwWindowEnd (port : BwPort) (n : Fin 32) (s : State) : Host.Outcome State Fault Refusal :=
  commit (whenLive fun s => match bwMonitor port n.val with | some m => Sys2Proof.Machine.bwWindowEnd m s | none => s) s

end Sys2Proof.Machine
end

