-- ==== Sys2Proof/Machine/DeputyCmd.lean ====
section
/-!
DEFINITION. Sys2Proof/Machine/DeputyCmd.lean: the instructions and events of the Deputy pairs and the correlators' interval.
-/

namespace Sys2Proof.Machine

/-- DEP_NOP (R248). -/
def execDepNop (pair : Fin 24) (s : State) : Host.Outcome State Fault Refusal :=
  commit (depCompute pair.val 1 fun x => .ok x) s

/-- DEP_MOVI (R248). -/
def execDepMovi (pair : Fin 24) (d : Fin 8) (imm : Byte) (s : State) : Host.Outcome State Fault Refusal :=
  commit (depImm pair.val d.val fun _ => imm) s

/-- DEP_ADDI (R248). -/
def execDepAddi (pair : Fin 24) (d : Fin 8) (imm : Byte) (s : State) : Host.Outcome State Fault Refusal :=
  commit (depImm pair.val d.val fun g => g + imm) s

/-- DEP_ANDI (R248). -/
def execDepAndi (pair : Fin 24) (d : Fin 8) (imm : Byte) (s : State) : Host.Outcome State Fault Refusal :=
  commit (depImm pair.val d.val fun g => g &&& imm) s

/-- DEP_ORI (R248). -/
def execDepOri (pair : Fin 24) (d : Fin 8) (imm : Byte) (s : State) : Host.Outcome State Fault Refusal :=
  commit (depImm pair.val d.val fun g => g ||| imm) s

/-- DEP_XORI (R248). -/
def execDepXori (pair : Fin 24) (d : Fin 8) (imm : Byte) (s : State) : Host.Outcome State Fault Refusal :=
  commit (depImm pair.val d.val fun g => g ^^^ imm) s

/-- DEP_CEQI (R248). -/
def execDepCeqi (pair : Fin 24) (d : Fin 8) (imm : Byte) (s : State) : Host.Outcome State Fault Refusal :=
  commit (depImm pair.val d.val fun g => flag8 (g == imm)) s

/-- DEP_CLTUI (R248). -/
def execDepCltui (pair : Fin 24) (d : Fin 8) (imm : Byte) (s : State) : Host.Outcome State Fault Refusal :=
  commit (depImm pair.val d.val fun g => flag8 (g.ult imm)) s

/-- DEP_ALU_MOV (R249). -/
def execDepAluMov (pair : Fin 24) (d r : Fin 8) (s : State) : Host.Outcome State Fault Refusal :=
  commit (depAlu pair.val d.val r.val fun _ r => r) s

/-- DEP_ALU_ADD (R249). -/
def execDepAluAdd (pair : Fin 24) (d r : Fin 8) (s : State) : Host.Outcome State Fault Refusal :=
  commit (depAlu pair.val d.val r.val fun g r => g + r) s

/-- DEP_ALU_SUB (R249). -/
def execDepAluSub (pair : Fin 24) (d r : Fin 8) (s : State) : Host.Outcome State Fault Refusal :=
  commit (depAlu pair.val d.val r.val fun g r => g - r) s

/-- DEP_ALU_AND (R249). -/
def execDepAluAnd (pair : Fin 24) (d r : Fin 8) (s : State) : Host.Outcome State Fault Refusal :=
  commit (depAlu pair.val d.val r.val fun g r => g &&& r) s

/-- DEP_ALU_OR (R249). -/
def execDepAluOr (pair : Fin 24) (d r : Fin 8) (s : State) : Host.Outcome State Fault Refusal :=
  commit (depAlu pair.val d.val r.val fun g r => g ||| r) s

/-- DEP_ALU_XOR (R249). -/
def execDepAluXor (pair : Fin 24) (d r : Fin 8) (s : State) : Host.Outcome State Fault Refusal :=
  commit (depAlu pair.val d.val r.val fun g r => g ^^^ r) s

/-- DEP_ALU_SHL (R249). -/
def execDepAluShl (pair : Fin 24) (d r : Fin 8) (s : State) : Host.Outcome State Fault Refusal :=
  commit (depAlu pair.val d.val r.val fun _ r => r <<< 1) s

/-- DEP_ALU_SHR (R249). -/
def execDepAluShr (pair : Fin 24) (d r : Fin 8) (s : State) : Host.Outcome State Fault Refusal :=
  commit (depAlu pair.val d.val r.val fun _ r => r >>> 1) s

/-- DEP_ALU_SAR (R249). -/
def execDepAluSar (pair : Fin 24) (d r : Fin 8) (s : State) : Host.Outcome State Fault Refusal :=
  commit (depAlu pair.val d.val r.val fun _ r => r.sshiftRight 1) s

/-- DEP_ALU_CEQ (R249). -/
def execDepAluCeq (pair : Fin 24) (d r : Fin 8) (s : State) : Host.Outcome State Fault Refusal :=
  commit (depAlu pair.val d.val r.val fun g r => flag8 (g == r)) s

/-- DEP_ALU_CNE (R249). -/
def execDepAluCne (pair : Fin 24) (d r : Fin 8) (s : State) : Host.Outcome State Fault Refusal :=
  commit (depAlu pair.val d.val r.val fun g r => flag8 (g != r)) s

/-- DEP_ALU_CLTU (R249). -/
def execDepAluCltu (pair : Fin 24) (d r : Fin 8) (s : State) : Host.Outcome State Fault Refusal :=
  commit (depAlu pair.val d.val r.val fun g r => flag8 (g.ult r)) s

/-- DEP_ALU_CLT (R249). -/
def execDepAluClt (pair : Fin 24) (d r : Fin 8) (s : State) : Host.Outcome State Fault Refusal :=
  commit (depAlu pair.val d.val r.val fun g r => flag8 (g.slt r)) s

/-- DEP_ALU_CLEU (R249). -/
def execDepAluCleu (pair : Fin 24) (d r : Fin 8) (s : State) : Host.Outcome State Fault Refusal :=
  commit (depAlu pair.val d.val r.val fun g r => flag8 (g.ule r)) s

/-- DEP_ALU_CLE (R249). -/
def execDepAluCle (pair : Fin 24) (d r : Fin 8) (s : State) : Host.Outcome State Fault Refusal :=
  commit (depAlu pair.val d.val r.val fun g r => flag8 (g.sle r)) s

/-- DEP_ALU_NOT (R249). -/
def execDepAluNot (pair : Fin 24) (d r : Fin 8) (s : State) : Host.Outcome State Fault Refusal :=
  commit (depAlu pair.val d.val r.val fun _ r => ~~~r) s

/-- DEP_ALU_ADDW (R249), for Gd:Gd+1 and Gs:Gs+1. -/
def execDepAluAddw (pair : Fin 24) (d r : Fin 8) (s : State) : Host.Outcome State Fault Refusal :=
  commit (depAluPair pair.val d.val r.val fun g r => g + r) s

/-- DEP_ALU_SUBW (R249), for Gd:Gd+1 and Gs:Gs+1. -/
def execDepAluSubw (pair : Fin 24) (d r : Fin 8) (s : State) : Host.Outcome State Fault Refusal :=
  commit (depAluPair pair.val d.val r.val fun g r => g - r) s

/-- DEP_ALU_CEQW (R249), for Gd:Gd+1 and Gs:Gs+1. -/
def execDepAluCeqw (pair : Fin 24) (d r : Fin 8) (s : State) : Host.Outcome State Fault Refusal :=
  commit (depAluPair pair.val d.val r.val fun g r => if g = r then 1 else 0) s

/-- DEP_ALU_CLTUW (R249), for Gd:Gd+1 and Gs:Gs+1. -/
def execDepAluCltuw (pair : Fin 24) (d r : Fin 8) (s : State) : Host.Outcome State Fault Refusal :=
  commit (depAluPair pair.val d.val r.val fun g r => if g.ult r then 1 else 0) s

/-- DEP_ALU_MULU (R249). -/
def execDepAluMulu (pair : Fin 24) (d r : Fin 8) (s : State) : Host.Outcome State Fault Refusal :=
  commit (depCompute pair.val 1 fun x =>
    if d.val % 2 ≠ 0 then .error .illegal
    else .ok (x.setPair d.val (BitVec.ofNat 16 ((x.gReg d.val).toNat * (x.gReg r.val).toNat)))) s

/-- DEP_ALU_CARRY (R249). -/
def execDepAluCarry (pair : Fin 24) (d r : Fin 8) (s : State) : Host.Outcome State Fault Refusal :=
  commit (depAlu pair.val d.val r.val fun g r => flag8 (decide (256 ≤ g.toNat + r.toNat))) s

/-- DEP_LD (R248). -/
def execDepLd (pair : Fin 24) (d : Fin 8) (y : Fin 2) (u : BitVec 7) (s : State) : Host.Outcome State Fault Refusal :=
  commit (depInstr pair.val 1 fun x => depByteIn d.val (depOffset x y.val u.toNat) x) s

/-- DEP_ST (R248). -/
def execDepSt (pair : Fin 24) (d : Fin 8) (y : Fin 2) (u : BitVec 7) (s : State) : Host.Outcome State Fault Refusal :=
  commit (depInstr pair.val 1 fun x => .store (depOffset x y.val u.toNat) [x.gReg d.val] x) s

/-- DEP_LDP (R248), with post-modify of Yn. -/
def execDepLdp (pair : Fin 24) (d : Fin 8) (y : Fin 2) (u : BitVec 7) (s : State) : Host.Outcome State Fault Refusal :=
  commit (depInstr pair.val 1 fun x => depByteIn d.val (x.yReg y.val).toNat (depStep x y.val u)) s

/-- DEP_STP (R248), with post-modify of Yn. -/
def execDepStp (pair : Fin 24) (d : Fin 8) (y : Fin 2) (u : BitVec 7) (s : State) : Host.Outcome State Fault Refusal :=
  commit (depInstr pair.val 1 fun x => .store (x.yReg y.val).toNat [x.gReg d.val] (depStep x y.val u)) s

/-- DEP_LDQ (R248) of Qq, q = D. -/
def execDepLdq (pair : Fin 24) (d : Fin 8) (y : Fin 2) (u : BitVec 7) (s : State) : Host.Outcome State Fault Refusal :=
  commit (depInstr pair.val 1 fun x =>
    if 2 ≤ d.val then .ends (.error .illegal)
    else .load (depOffset x y.val (4 * u.toNat)) 4 fun bs => depSetQuad x d.val bs) s

/-- DEP_STQ (R248) of Qq, q = D. -/
def execDepStq (pair : Fin 24) (d : Fin 8) (y : Fin 2) (u : BitVec 7) (s : State) : Host.Outcome State Fault Refusal :=
  commit (depInstr pair.val 1 fun x =>
    if 2 ≤ d.val then .ends (.error .illegal)
    else .store (depOffset x y.val (4 * u.toNat)) (depQuad x d.val) x) s

/-- DEP_LDY (R248). -/
def execDepLdy (pair : Fin 24) (y : Fin 2) (imm : BitVec 16) (s : State) : Host.Outcome State Fault Refusal :=
  commit (depCompute pair.val 2 fun x => .ok (x.setY y.val imm)) s

/-- DEP_YADDI (R248). -/
def execDepYaddi (pair : Fin 24) (y : Fin 2) (imm : Byte) (s : State) : Host.Outcome State Fault Refusal :=
  commit (depCompute pair.val 1 fun x => .ok (x.setY y.val (x.yReg y.val + wrap 16 (sgn 8 imm.toNat)))) s

/-- DEP_MOVYG (R248). -/
def execDepMovyg (pair : Fin 24) (y : Fin 2) (d : Fin 8) (s : State) : Host.Outcome State Fault Refusal :=
  commit (depCompute pair.val 1 fun x => if d.val % 2 ≠ 0 then .error .illegal else .ok (x.setPair d.val (x.yReg y.val))) s

/-- DEP_MOVGY (R248). -/
def execDepMovgy (pair : Fin 24) (y : Fin 2) (d : Fin 8) (s : State) : Host.Outcome State Fault Refusal :=
  commit (depCompute pair.val 1 fun x => if d.val % 2 ≠ 0 then .error .illegal else .ok (x.setY y.val (x.pairReg d.val))) s

/-- DEP_BZ (R248). -/
def execDepBz (pair : Fin 24) (d : Fin 8) (disp : Byte) (s : State) : Host.Outcome State Fault Refusal :=
  commit (depCompute pair.val 1 fun x => .ok (depBranch (x.gReg d.val == 0) disp x)) s

/-- DEP_BNZ (R248). -/
def execDepBnz (pair : Fin 24) (d : Fin 8) (disp : Byte) (s : State) : Host.Outcome State Fault Refusal :=
  commit (depCompute pair.val 1 fun x => .ok (depBranch (x.gReg d.val != 0) disp x)) s

/-- DEP_JMP (R248). -/
def execDepJmp (pair : Fin 24) (target : BitVec 16) (s : State) : Host.Outcome State Fault Refusal :=
  commit (depCompute pair.val 2 fun x => .ok { x with pc := target }) s

/-- DEP_CALL (R248). -/
def execDepCall (pair : Fin 24) (target : BitVec 16) (s : State) : Host.Outcome State Fault Refusal :=
  commit (depCompute pair.val 2 fun x => depPush x x.pc target) s

/-- DEP_RET (R248). -/
def execDepRet (pair : Fin 24) (s : State) : Host.Outcome State Fault Refusal :=
  commit (depCompute pair.val 1 depPop) s

/-- DEP_RETI (R248). -/
def execDepReti (pair : Fin 24) (s : State) : Host.Outcome State Fault Refusal :=
  commit (depCompute pair.val 1 fun x => (depPop x).map fun v => { v with ie := true }) s

/-- DEP_SETIE (R248). -/
def execDepSetie (pair : Fin 24) (on : Bool) (s : State) : Host.Outcome State Fault Refusal :=
  commit (depCompute pair.val 1 fun x => .ok { x with ie := on }) s

/-- DEP_WAITE (R248). -/
def execDepWaite (pair : Fin 24) (s : State) : Host.Outcome State Fault Refusal :=
  commit (fun s => depCompute pair.val 1 (fun x => .ok { x with waiting := !depIrq pair.val s }) s) s

/-- DEP_WAITE_RESUME (R248). -/
def execDepWaiteResume (pair : Fin 24) (s : State) : Host.Outcome State Fault Refusal :=
  commit (depWake pair.val) s

/-- DEP_INTERRUPT_ACCEPT (R250). -/
def execDepInterruptAccept (pair : Fin 24) (s : State) : Host.Outcome State Fault Refusal :=
  commit (depAccept pair.val) s

/-- DEP_ILLEGAL (R248). -/
def execDepIllegal (pair : Fin 24) (s : State) : Host.Outcome State Fault Refusal :=
  commit (depCompute pair.val 1 fun _ => .error .illegal) s

/-- DEP_LOCKSTEP_MISMATCH (R252). -/
def execDepLockstepMismatch (pair : Fin 24) (s : State) : Host.Outcome State Fault Refusal :=
  commit (fun s => if live s then depMismatch pair.val s else s) s

/-- DEP_RESTART_RELEASE (R252). -/
def execDepRestartRelease (pair : Fin 24) (s : State) : Host.Outcome State Fault Refusal :=
  commit (fun s => if live s then depRelease pair.val s else s) s

/-- DEP_HEARTBEAT_TIMEOUT (R255). -/
def execDepHeartbeatTimeout (pair : Fin 24) (s : State) : Host.Outcome State Fault Refusal :=
  commit (fun s => if live s && depOn pair.val s then depHeartbeat pair.val s else s) s

/-- INTERVAL_DONE (R241). -/
def execIntervalDone (pair : Fin 24) (s : State) : Host.Outcome State Fault Refusal :=
  commit (fun s => if live s then recordsWrite pair.val s else s) s

/-- CONTACT_SAMPLE (R257). -/
def execContactSample (pair : Fin 24) (levels : BitVec 4) (s : State) : Host.Outcome State Fault Refusal :=
  commit (fun s => if live s then Sys2Proof.Machine.contactSample pair.val levels s else s) s

end Sys2Proof.Machine
end

