-- ==== Sys2Proof/Machine/EnergyCmd.lean ====
section
/-!
DEFINITION. Sys2Proof/Machine/EnergyCmd.lean: the Lamp room, device states, operating points, surveys and wear.
-/

namespace Sys2Proof.Machine

/-- A period of the Lamp room's own timer, while the shift timer does not run (R375); a power-on reset holds it. -/
def ownPeriod (use : List DomainUse) (s : State) : State :=
  if (s.ons.runs && !halted s) || (decide (s.life.phase = .asserted) && bit s.life.causes 0) then s else lampPeriod use s

/-- An hour of operation is full (R393). -/
def hourPassed (s : State) : State := if s.nrg.hourShifts < hourOfShifts then s else opHour s

/-- LAMP_ROOM_PERIOD (R375). -/
def execLampRoomPeriod (use : List DomainUse) (s : State) : Host.Outcome State Fault Refusal :=
  commit (ownPeriod use) s

/-- PMON_READ (R379). -/
def execPmonRead (value : Option Nat) (s : State) : Host.Outcome State Fault Refusal :=
  commit (whenLive (Sys2Proof.Machine.pmonRead value)) s

/-- LRM_STATE_WRITE (R384). -/
def execLrmStateWrite (q : Requester) (data : W32) (s : State) : Host.Outcome State Fault Refusal :=
  commit (regCommand q pgLrm 0x040 data) s

/-- WAKE_PIN (R387). -/
def execWakePin (s : State) : Host.Outcome State Fault Refusal :=
  commit (fun s => if bit (s.reg pgLrm 0x088) 31 then wake s else s) s

/-- WAKE_TIMER (R387). -/
def execWakeTimer (s : State) : Host.Outcome State Fault Refusal :=
  commit (fun s => if fld (s.reg pgLrm 0x088) 0 16 = 0 then s else wake s) s

/-- CRG_FREQ_WRITE (R388). -/
def execCrgFreqWrite (q : Requester) (island : Fin 48) (data : W32) (s : State) : Host.Outcome State Fault Refusal :=
  commit (regCommand q (pgCrg island.val) 0x040 data) s

/-- SURVEY_GO (R391), AUTO as it stands. -/
def execSurveyGo (q : Requester) (island : Fin 48) (s : State) : Host.Outcome State Fault Refusal :=
  commit (fun s => regCommand q (pgCrg island.val) 0x048 ((s.reg (pgCrg island.val) 0x048 &&& 2) ||| 1) s) s

/-- SURVEY_DONE (R391). -/
def execSurveyDone (island : Fin 48) (gauges : List Int) (s : State) : Host.Outcome State Fault Refusal :=
  commit (whenLive (surveyFinish island.val gauges)) s

/-- OPHOURS_TICK (R393). -/
def execOphoursTick (s : State) : Host.Outcome State Fault Refusal :=
  commit (hourPassed) s

/-- LRM_WEAR_WRITE (R392). -/
def execLrmWearWrite (q : Requester) (island : Fin 48) (data : W32) (s : State) : Host.Outcome State Fault Refusal :=
  commit (regCommand q pgLrm (0x600 + 4 * island.val) data) s

end Sys2Proof.Machine
end

