-- ==== Sys2Proof/Machine/HewerAlu.lean ====
section
/-!
DEFINITION. Sys2Proof/Machine/HewerAlu.lean: the commands of slot A, NOP and XOPs included.
-/

namespace Sys2Proof.Machine

/-- NOP (R98): in slot A, or in slot C. -/
def execNop (i : Issue) (inC : Bool) (f : BitVec 22) (s : State) : Host.Outcome State Fault Refusal :=
  commit (issueSyl i (if inC then 3 else 1) 0x00 f.toNat) s

/-- ADD (R116). -/
def execAdd (i : Issue) (f : FDdd) (s : State) : Host.Outcome State Fault Refusal :=
  commit (issueSyl i 1 0x01 (packDdd f)) s

/-- SUB (R116). -/
def execSub (i : Issue) (f : FDdd) (s : State) : Host.Outcome State Fault Refusal :=
  commit (issueSyl i 1 0x02 (packDdd f)) s

/-- ADDS (R116). -/
def execAdds (i : Issue) (f : FDdd) (s : State) : Host.Outcome State Fault Refusal :=
  commit (issueSyl i 1 0x03 (packDdd f)) s

/-- SUBS (R116). -/
def execSubs (i : Issue) (f : FDdd) (s : State) : Host.Outcome State Fault Refusal :=
  commit (issueSyl i 1 0x04 (packDdd f)) s

/-- NEG (R116). -/
def execNeg (i : Issue) (f : FDdd) (s : State) : Host.Outcome State Fault Refusal :=
  commit (issueSyl i 1 0x05 (packDdd f)) s

/-- ABS (R116). -/
def execAbs (i : Issue) (f : FDdd) (s : State) : Host.Outcome State Fault Refusal :=
  commit (issueSyl i 1 0x06 (packDdd f)) s

/-- AND (R116). -/
def execAnd (i : Issue) (f : FDdd) (s : State) : Host.Outcome State Fault Refusal :=
  commit (issueSyl i 1 0x07 (packDdd f)) s

/-- OR (R116). -/
def execOr (i : Issue) (f : FDdd) (s : State) : Host.Outcome State Fault Refusal :=
  commit (issueSyl i 1 0x08 (packDdd f)) s

/-- XOR (R116). -/
def execXor (i : Issue) (f : FDdd) (s : State) : Host.Outcome State Fault Refusal :=
  commit (issueSyl i 1 0x09 (packDdd f)) s

/-- MIN (R116). -/
def execMin (i : Issue) (f : FDdd) (s : State) : Host.Outcome State Fault Refusal :=
  commit (issueSyl i 1 0x0A (packDdd f)) s

/-- MAX (R116). -/
def execMax (i : Issue) (f : FDdd) (s : State) : Host.Outcome State Fault Refusal :=
  commit (issueSyl i 1 0x0B (packDdd f)) s

/-- ADDI (R116). -/
def execAddi (i : Issue) (f : FDdi) (s : State) : Host.Outcome State Fault Refusal :=
  commit (issueSyl i 1 0x11 (packDdi f)) s

/-- ANDI (R116). -/
def execAndi (i : Issue) (f : FDdi) (s : State) : Host.Outcome State Fault Refusal :=
  commit (issueSyl i 1 0x12 (packDdi f)) s

/-- ORI (R116). -/
def execOri (i : Issue) (f : FDdi) (s : State) : Host.Outcome State Fault Refusal :=
  commit (issueSyl i 1 0x13 (packDdi f)) s

/-- XORI (R116). -/
def execXori (i : Issue) (f : FDdi) (s : State) : Host.Outcome State Fault Refusal :=
  commit (issueSyl i 1 0x14 (packDdi f)) s

/-- AADD (R116). -/
def execAadd (i : Issue) (f : FDdd) (s : State) : Host.Outcome State Fault Refusal :=
  commit (issueSyl i 1 0x30 (packDdd f)) s

/-- ASUB (R116). -/
def execAsub (i : Issue) (f : FDdd) (s : State) : Host.Outcome State Fault Refusal :=
  commit (issueSyl i 1 0x31 (packDdd f)) s

/-- AADDI (R116). -/
def execAaddi (i : Issue) (f : FDdi) (s : State) : Host.Outcome State Fault Refusal :=
  commit (issueSyl i 1 0x32 (packDdi f)) s

/-- ACIRC (R116). -/
def execAcirc (i : Issue) (f : FDdi) (s : State) : Host.Outcome State Fault Refusal :=
  commit (issueSyl i 1 0x33 (packDdi f)) s

/-- AMOVI (R116). -/
def execAmovi (i : Issue) (f : FDdi) (s : State) : Host.Outcome State Fault Refusal :=
  commit (issueSyl i 1 0x34 (packDdi f)) s

/-- CEQ (R117). -/
def execCeq (i : Issue) (f : FDdd) (s : State) : Host.Outcome State Fault Refusal :=
  commit (issueSyl i 1 0x40 (packDdd f)) s

/-- CNE (R117). -/
def execCne (i : Issue) (f : FDdd) (s : State) : Host.Outcome State Fault Refusal :=
  commit (issueSyl i 1 0x41 (packDdd f)) s

/-- CLT (R117). -/
def execClt (i : Issue) (f : FDdd) (s : State) : Host.Outcome State Fault Refusal :=
  commit (issueSyl i 1 0x42 (packDdd f)) s

/-- CLE (R117). -/
def execCle (i : Issue) (f : FDdd) (s : State) : Host.Outcome State Fault Refusal :=
  commit (issueSyl i 1 0x43 (packDdd f)) s

/-- CLTU (R117). -/
def execCltu (i : Issue) (f : FDdd) (s : State) : Host.Outcome State Fault Refusal :=
  commit (issueSyl i 1 0x44 (packDdd f)) s

/-- CLEU (R117). -/
def execCleu (i : Issue) (f : FDdd) (s : State) : Host.Outcome State Fault Refusal :=
  commit (issueSyl i 1 0x45 (packDdd f)) s

/-- CEQI (R117). -/
def execCeqi (i : Issue) (f : FDdi) (s : State) : Host.Outcome State Fault Refusal :=
  commit (issueSyl i 1 0x48 (packDdi f)) s

/-- CLTI (R117). -/
def execClti (i : Issue) (f : FDdi) (s : State) : Host.Outcome State Fault Refusal :=
  commit (issueSyl i 1 0x49 (packDdi f)) s

/-- CGTI (R117). -/
def execCgti (i : Issue) (f : FDdi) (s : State) : Host.Outcome State Fault Refusal :=
  commit (issueSyl i 1 0x4A (packDdi f)) s

/-- SHL (R118). -/
def execShl (i : Issue) (f : FDdd) (s : State) : Host.Outcome State Fault Refusal :=
  commit (issueSyl i 1 0x50 (packDdd f)) s

/-- SHRA (R118). -/
def execShra (i : Issue) (f : FDdd) (s : State) : Host.Outcome State Fault Refusal :=
  commit (issueSyl i 1 0x51 (packDdd f)) s

/-- SHRL (R118). -/
def execShrl (i : Issue) (f : FDdd) (s : State) : Host.Outcome State Fault Refusal :=
  commit (issueSyl i 1 0x52 (packDdd f)) s

/-- SHLI (R118). -/
def execShli (i : Issue) (f : FDdi) (s : State) : Host.Outcome State Fault Refusal :=
  commit (issueSyl i 1 0x53 (packDdi f)) s

/-- SHRAI (R118). -/
def execShrai (i : Issue) (f : FDdi) (s : State) : Host.Outcome State Fault Refusal :=
  commit (issueSyl i 1 0x54 (packDdi f)) s

/-- SHRLI (R118). -/
def execShrli (i : Issue) (f : FDdi) (s : State) : Host.Outcome State Fault Refusal :=
  commit (issueSyl i 1 0x55 (packDdi f)) s

/-- BFEXT (R118). -/
def execBfext (i : Issue) (f : FDdi) (s : State) : Host.Outcome State Fault Refusal :=
  commit (issueSyl i 1 0x56 (packDdi f)) s

/-- BFEXTS (R118). -/
def execBfexts (i : Issue) (f : FDdi) (s : State) : Host.Outcome State Fault Refusal :=
  commit (issueSyl i 1 0x57 (packDdi f)) s

/-- BFINS (R118). -/
def execBfins (i : Issue) (f : FDdi) (s : State) : Host.Outcome State Fault Refusal :=
  commit (issueSyl i 1 0x58 (packDdi f)) s

/-- BFEXTR (R118). -/
def execBfextr (i : Issue) (f : FDdd) (s : State) : Host.Outcome State Fault Refusal :=
  commit (issueSyl i 1 0x59 (packDdd f)) s

/-- BFINSR (R118). -/
def execBfinsr (i : Issue) (f : FDdd) (s : State) : Host.Outcome State Fault Refusal :=
  commit (issueSyl i 1 0x5A (packDdd f)) s

/-- CLZ (R118). -/
def execClz (i : Issue) (f : FDdd) (s : State) : Host.Outcome State Fault Refusal :=
  commit (issueSyl i 1 0x5B (packDdd f)) s

/-- CLS (R118). -/
def execCls (i : Issue) (f : FDdd) (s : State) : Host.Outcome State Fault Refusal :=
  commit (issueSyl i 1 0x5C (packDdd f)) s

/-- BPERM (R119). -/
def execBperm (i : Issue) (f : FDdd) (s : State) : Host.Outcome State Fault Refusal :=
  commit (issueSyl i 1 0x5D (packDdd f)) s

/-- BPERMI (R119). -/
def execBpermi (i : Issue) (f : FDdi) (s : State) : Host.Outcome State Fault Refusal :=
  commit (issueSyl i 1 0x5E (packDdi f)) s

/-- SCLAMP (R118). -/
def execSclamp (i : Issue) (f : FDdd) (s : State) : Host.Outcome State Fault Refusal :=
  commit (issueSyl i 1 0x5F (packDdd f)) s

/-- MOVI (R120). -/
def execMovi (i : Issue) (f : FDdi) (s : State) : Host.Outcome State Fault Refusal :=
  commit (issueSyl i 1 0x60 (packDdi f)) s

/-- MOVIU (R120). -/
def execMoviu (i : Issue) (f : FDdi) (s : State) : Host.Outcome State Fault Refusal :=
  commit (issueSyl i 1 0x61 (packDdi f)) s

/-- MOV (R120). -/
def execMov (i : Issue) (f : FDdd) (s : State) : Host.Outcome State Fault Refusal :=
  commit (issueSyl i 1 0x62 (packDdd f)) s

/-- MOVAD (R120). -/
def execMovad (i : Issue) (f : FDdd) (s : State) : Host.Outcome State Fault Refusal :=
  commit (issueSyl i 1 0x63 (packDdd f)) s

/-- MOVDA (R120). -/
def execMovda (i : Issue) (f : FDdd) (s : State) : Host.Outcome State Fault Refusal :=
  commit (issueSyl i 1 0x64 (packDdd f)) s

/-- MFS (R120). -/
def execMfs (i : Issue) (f : FDdd) (s : State) : Host.Outcome State Fault Refusal :=
  commit (issueSyl i 1 0x65 (packDdd f)) s

/-- MTS (R120). -/
def execMts (i : Issue) (f : FDdd) (s : State) : Host.Outcome State Fault Refusal :=
  commit (issueSyl i 1 0x66 (packDdd f)) s

/-- PTST (R96). -/
def execPtst (i : Issue) (f : FDdd) (s : State) : Host.Outcome State Fault Refusal :=
  commit (issueSyl i 1 0x6E (packDdd f)) s

/-- XOP (R141): XOP k is opcode 0x70 + k. -/
def execXop (i : Issue) (k : BitVec 4) (f : FDdd) (s : State) : Host.Outcome State Fault Refusal :=
  commit (issueSyl i 1 (0x70 + k.toNat) (packDdd f)) s

end Sys2Proof.Machine
end

