-- ==== Sys2Proof/Machine/HewerCtl.lean ====
section
/-!
DEFINITION. Sys2Proof/Machine/HewerCtl.lean: the commands of slot C: branches, repeats, block instructions and the system operations; and illegal opcodes.
-/

namespace Sys2Proof.Machine

/-- BZ (R124). -/
def execBz (i : Issue) (f : FBr) (s : State) : Host.Outcome State Fault Refusal :=
  commit (issueSyl i 3 0x01 (packBr f)) s

/-- BNZ (R124). -/
def execBnz (i : Issue) (f : FBr) (s : State) : Host.Outcome State Fault Refusal :=
  commit (issueSyl i 3 0x02 (packBr f)) s

/-- BRA (R124). -/
def execBra (i : Issue) (f : FBr) (s : State) : Host.Outcome State Fault Refusal :=
  commit (issueSyl i 3 0x03 (packBr f)) s

/-- CALL (R124). -/
def execCall (i : Issue) (f : FBr) (s : State) : Host.Outcome State Fault Refusal :=
  commit (issueSyl i 3 0x04 (packBr f)) s

/-- JMP (R124). -/
def execJmp (i : Issue) (f : BitVec 22) (s : State) : Host.Outcome State Fault Refusal :=
  commit (issueSyl i 3 0x05 f.toNat) s

/-- CALLR (R124). -/
def execCallr (i : Issue) (f : BitVec 22) (s : State) : Host.Outcome State Fault Refusal :=
  commit (issueSyl i 3 0x06 f.toNat) s

/-- TDONE (R125). -/
def execTdone (i : Issue) (f : BitVec 22) (s : State) : Host.Outcome State Fault Refusal :=
  commit (issueSyl i 3 0x30 f.toNat) s

/-- RETX (R161). -/
def execRetx (i : Issue) (f : BitVec 22) (s : State) : Host.Outcome State Fault Refusal :=
  commit (issueSyl i 3 0x31 f.toNat) s

/-- IFLUSH (R153). -/
def execIflush (i : Issue) (f : BitVec 22) (s : State) : Host.Outcome State Fault Refusal :=
  commit (issueSyl i 3 0x32 f.toNat) s

/-- CHECK (R260). -/
def execCheck (i : Issue) (f : BitVec 22) (s : State) : Host.Outcome State Fault Refusal :=
  commit (issueSyl i 3 0x33 f.toNat) s

/-- AGREE (R138). -/
def execAgree (i : Issue) (f : BitVec 22) (s : State) : Host.Outcome State Fault Refusal :=
  commit (issueSyl i 3 0x34 f.toNat) s

/-- LOCK (R134). -/
def execLock (i : Issue) (f : BitVec 22) (s : State) : Host.Outcome State Fault Refusal :=
  commit (issueSyl i 3 0x35 f.toNat) s

/-- UNLOCK (R134). -/
def execUnlock (i : Issue) (f : BitVec 22) (s : State) : Host.Outcome State Fault Refusal :=
  commit (issueSyl i 3 0x36 f.toNat) s

/-- TRAP (R125). -/
def execTrap (i : Issue) (f : BitVec 22) (s : State) : Host.Outcome State Fault Refusal :=
  commit (issueSyl i 3 0x37 f.toNat) s

/-- WAIT (R125). -/
def execWait (i : Issue) (f : BitVec 22) (s : State) : Host.Outcome State Fault Refusal :=
  commit (issueSyl i 3 0x38 f.toNat) s

/-- REP (R126). -/
def execRep (i : Issue) (f : BitVec 22) (s : State) : Host.Outcome State Fault Refusal :=
  commit (issueSyl i 3 0x10 f.toNat) s

/-- REPI (R127). -/
def execRepi (i : Issue) (f : BitVec 22) (s : State) : Host.Outcome State Fault Refusal :=
  commit (issueSyl i 3 0x11 f.toNat) s

/-- REPIR (R127). -/
def execRepir (i : Issue) (f : BitVec 22) (s : State) : Host.Outcome State Fault Refusal :=
  commit (issueSyl i 3 0x12 f.toNat) s

/-- BMOV (R131). -/
def execBmov (i : Issue) (f : BitVec 22) (s : State) : Host.Outcome State Fault Refusal :=
  commit (issueSyl i 3 0x20 f.toNat) s

/-- BFILL (R131). -/
def execBfill (i : Issue) (f : BitVec 22) (s : State) : Host.Outcome State Fault Refusal :=
  commit (issueSyl i 3 0x21 f.toNat) s

/-- BSCAN (R131). -/
def execBscan (i : Issue) (f : BitVec 22) (s : State) : Host.Outcome State Fault Refusal :=
  commit (issueSyl i 3 0x22 f.toNat) s

/-- BXFORM (R131). -/
def execBxform (i : Issue) (f : BitVec 22) (s : State) : Host.Outcome State Fault Refusal :=
  commit (issueSyl i 3 0x23 f.toNat) s

/-- ILLEGAL_OPCODE (R98, R110): a syllable whose opcode the catalogue does not assign. -/
def execIllegalOpcode (i : Issue) (slot : BitVec 2) (opc : BitVec 7) (f : BitVec 22) (s : State) : Host.Outcome State Fault Refusal :=
  commit (issueSyl i slot.toNat opc.toNat f.toNat) s

end Sys2Proof.Machine
end

