-- ==== Sys2Proof/Machine/HewerHold.lean ====
section
/-!
DEFINITION. Sys2Proof/Machine/HewerHold.lean: what ends the holds of a Hewer or Overman thread, and its interrupts.
-/

namespace Sys2Proof.Machine

/-- INTERRUPT_ACCEPT (R154). -/
def execInterruptAccept (h : Hart) (s : State) : Host.Outcome State Fault Refusal :=
  commit (Sys2Proof.Machine.interruptAccept h) s

/-- WAIT_RESUME (R125). -/
def execWaitResume (h : Hart) (s : State) : Host.Outcome State Fault Refusal :=
  commit (Sys2Proof.Machine.waitResume h) s

/-- LINE_FILL (R151). -/
def execLineFill (h : Hart) (s : State) : Host.Outcome State Fault Refusal :=
  commit (Sys2Proof.Machine.lineFill h) s

/-- ACCESS_RESPONSE (R148). -/
def execAccessResponse (h : Hart) (s : State) : Host.Outcome State Fault Refusal :=
  commit (Sys2Proof.Machine.accessResponse h) s

/-- STORE_BUFFER_PERFORM (R149). -/
def execStoreBufferPerform (core : Fin 32) (s : State) : Host.Outcome State Fault Refusal :=
  commit (Sys2Proof.Machine.storeBufferPerform core.val) s

/-- MM_LOG_READ (R186). -/
def execMmLogRead (q : Requester) (hewer : Fin 32) (s : State) : Host.Outcome State Fault Refusal :=
  commit (readCommand q (pgHwr hewer.val) 0x074) s

end Sys2Proof.Machine
end

