-- ==== Sys2Proof/Machine/HewerMac.lean ====
section
/-!
DEFINITION. Sys2Proof/Machine/HewerMac.lean: the commands of slot X: products, accumulators and vectors.
-/

namespace Sys2Proof.Machine

/-- MUL (R121). -/
def execMul (i : Issue) (f : FMul) (s : State) : Host.Outcome State Fault Refusal :=
  commit (issueSyl i 2 0x01 (packMul f)) s

/-- MAC (R121). -/
def execMac (i : Issue) (f : FMul) (s : State) : Host.Outcome State Fault Refusal :=
  commit (issueSyl i 2 0x02 (packMul f)) s

/-- MSU (R121). -/
def execMsu (i : Issue) (f : FMul) (s : State) : Host.Outcome State Fault Refusal :=
  commit (issueSyl i 2 0x03 (packMul f)) s

/-- MACP (R121). -/
def execMacp (i : Issue) (f : FMul) (s : State) : Host.Outcome State Fault Refusal :=
  commit (issueSyl i 2 0x04 (packMul f)) s

/-- MOVPX (R121). -/
def execMovpx (i : Issue) (f : FMul) (s : State) : Host.Outcome State Fault Refusal :=
  commit (issueSyl i 2 0x05 (packMul f)) s

/-- XCLR (R121). -/
def execXclr (i : Issue) (f : FMul) (s : State) : Host.Outcome State Fault Refusal :=
  commit (issueSyl i 2 0x40 (packMul f)) s

/-- XADD (R121). -/
def execXadd (i : Issue) (f : FMul) (s : State) : Host.Outcome State Fault Refusal :=
  commit (issueSyl i 2 0x41 (packMul f)) s

/-- XSHA (R121). -/
def execXsha (i : Issue) (f : FMul) (s : State) : Host.Outcome State Fault Refusal :=
  commit (issueSyl i 2 0x42 (packMul f)) s

/-- XMOVD (R121). -/
def execXmovd (i : Issue) (f : FMul) (s : State) : Host.Outcome State Fault Refusal :=
  commit (issueSyl i 2 0x43 (packMul f)) s

/-- XTR (R122). -/
def execXtr (i : Issue) (f : FDdd) (s : State) : Host.Outcome State Fault Refusal :=
  commit (issueSyl i 2 0x48 (packDdd f)) s

/-- XTRV (R122). -/
def execXtrv (i : Issue) (f : FVec) (s : State) : Host.Outcome State Fault Refusal :=
  commit (issueSyl i 2 0x49 (packVec f)) s

/-- VMUL (R123). -/
def execVmul (i : Issue) (f : FVec) (s : State) : Host.Outcome State Fault Refusal :=
  commit (issueSyl i 2 0x20 (packVec f)) s

/-- VMAC (R123). -/
def execVmac (i : Issue) (f : FVec) (s : State) : Host.Outcome State Fault Refusal :=
  commit (issueSyl i 2 0x21 (packVec f)) s

/-- VMSU (R123). -/
def execVmsu (i : Issue) (f : FVec) (s : State) : Host.Outcome State Fault Refusal :=
  commit (issueSyl i 2 0x22 (packVec f)) s

/-- VMACS (R123). -/
def execVmacs (i : Issue) (f : FVec) (s : State) : Host.Outcome State Fault Refusal :=
  commit (issueSyl i 2 0x23 (packVec f)) s

/-- VMSUS (R123). -/
def execVmsus (i : Issue) (f : FVec) (s : State) : Host.Outcome State Fault Refusal :=
  commit (issueSyl i 2 0x24 (packVec f)) s

end Sys2Proof.Machine
end

