-- ==== Sys2Proof/Machine/HewerMem.lean ====
section
/-!
DEFINITION. Sys2Proof/Machine/HewerMem.lean: the commands of slot M: loads, stores, locked and exchange accesses.
-/

namespace Sys2Proof.Machine

/-- LDB (R111). -/
def execLdb (i : Issue) (f : FMem) (s : State) : Host.Outcome State Fault Refusal :=
  commit (issueSyl i 0 0x00 (packMem f)) s

/-- LDBU (R111). -/
def execLdbu (i : Issue) (f : FMem) (s : State) : Host.Outcome State Fault Refusal :=
  commit (issueSyl i 0 0x01 (packMem f)) s

/-- LDH (R111). -/
def execLdh (i : Issue) (f : FMem) (s : State) : Host.Outcome State Fault Refusal :=
  commit (issueSyl i 0 0x02 (packMem f)) s

/-- LDHU (R111). -/
def execLdhu (i : Issue) (f : FMem) (s : State) : Host.Outcome State Fault Refusal :=
  commit (issueSyl i 0 0x03 (packMem f)) s

/-- LDS (R111). -/
def execLds (i : Issue) (f : FMem) (s : State) : Host.Outcome State Fault Refusal :=
  commit (issueSyl i 0 0x04 (packMem f)) s

/-- LDC (R111). -/
def execLdc (i : Issue) (f : FMem) (s : State) : Host.Outcome State Fault Refusal :=
  commit (issueSyl i 0 0x05 (packMem f)) s

/-- LDA (R111). -/
def execLda (i : Issue) (f : FMem) (s : State) : Host.Outcome State Fault Refusal :=
  commit (issueSyl i 0 0x08 (packMem f)) s

/-- LDX (R111). -/
def execLdx (i : Issue) (f : FMem) (s : State) : Host.Outcome State Fault Refusal :=
  commit (issueSyl i 0 0x0C (packMem f)) s

/-- STB (R111). -/
def execStb (i : Issue) (f : FMem) (s : State) : Host.Outcome State Fault Refusal :=
  commit (issueSyl i 0 0x20 (packMem f)) s

/-- STH (R111). -/
def execSth (i : Issue) (f : FMem) (s : State) : Host.Outcome State Fault Refusal :=
  commit (issueSyl i 0 0x22 (packMem f)) s

/-- STS (R111). -/
def execSts (i : Issue) (f : FMem) (s : State) : Host.Outcome State Fault Refusal :=
  commit (issueSyl i 0 0x24 (packMem f)) s

/-- STC (R111). -/
def execStc (i : Issue) (f : FMem) (s : State) : Host.Outcome State Fault Refusal :=
  commit (issueSyl i 0 0x25 (packMem f)) s

/-- STA (R111). -/
def execSta (i : Issue) (f : FMem) (s : State) : Host.Outcome State Fault Refusal :=
  commit (issueSyl i 0 0x28 (packMem f)) s

/-- STX (R111). -/
def execStx (i : Issue) (f : FMem) (s : State) : Host.Outcome State Fault Refusal :=
  commit (issueSyl i 0 0x2C (packMem f)) s

/-- VLDS (R113). -/
def execVlds (i : Issue) (f : FMem) (s : State) : Host.Outcome State Fault Refusal :=
  commit (issueSyl i 0 0x40 (packMem f)) s

/-- VLDC (R113). -/
def execVldc (i : Issue) (f : FMem) (s : State) : Host.Outcome State Fault Refusal :=
  commit (issueSyl i 0 0x41 (packMem f)) s

/-- VSTS (R113). -/
def execVsts (i : Issue) (f : FMem) (s : State) : Host.Outcome State Fault Refusal :=
  commit (issueSyl i 0 0x44 (packMem f)) s

/-- VSTC (R113). -/
def execVstc (i : Issue) (f : FMem) (s : State) : Host.Outcome State Fault Refusal :=
  commit (issueSyl i 0 0x45 (packMem f)) s

/-- LDR (R114). -/
def execLdr (i : Issue) (f : FMem) (s : State) : Host.Outcome State Fault Refusal :=
  commit (issueSyl i 0 0x50 (packMem f)) s

/-- STR (R114). -/
def execStr (i : Issue) (f : FMem) (s : State) : Host.Outcome State Fault Refusal :=
  commit (issueSyl i 0 0x51 (packMem f)) s

/-- LDSEG (R115). -/
def execLdseg (i : Issue) (f : FMem) (s : State) : Host.Outcome State Fault Refusal :=
  commit (issueSyl i 0 0x58 (packMem f)) s

/-- STSEG (R115). -/
def execStseg (i : Issue) (f : FMem) (s : State) : Host.Outcome State Fault Refusal :=
  commit (issueSyl i 0 0x59 (packMem f)) s

/-- LDK (R134). -/
def execLdk (i : Issue) (f : FMem) (s : State) : Host.Outcome State Fault Refusal :=
  commit (issueSyl i 0 0x60 (packMem f)) s

/-- STK (R134). -/
def execStk (i : Issue) (f : FMem) (s : State) : Host.Outcome State Fault Refusal :=
  commit (issueSyl i 0 0x62 (packMem f)) s

/-- XCHG (R137). -/
def execXchg (i : Issue) (f : FMem) (s : State) : Host.Outcome State Fault Refusal :=
  commit (issueSyl i 0 0x64 (packMem f)) s

/-- FADD (R137). -/
def execFadd (i : Issue) (f : FMem) (s : State) : Host.Outcome State Fault Refusal :=
  commit (issueSyl i 0 0x65 (packMem f)) s

end Sys2Proof.Machine
end

