-- ==== Sys2Proof/Machine/RegCmd.lean ====
section
/-!
DEFINITION. Sys2Proof/Machine/RegCmd.lean: writes of the header registers that every page holds, and of registers without a row of their own.
-/

namespace Sys2Proof.Machine

/-- REGISTER_WRITE (R34). -/
def execRegisterWrite (q : Requester) (addr : W32) (size : Nat) (data : W32) (s : State) : Host.Outcome State Fault Refusal :=
  commit (busCommand q addr.toNat size data) s

/-- BLK_LOCK_WRITE (R40). -/
def execBlkLockWrite (q : Requester) (page : Nat) (data : W32) (s : State) : Host.Outcome State Fault Refusal :=
  commit (regCommand q page 0x028 data) s

/-- BLK_OWNER_WRITE (R38). -/
def execBlkOwnerWrite (q : Requester) (page : Nat) (data : W32) (s : State) : Host.Outcome State Fault Refusal :=
  commit (regCommand q page 0x018 data) s

/-- OWNER_DRAIN_DONE (R294). -/
def execOwnerDrainDone (bank : Fin 52) (s : State) : Host.Outcome State Fault Refusal :=
  commit (fun s => if fabricUp s then ownerDrained bank.val s else s) s

/-- BLK_PWR_WRITE (R39). -/
def execBlkPwrWrite (q : Requester) (page : Nat) (data : W32) (s : State) : Host.Outcome State Fault Refusal :=
  commit (regCommand q page 0x01C data) s

/-- BLK_ERR_CODE_CLR (R35). -/
def execBlkErrCodeClr (q : Requester) (page : Nat) (s : State) : Host.Outcome State Fault Refusal :=
  commit (regCommand q page 0x020 0x80000000) s

/-- BLK_EVT_CLEAR (R37). -/
def execBlkEvtClear (q : Requester) (page : Nat) (data : W32) (s : State) : Host.Outcome State Fault Refusal :=
  commit (regCommand q page 0x00C data) s

/-- BLK_EVT_SET_WRITE (R35). -/
def execBlkEvtSetWrite (q : Requester) (page : Nat) (data : W32) (s : State) : Host.Outcome State Fault Refusal :=
  commit (regCommand q page 0x014 data) s

end Sys2Proof.Machine
end

