-- ==== Sys2Proof/Machine/SafetyCmd.lean ====
section
/-!
DEFINITION. Sys2Proof/Machine/SafetyCmd.lean: the watchdog, software events and the monitors.
-/

namespace Sys2Proof.Machine

/-- A write of WDG_KICK at a moment that the sender states (R411). -/
def kickCommand (q : Requester) (data : W32) (elapsed : Nat) (s : State) : State :=
  let a := regAddr pgWdg 0x04C
  if !mayTransact q a 4 s then s.setAnswer .none
  else
    let q := settledRequester q
    let r := windowCheck q .write a 4 s
    match r.1 with
    | some e => r.2.setAnswer (.error e)
    | none => (watchdogKick q.master data elapsed r.2).setAnswer (.done none)

/-- 10,000 µs after SAFE entry (R412). -/
def watchdogReset (s : State) : State :=
  if live s && s.guard.safe && bit (s.reg pgWdg 0x004) 16 then assertReset .wdg false s else s

/-- WDG_KICK (R411). -/
def execWdgKick (q : Requester) (data : W32) (elapsed : Nat) (s : State) : Host.Outcome State Fault Refusal :=
  commit (kickCommand q data elapsed) s

/-- WDG_TIMEOUT (R411). -/
def execWdgTimeout (s : State) : Host.Outcome State Fault Refusal :=
  commit (whenLive (watchdogTimeout)) s

/-- WDG_RESET (R412). -/
def execWdgReset (s : State) : Host.Outcome State Fault Refusal :=
  commit (watchdogReset) s

/-- WDG_ALIVE (R408). -/
def execWdgAlive (q : Requester) (data : W32) (s : State) : Host.Outcome State Fault Refusal :=
  commit (regCommand q pgWdg 0x054 data) s

/-- BEL_SWI_SET (R417). -/
def execBelSwiSet (q : Requester) (data : W32) (s : State) : Host.Outcome State Fault Refusal :=
  commit (regCommand q pgBel 0x068 data) s

/-- BEL_SWI_CLR (R417). -/
def execBelSwiClr (q : Requester) (data : W32) (s : State) : Host.Outcome State Fault Refusal :=
  commit (regCommand q pgBel 0x06C data) s

/-- MONITOR_EXCURSION (R403). -/
def execMonitorExcursion (x : Excursion) (s : State) : Host.Outcome State Fault Refusal :=
  commit (monitorExceeds x.limit.val x.core) s

/-- EXCURSION_END (R403). -/
def execExcursionEnd (limit : Fin 8) (s : State) : Host.Outcome State Fault Refusal :=
  commit (monitorReturns limit.val) s

end Sys2Proof.Machine
end

