-- ==== Sys2Proof/Machine/ShiftCmd.lean ====
section
/-!
DEFINITION. Sys2Proof/Machine/ShiftCmd.lean: the edges of a shift, crossings, the Roster and the tasks.
-/

namespace Sys2Proof.Machine

/-- A crossing FIFO takes what its source offers as far as its depth allows, in order, and delivers its oldest transfer; the rest holds the
source back (R19). No rule gives the depth: Config.crossingDepth (log 71). -/
def crossingStep (src dst : Nat) (offered : List W64) (s : State) : State :=
  let key := 48 * src + dst
  let c := sparseGet idleCrossing s.crossings key
  if src = dst ∨ halted s ∨ s.life.phase = .asserted then s
  else
    let source := c.held ++ offered
    let room := max 1 (Config.crossingDepth key) - c.waiting.length
    let fifo := c.waiting ++ source.take room
    { s with crossings := sparseSet idleCrossing s.crossings key ⟨fifo.drop 1, source.drop room, if fifo.isEmpty then c.delivered else fifo.take 1⟩ }

/-- SHIFT_BOUNDARY (R46). -/
def execShiftBoundary (inp : BoundaryIn) (s : State) : Host.Outcome State Fault Refusal :=
  commit (onBoundary inp) s

/-- INTAKE_END (R46). -/
def execIntakeEnd (s : State) : Host.Outcome State Fault Refusal :=
  commit (onEdge .intake .primary intakeEdge) s

/-- PRIMARY_END (R46). -/
def execPrimaryEnd (s : State) : Host.Outcome State Fault Refusal :=
  commit (onEdge .primary .shadow primaryEdge) s

/-- SHADOW_END (R46). -/
def execShadowEnd (s : State) : Host.Outcome State Fault Refusal :=
  commit (onEdge .shadow .verdict shadowEdge) s

/-- VERDICT_END (R46). -/
def execVerdictEnd (s : State) : Host.Outcome State Fault Refusal :=
  commit (onEdge .verdict .drain verdictEdge) s

/-- DRAIN_DEADLINE (R46). -/
def execDrainDeadline (s : State) : Host.Outcome State Fault Refusal :=
  commit (onEdge .cutoff .lamp drainEdge) s

/-- ADIT_COPY_CUTOFF (R48). -/
def execAditCopyCutoff (s : State) : Host.Outcome State Fault Refusal :=
  commit (onEdge .drain .cutoff cutoffEdge) s

/-- CROSSING_DELIVERY (R19). -/
def execCrossingDelivery (src dst : Fin 48) (offered : List W64) (s : State) : Host.Outcome State Fault Refusal :=
  commit (crossingStep src.val dst.val offered) s

/-- ROSTER_SWITCH (R55), with CANCEL in the same write or not. -/
def execRosterSwitch (q : Requester) (cancel : Bool) (s : State) : Host.Outcome State Fault Refusal :=
  commit (regCommand q pgOns 0x040 (if cancel then 6 else 2)) s

/-- ROSTER_CANCEL (R56). -/
def execRosterCancel (q : Requester) (s : State) : Host.Outcome State Fault Refusal :=
  commit (regCommand q pgOns 0x040 4) s

/-- ROSTER_VALIDATION_DONE (R55). -/
def execRosterValidationDone (s : State) : Host.Outcome State Fault Refusal :=
  commit (fun s => if fabricUp s then validationDone s else s) s

/-- TASK_DISPATCH (R60). -/
def execTaskDispatch (h : Hart) (s : State) : Host.Outcome State Fault Refusal :=
  commit (whenLive (dispatch h)) s

/-- TASK_PASS_COMPLETE (R62). -/
def execTaskPassComplete (h : Hart) (s : State) : Host.Outcome State Fault Refusal :=
  commit (endPass h) s

/-- CUT_LOG_READ (R71). -/
def execCutLogRead (q : Requester) (s : State) : Host.Outcome State Fault Refusal :=
  commit (readCommand q pgOns 0x064) s

end Sys2Proof.Machine
end

