-- ==== Sys2Proof/Machine/StreamCmd.lean ====
section
/-!
DEFINITION. Sys2Proof/Machine/StreamCmd.lean: network frames, gPTP, links and the Tally pools.
-/

namespace Sys2Proof.Machine

/-- FRAME_RECEIVE (R352). -/
def execFrameReceive (port : Fin 4) (frame : RxFrame) (s : State) : Host.Outcome State Fault Refusal :=
  commit (whenLive (Sys2Proof.Machine.frameReceive port.val frame)) s

/-- PTP_MESSAGE_RECEIVE (R348). -/
def execPtpMessageReceive (port : Fin 4) (msg : PtpMsg) (s : State) : Host.Outcome State Fault Refusal :=
  commit (whenLive (ptpReceive port.val msg)) s

/-- PTP_MESSAGE_SEND (R348). -/
def execPtpMessageSend (port : Fin 4) (kind : PtpKind) (s : State) : Host.Outcome State Fault Refusal :=
  commit (whenLive (ptpSend port.val kind)) s

/-- PTP_SYNC_TIMEOUT (R349). -/
def execPtpSyncTimeout (s : State) : Host.Outcome State Fault Refusal :=
  commit (whenLive (fun s => if aditPortOn 0 s then ptpSyncLost s else s)) s

/-- ANNOUNCE_RECEIPT_TIMEOUT (R348). -/
def execAnnounceReceiptTimeout (s : State) : Host.Outcome State Fault Refusal :=
  commit (whenLive (fun s => if aditPortOn 0 s then ptpAnnounceLost s else s)) s

/-- LINK_DOWN (R347); in a halt the links stay up (R428). -/
def execLinkDown (port : Fin 4) (s : State) : Host.Outcome State Fault Refusal :=
  commit (whenLive (linkGoesDown port.val)) s

/-- LINK_UP (R347, R428). -/
def execLinkUp (port : Fin 4) (s : State) : Host.Outcome State Fault Refusal :=
  commit (whenLive (linkComesUp port.val)) s

/-- TALLY_GRANT (R368). -/
def execTallyGrant (pool : Fin 4) (s : State) : Host.Outcome State Fault Refusal :=
  commit (whenLive (pumpPool pool.val 1)) s

/-- FRAME_COPY_DONE (R354). -/
def execFrameCopyDone (port : Fin 4) (s : State) : Host.Outcome State Fault Refusal :=
  commit (whenLive (Sys2Proof.Machine.frameCopyDone port.val)) s

/-- TX_FRAME_ELIGIBLE (R361). -/
def execTxFrameEligible (frame : Eligible) (s : State) : Host.Outcome State Fault Refusal :=
  commit (whenLive (frameEligible frame.stream.val frame.elapsed)) s

/-- TX_FIFO_COPY (R361). -/
def execTxFifoCopy (port : Fin 4) (elapsed : Nat) (s : State) : Host.Outcome State Fault Refusal :=
  commit (whenLive (Sys2Proof.Machine.txFifoCopy port.val elapsed)) s

/-- TX_FRAME_DONE (R361). -/
def execTxFrameDone (port : Fin 4) (time : Int) (s : State) : Host.Outcome State Fault Refusal :=
  commit (whenLive (Sys2Proof.Machine.txFrameDone port.val time)) s

/-- TX_FRAME_STALE (R361). -/
def execTxFrameStale (port : Fin 4) (s : State) : Host.Outcome State Fault Refusal :=
  commit (whenLive (Sys2Proof.Machine.txFrameStale port.val)) s

/-- ELIMINATION_RESET (R358). -/
def execEliminationReset (stream : Fin 256) (s : State) : Host.Outcome State Fault Refusal :=
  commit (whenLive (Sys2Proof.Machine.eliminationReset stream.val)) s

end Sys2Proof.Machine
end

