-- ==== Sys2Proof/Machine/TriadCmd.lean ====
section
/-!
DEFINITION. Sys2Proof/Machine/TriadCmd.lean: the Deputies' registers, the Triad, the Canary and the Gate.
-/

namespace Sys2Proof.Machine

/-- The copy of a resynchronisation completes: the replica's bank holds what its donor's holds (R276). -/
def resyncCopied (s : State) : State :=
  match s.tri.job with
  | none => s
  | some j =>
    if j.copied then s
    else
      let s := copyOvermanBank (48 + j.donor) (48 + j.x) s
      { s with tri := { s.tri with job := some { j with copied := true } } }

/-- DEP_KICK_WRITE (R255). -/
def execDepKickWrite (q : Requester) (pair : Fin 24) (data : W32) (s : State) : Host.Outcome State Fault Refusal :=
  commit (regCommand q (pgDep pair.val) 0x048 data) s

/-- DEP_LINE_WRITE (R256). -/
def execDepLineWrite (q : Requester) (pair : Fin 24) (k : Fin 4) (data : W32) (s : State) : Host.Outcome State Fault Refusal :=
  commit (regCommand q (pgDep pair.val) (0x050 + 4 * k.val) data) s

/-- CHECKPOINT_VOTE (R266). -/
def execCheckpointVote (s : State) : Host.Outcome State Fault Refusal :=
  commit (whenLive (Sys2Proof.Machine.checkpointVote)) s

/-- CHECKPOINT_TARGET_TIMEOUT (R262). -/
def execCheckpointTargetTimeout (s : State) : Host.Outcome State Fault Refusal :=
  commit (whenLive (targetTimeout)) s

/-- AGREE_MATCH (R270). -/
def execAgreeMatch (thread : Fin 2) (s : State) : Host.Outcome State Fault Refusal :=
  commit (whenLive (Sys2Proof.Machine.agreeMatch thread.val)) s

/-- AGREE_TIMEOUT (R271). -/
def execAgreeTimeout (thread : Fin 2) (s : State) : Host.Outcome State Fault Refusal :=
  commit (whenLive (Sys2Proof.Machine.agreeTimeout thread.val)) s

/-- RESYNC_COPY_DONE (R276). -/
def execResyncCopyDone (s : State) : Host.Outcome State Fault Refusal :=
  commit (whenLive (resyncCopied)) s

/-- CAN_REQ_WRITE (R284). -/
def execCanReqWrite (q : Requester) (data : W32) (s : State) : Host.Outcome State Fault Refusal :=
  commit (regCommand q pgCan 0x04C data) s

/-- ZONE_CTL_WRITE (R285). -/
def execZoneCtlWrite (q : Requester) (zone : Fin 128) (data : W32) (s : State) : Host.Outcome State Fault Refusal :=
  commit (regCommand q (pgOvm (8 + zone.val / 16)) (0x10C + 0x10 * (zone.val % 16)) data) s

/-- GAT_GERR_CLR (R287). -/
def execGatGerrClr (q : Requester) (s : State) : Host.Outcome State Fault Refusal :=
  commit (regCommand q pgGat 0x060 0x80000000) s

/-- GAT_SAFE_SAFE (R404). -/
def execGatSafeSafe (q : Requester) (s : State) : Host.Outcome State Fault Refusal :=
  commit (regCommand q pgGat 0x058 1) s

/-- GAT_SAFE_RESET (R442). -/
def execGatSafeReset (q : Requester) (s : State) : Host.Outcome State Fault Refusal :=
  commit (regCommand q pgGat 0x058 2) s

end Sys2Proof.Machine
end

