-- ==== Sys2Proof/Machine/Dispatch.lean ====
section
/-!
DEFINITION. Sys2Proof/Machine/Dispatch.lean: one arm per command, each one direct call of that command's meaning.
-/

namespace Sys2Proof.Machine

/-- The effect of a command on everything but the queue. -/
def exec (i : Instr) (s : State) : Host.Outcome State Fault Refusal :=
  match i with
  | .shiftBoundary inp => Sys2Proof.Machine.execShiftBoundary inp s
  | .intakeEnd => Sys2Proof.Machine.execIntakeEnd s
  | .primaryEnd => Sys2Proof.Machine.execPrimaryEnd s
  | .shadowEnd => Sys2Proof.Machine.execShadowEnd s
  | .verdictEnd => Sys2Proof.Machine.execVerdictEnd s
  | .drainDeadline => Sys2Proof.Machine.execDrainDeadline s
  | .aditCopyCutoff => Sys2Proof.Machine.execAditCopyCutoff s
  | .crossingDelivery src dst offered => Sys2Proof.Machine.execCrossingDelivery src dst offered s
  | .registerWrite q addr size data => Sys2Proof.Machine.execRegisterWrite q addr size data s
  | .blkLockWrite q page data => Sys2Proof.Machine.execBlkLockWrite q page data s
  | .blkOwnerWrite q page data => Sys2Proof.Machine.execBlkOwnerWrite q page data s
  | .ownerDrainDone bank => Sys2Proof.Machine.execOwnerDrainDone bank s
  | .blkPwrWrite q page data => Sys2Proof.Machine.execBlkPwrWrite q page data s
  | .blkErrCodeClr q page => Sys2Proof.Machine.execBlkErrCodeClr q page s
  | .blkEvtClear q page data => Sys2Proof.Machine.execBlkEvtClear q page data s
  | .blkEvtSetWrite q page data => Sys2Proof.Machine.execBlkEvtSetWrite q page data s
  | .rosterSwitch q cancel => Sys2Proof.Machine.execRosterSwitch q cancel s
  | .rosterCancel q => Sys2Proof.Machine.execRosterCancel q s
  | .rosterValidationDone => Sys2Proof.Machine.execRosterValidationDone s
  | .taskDispatch h => Sys2Proof.Machine.execTaskDispatch h s
  | .taskPassComplete h => Sys2Proof.Machine.execTaskPassComplete h s
  | .cutLogRead q => Sys2Proof.Machine.execCutLogRead q s
  | .nop u inC f => Sys2Proof.Machine.execNop u inC f s
  | .ldb u f => Sys2Proof.Machine.execLdb u f s
  | .ldbu u f => Sys2Proof.Machine.execLdbu u f s
  | .ldh u f => Sys2Proof.Machine.execLdh u f s
  | .ldhu u f => Sys2Proof.Machine.execLdhu u f s
  | .lds u f => Sys2Proof.Machine.execLds u f s
  | .ldc u f => Sys2Proof.Machine.execLdc u f s
  | .lda u f => Sys2Proof.Machine.execLda u f s
  | .ldx u f => Sys2Proof.Machine.execLdx u f s
  | .stb u f => Sys2Proof.Machine.execStb u f s
  | .sth u f => Sys2Proof.Machine.execSth u f s
  | .sts u f => Sys2Proof.Machine.execSts u f s
  | .stc u f => Sys2Proof.Machine.execStc u f s
  | .sta u f => Sys2Proof.Machine.execSta u f s
  | .stx u f => Sys2Proof.Machine.execStx u f s
  | .vlds u f => Sys2Proof.Machine.execVlds u f s
  | .vldc u f => Sys2Proof.Machine.execVldc u f s
  | .vsts u f => Sys2Proof.Machine.execVsts u f s
  | .vstc u f => Sys2Proof.Machine.execVstc u f s
  | .ldr u f => Sys2Proof.Machine.execLdr u f s
  | .str u f => Sys2Proof.Machine.execStr u f s
  | .ldseg u f => Sys2Proof.Machine.execLdseg u f s
  | .stseg u f => Sys2Proof.Machine.execStseg u f s
  | .ldk u f => Sys2Proof.Machine.execLdk u f s
  | .stk u f => Sys2Proof.Machine.execStk u f s
  | .xchg u f => Sys2Proof.Machine.execXchg u f s
  | .fadd u f => Sys2Proof.Machine.execFadd u f s
  | .add u f => Sys2Proof.Machine.execAdd u f s
  | .sub u f => Sys2Proof.Machine.execSub u f s
  | .adds u f => Sys2Proof.Machine.execAdds u f s
  | .subs u f => Sys2Proof.Machine.execSubs u f s
  | .neg u f => Sys2Proof.Machine.execNeg u f s
  | .abs u f => Sys2Proof.Machine.execAbs u f s
  | .and u f => Sys2Proof.Machine.execAnd u f s
  | .or u f => Sys2Proof.Machine.execOr u f s
  | .xor u f => Sys2Proof.Machine.execXor u f s
  | .min u f => Sys2Proof.Machine.execMin u f s
  | .max u f => Sys2Proof.Machine.execMax u f s
  | .addi u f => Sys2Proof.Machine.execAddi u f s
  | .andi u f => Sys2Proof.Machine.execAndi u f s
  | .ori u f => Sys2Proof.Machine.execOri u f s
  | .xori u f => Sys2Proof.Machine.execXori u f s
  | .aadd u f => Sys2Proof.Machine.execAadd u f s
  | .asub u f => Sys2Proof.Machine.execAsub u f s
  | .aaddi u f => Sys2Proof.Machine.execAaddi u f s
  | .acirc u f => Sys2Proof.Machine.execAcirc u f s
  | .amovi u f => Sys2Proof.Machine.execAmovi u f s
  | .ceq u f => Sys2Proof.Machine.execCeq u f s
  | .cne u f => Sys2Proof.Machine.execCne u f s
  | .clt u f => Sys2Proof.Machine.execClt u f s
  | .cle u f => Sys2Proof.Machine.execCle u f s
  | .cltu u f => Sys2Proof.Machine.execCltu u f s
  | .cleu u f => Sys2Proof.Machine.execCleu u f s
  | .ceqi u f => Sys2Proof.Machine.execCeqi u f s
  | .clti u f => Sys2Proof.Machine.execClti u f s
  | .cgti u f => Sys2Proof.Machine.execCgti u f s
  | .shl u f => Sys2Proof.Machine.execShl u f s
  | .shra u f => Sys2Proof.Machine.execShra u f s
  | .shrl u f => Sys2Proof.Machine.execShrl u f s
  | .shli u f => Sys2Proof.Machine.execShli u f s
  | .shrai u f => Sys2Proof.Machine.execShrai u f s
  | .shrli u f => Sys2Proof.Machine.execShrli u f s
  | .bfext u f => Sys2Proof.Machine.execBfext u f s
  | .bfexts u f => Sys2Proof.Machine.execBfexts u f s
  | .bfins u f => Sys2Proof.Machine.execBfins u f s
  | .bfextr u f => Sys2Proof.Machine.execBfextr u f s
  | .bfinsr u f => Sys2Proof.Machine.execBfinsr u f s
  | .clz u f => Sys2Proof.Machine.execClz u f s
  | .cls u f => Sys2Proof.Machine.execCls u f s
  | .bperm u f => Sys2Proof.Machine.execBperm u f s
  | .bpermi u f => Sys2Proof.Machine.execBpermi u f s
  | .sclamp u f => Sys2Proof.Machine.execSclamp u f s
  | .movi u f => Sys2Proof.Machine.execMovi u f s
  | .moviu u f => Sys2Proof.Machine.execMoviu u f s
  | .mov u f => Sys2Proof.Machine.execMov u f s
  | .movad u f => Sys2Proof.Machine.execMovad u f s
  | .movda u f => Sys2Proof.Machine.execMovda u f s
  | .mfs u f => Sys2Proof.Machine.execMfs u f s
  | .mts u f => Sys2Proof.Machine.execMts u f s
  | .ptst u f => Sys2Proof.Machine.execPtst u f s
  | .xop u k f => Sys2Proof.Machine.execXop u k f s
  | .mul u f => Sys2Proof.Machine.execMul u f s
  | .mac u f => Sys2Proof.Machine.execMac u f s
  | .msu u f => Sys2Proof.Machine.execMsu u f s
  | .macp u f => Sys2Proof.Machine.execMacp u f s
  | .movpx u f => Sys2Proof.Machine.execMovpx u f s
  | .xclr u f => Sys2Proof.Machine.execXclr u f s
  | .xadd u f => Sys2Proof.Machine.execXadd u f s
  | .xsha u f => Sys2Proof.Machine.execXsha u f s
  | .xmovd u f => Sys2Proof.Machine.execXmovd u f s
  | .xtr u f => Sys2Proof.Machine.execXtr u f s
  | .xtrv u f => Sys2Proof.Machine.execXtrv u f s
  | .vmul u f => Sys2Proof.Machine.execVmul u f s
  | .vmac u f => Sys2Proof.Machine.execVmac u f s
  | .vmsu u f => Sys2Proof.Machine.execVmsu u f s
  | .vmacs u f => Sys2Proof.Machine.execVmacs u f s
  | .vmsus u f => Sys2Proof.Machine.execVmsus u f s
  | .bz u f => Sys2Proof.Machine.execBz u f s
  | .bnz u f => Sys2Proof.Machine.execBnz u f s
  | .bra u f => Sys2Proof.Machine.execBra u f s
  | .call u f => Sys2Proof.Machine.execCall u f s
  | .jmp u f => Sys2Proof.Machine.execJmp u f s
  | .callr u f => Sys2Proof.Machine.execCallr u f s
  | .tdone u f => Sys2Proof.Machine.execTdone u f s
  | .retx u f => Sys2Proof.Machine.execRetx u f s
  | .iflush u f => Sys2Proof.Machine.execIflush u f s
  | .check u f => Sys2Proof.Machine.execCheck u f s
  | .agree u f => Sys2Proof.Machine.execAgree u f s
  | .lock u f => Sys2Proof.Machine.execLock u f s
  | .unlock u f => Sys2Proof.Machine.execUnlock u f s
  | .trap u f => Sys2Proof.Machine.execTrap u f s
  | .wait u f => Sys2Proof.Machine.execWait u f s
  | .rep u f => Sys2Proof.Machine.execRep u f s
  | .repi u f => Sys2Proof.Machine.execRepi u f s
  | .repir u f => Sys2Proof.Machine.execRepir u f s
  | .bmov u f => Sys2Proof.Machine.execBmov u f s
  | .bfill u f => Sys2Proof.Machine.execBfill u f s
  | .bscan u f => Sys2Proof.Machine.execBscan u f s
  | .bxform u f => Sys2Proof.Machine.execBxform u f s
  | .interruptAccept h => Sys2Proof.Machine.execInterruptAccept h s
  | .waitResume h => Sys2Proof.Machine.execWaitResume h s
  | .lineFill h => Sys2Proof.Machine.execLineFill h s
  | .accessResponse h => Sys2Proof.Machine.execAccessResponse h s
  | .storeBufferPerform core => Sys2Proof.Machine.execStoreBufferPerform core s
  | .mmLogRead q hewer => Sys2Proof.Machine.execMmLogRead q hewer s
  | .tippleStageDataWrite q data => Sys2Proof.Machine.execTippleStageDataWrite q data s
  | .tippleColumnCompare column => Sys2Proof.Machine.execTippleColumnCompare column s
  | .failLogRead q => Sys2Proof.Machine.execFailLogRead q s
  | .mclkSourceValid => Sys2Proof.Machine.execMclkSourceValid s
  | .mclkSourceInvalid => Sys2Proof.Machine.execMclkSourceInvalid s
  | .mclkLocked => Sys2Proof.Machine.execMclkLocked s
  | .tdmFrame port rx misplaced => Sys2Proof.Machine.execTdmFrame port rx misplaced s
  | .tdmBclkLoss port => Sys2Proof.Machine.execTdmBclkLoss port s
  | .pdmWarmupEnd group => Sys2Proof.Machine.execPdmWarmupEnd group s
  | .micStuck mic => Sys2Proof.Machine.execMicStuck mic s
  | .pwmStateWrite q chan data => Sys2Proof.Machine.execPwmStateWrite q chan data s
  | .senseStuck chan current => Sys2Proof.Machine.execSenseStuck chan current s
  | .refugeArmWrite q data => Sys2Proof.Machine.execRefugeArmWrite q data s
  | .refugeReqPresent => Sys2Proof.Machine.execRefugeReqPresent s
  | .refugeReqAbsent => Sys2Proof.Machine.execRefugeReqAbsent s
  | .refugeLevelRampDone => Sys2Proof.Machine.execRefugeLevelRampDone s
  | .refugeDeactivate => Sys2Proof.Machine.execRefugeDeactivate s
  | .refugeSourceLost => Sys2Proof.Machine.execRefugeSourceLost s
  | .refugeSourceReturn => Sys2Proof.Machine.execRefugeSourceReturn s
  | .refugeToneSegmentEnd => Sys2Proof.Machine.execRefugeToneSegmentEnd s
  | .intervalDone pair => Sys2Proof.Machine.execIntervalDone pair s
  | .depNop pair => Sys2Proof.Machine.execDepNop pair s
  | .depMovi pair d imm => Sys2Proof.Machine.execDepMovi pair d imm s
  | .depAddi pair d imm => Sys2Proof.Machine.execDepAddi pair d imm s
  | .depAndi pair d imm => Sys2Proof.Machine.execDepAndi pair d imm s
  | .depOri pair d imm => Sys2Proof.Machine.execDepOri pair d imm s
  | .depXori pair d imm => Sys2Proof.Machine.execDepXori pair d imm s
  | .depCeqi pair d imm => Sys2Proof.Machine.execDepCeqi pair d imm s
  | .depCltui pair d imm => Sys2Proof.Machine.execDepCltui pair d imm s
  | .depAluMov pair d r => Sys2Proof.Machine.execDepAluMov pair d r s
  | .depAluAdd pair d r => Sys2Proof.Machine.execDepAluAdd pair d r s
  | .depAluSub pair d r => Sys2Proof.Machine.execDepAluSub pair d r s
  | .depAluAnd pair d r => Sys2Proof.Machine.execDepAluAnd pair d r s
  | .depAluOr pair d r => Sys2Proof.Machine.execDepAluOr pair d r s
  | .depAluXor pair d r => Sys2Proof.Machine.execDepAluXor pair d r s
  | .depAluShl pair d r => Sys2Proof.Machine.execDepAluShl pair d r s
  | .depAluShr pair d r => Sys2Proof.Machine.execDepAluShr pair d r s
  | .depAluSar pair d r => Sys2Proof.Machine.execDepAluSar pair d r s
  | .depAluCeq pair d r => Sys2Proof.Machine.execDepAluCeq pair d r s
  | .depAluCne pair d r => Sys2Proof.Machine.execDepAluCne pair d r s
  | .depAluCltu pair d r => Sys2Proof.Machine.execDepAluCltu pair d r s
  | .depAluClt pair d r => Sys2Proof.Machine.execDepAluClt pair d r s
  | .depAluCleu pair d r => Sys2Proof.Machine.execDepAluCleu pair d r s
  | .depAluCle pair d r => Sys2Proof.Machine.execDepAluCle pair d r s
  | .depAluNot pair d r => Sys2Proof.Machine.execDepAluNot pair d r s
  | .depAluAddw pair d r => Sys2Proof.Machine.execDepAluAddw pair d r s
  | .depAluSubw pair d r => Sys2Proof.Machine.execDepAluSubw pair d r s
  | .depAluCeqw pair d r => Sys2Proof.Machine.execDepAluCeqw pair d r s
  | .depAluCltuw pair d r => Sys2Proof.Machine.execDepAluCltuw pair d r s
  | .depAluMulu pair d r => Sys2Proof.Machine.execDepAluMulu pair d r s
  | .depAluCarry pair d r => Sys2Proof.Machine.execDepAluCarry pair d r s
  | .depLd pair d y u => Sys2Proof.Machine.execDepLd pair d y u s
  | .depSt pair d y u => Sys2Proof.Machine.execDepSt pair d y u s
  | .depLdp pair d y u => Sys2Proof.Machine.execDepLdp pair d y u s
  | .depStp pair d y u => Sys2Proof.Machine.execDepStp pair d y u s
  | .depLdq pair d y u => Sys2Proof.Machine.execDepLdq pair d y u s
  | .depStq pair d y u => Sys2Proof.Machine.execDepStq pair d y u s
  | .depLdy pair y imm => Sys2Proof.Machine.execDepLdy pair y imm s
  | .depYaddi pair y imm => Sys2Proof.Machine.execDepYaddi pair y imm s
  | .depMovyg pair y d => Sys2Proof.Machine.execDepMovyg pair y d s
  | .depMovgy pair y d => Sys2Proof.Machine.execDepMovgy pair y d s
  | .depBz pair d disp => Sys2Proof.Machine.execDepBz pair d disp s
  | .depBnz pair d disp => Sys2Proof.Machine.execDepBnz pair d disp s
  | .depJmp pair target => Sys2Proof.Machine.execDepJmp pair target s
  | .depCall pair target => Sys2Proof.Machine.execDepCall pair target s
  | .depRet pair => Sys2Proof.Machine.execDepRet pair s
  | .depReti pair => Sys2Proof.Machine.execDepReti pair s
  | .depSetie pair on => Sys2Proof.Machine.execDepSetie pair on s
  | .depWaite pair => Sys2Proof.Machine.execDepWaite pair s
  | .depWaiteResume pair => Sys2Proof.Machine.execDepWaiteResume pair s
  | .depInterruptAccept pair => Sys2Proof.Machine.execDepInterruptAccept pair s
  | .depLockstepMismatch pair => Sys2Proof.Machine.execDepLockstepMismatch pair s
  | .depRestartRelease pair => Sys2Proof.Machine.execDepRestartRelease pair s
  | .depHeartbeatTimeout pair => Sys2Proof.Machine.execDepHeartbeatTimeout pair s
  | .depKickWrite q pair data => Sys2Proof.Machine.execDepKickWrite q pair data s
  | .depLineWrite q pair k data => Sys2Proof.Machine.execDepLineWrite q pair k data s
  | .contactSample pair levels => Sys2Proof.Machine.execContactSample pair levels s
  | .checkpointVote => Sys2Proof.Machine.execCheckpointVote s
  | .checkpointTargetTimeout => Sys2Proof.Machine.execCheckpointTargetTimeout s
  | .agreeMatch thread => Sys2Proof.Machine.execAgreeMatch thread s
  | .agreeTimeout thread => Sys2Proof.Machine.execAgreeTimeout thread s
  | .resyncCopyDone => Sys2Proof.Machine.execResyncCopyDone s
  | .canReqWrite q data => Sys2Proof.Machine.execCanReqWrite q data s
  | .zoneCtlWrite q zone data => Sys2Proof.Machine.execZoneCtlWrite q zone data s
  | .gatGerrClr q => Sys2Proof.Machine.execGatGerrClr q s
  | .gatSafeSafe q => Sys2Proof.Machine.execGatSafeSafe q s
  | .gatSafeReset q => Sys2Proof.Machine.execGatSafeReset q s
  | .bankInvalidateGo q bank words => Sys2Proof.Machine.execBankInvalidateGo q bank words s
  | .invDone bank => Sys2Proof.Machine.execInvDone bank s
  | .winderStart q district chan data => Sys2Proof.Machine.execWinderStart q district chan data s
  | .winderStop q district chan data => Sys2Proof.Machine.execWinderStop q district chan data s
  | .winderResume q district chan data => Sys2Proof.Machine.execWinderResume q district chan data s
  | .winderEntry district chan elements => Sys2Proof.Machine.execWinderEntry district chan elements s
  | .panelDecode group => Sys2Proof.Machine.execPanelDecode group s
  | .eccRetireWrite q group w data => Sys2Proof.Machine.execEccRetireWrite q group w data s
  | .eccClrAll q group => Sys2Proof.Machine.execEccClrAll q group s
  | .eccClrCounts q group => Sys2Proof.Machine.execEccClrCounts q group s
  | .eccClrOne q group index => Sys2Proof.Machine.execEccClrOne q group index s
  | .scrubGo q group => Sys2Proof.Machine.execScrubGo q group s
  | .scrubStop q group => Sys2Proof.Machine.execScrubStop q group s
  | .scrubDone group => Sys2Proof.Machine.execScrubDone group s
  | .eccSelftestGo q group => Sys2Proof.Machine.execEccSelftestGo q group s
  | .eccSelftestDone group fail => Sys2Proof.Machine.execEccSelftestDone group fail s
  | .frameReceive port frame => Sys2Proof.Machine.execFrameReceive port frame s
  | .ptpMessageReceive port msg => Sys2Proof.Machine.execPtpMessageReceive port msg s
  | .ptpMessageSend port kind => Sys2Proof.Machine.execPtpMessageSend port kind s
  | .ptpSyncTimeout => Sys2Proof.Machine.execPtpSyncTimeout s
  | .linkDown port => Sys2Proof.Machine.execLinkDown port s
  | .linkUp port => Sys2Proof.Machine.execLinkUp port s
  | .tallyGrant pool => Sys2Proof.Machine.execTallyGrant pool s
  | .frameCopyDone port => Sys2Proof.Machine.execFrameCopyDone port s
  | .txFrameEligible frame => Sys2Proof.Machine.execTxFrameEligible frame s
  | .txFifoCopy port elapsed => Sys2Proof.Machine.execTxFifoCopy port elapsed s
  | .txFrameDone port time => Sys2Proof.Machine.execTxFrameDone port time s
  | .txFrameStale port => Sys2Proof.Machine.execTxFrameStale port s
  | .eliminationReset stream => Sys2Proof.Machine.execEliminationReset stream s
  | .lampRoomPeriod use => Sys2Proof.Machine.execLampRoomPeriod use s
  | .pmonRead value => Sys2Proof.Machine.execPmonRead value s
  | .lrmStateWrite q data => Sys2Proof.Machine.execLrmStateWrite q data s
  | .wakePin => Sys2Proof.Machine.execWakePin s
  | .wakeTimer => Sys2Proof.Machine.execWakeTimer s
  | .crgFreqWrite q island data => Sys2Proof.Machine.execCrgFreqWrite q island data s
  | .surveyGo q island => Sys2Proof.Machine.execSurveyGo q island s
  | .surveyDone island gauges => Sys2Proof.Machine.execSurveyDone island gauges s
  | .ophoursTick => Sys2Proof.Machine.execOphoursTick s
  | .lrmWearWrite q island data => Sys2Proof.Machine.execLrmWearWrite q island data s
  | .wdgKick q data elapsed => Sys2Proof.Machine.execWdgKick q data elapsed s
  | .wdgTimeout => Sys2Proof.Machine.execWdgTimeout s
  | .wdgReset => Sys2Proof.Machine.execWdgReset s
  | .wdgAlive q data => Sys2Proof.Machine.execWdgAlive q data s
  | .belSwiSet q data => Sys2Proof.Machine.execBelSwiSet q data s
  | .belSwiClr q data => Sys2Proof.Machine.execBelSwiClr q data s
  | .monitorExcursion x => Sys2Proof.Machine.execMonitorExcursion x s
  | .dread off => Sys2Proof.Machine.execDread off s
  | .dwrite off data => Sys2Proof.Machine.execDwrite off data s
  | .mread addr size late => Sys2Proof.Machine.execMread addr size late s
  | .mwrite addr size data late => Sys2Proof.Machine.execMwrite addr size data late s
  | .poll => Sys2Proof.Machine.execPoll s
  | .wireBreak => Sys2Proof.Machine.execWireBreak s
  | .debugAccessDone => Sys2Proof.Machine.execDebugAccessDone s
  | .dbgAuthRequest level => Sys2Proof.Machine.execDbgAuthRequest level s
  | .dbgResponseCompare data => Sys2Proof.Machine.execDbgResponseCompare data s
  | .haltRequest => Sys2Proof.Machine.execHaltRequest s
  | .haltComplete elapsed => Sys2Proof.Machine.execHaltComplete elapsed s
  | .resume long => Sys2Proof.Machine.execResume long s
  | .feedGo => Sys2Proof.Machine.execFeedGo s
  | .txdWrite q data => Sys2Proof.Machine.execTxdWrite q data s
  | .txAck => Sys2Proof.Machine.execTxAck s
  | .rxdWrite data => Sys2Proof.Machine.execRxdWrite data s
  | .rxAck q => Sys2Proof.Machine.execRxAck q s
  | .traceRead q => Sys2Proof.Machine.execTraceRead q s
  | .pmcCounterWrite q page k data => Sys2Proof.Machine.execPmcCounterWrite q page k data s
  | .pmcSnap q => Sys2Proof.Machine.execPmcSnap q s
  | .pmcCounterWrap page k => Sys2Proof.Machine.execPmcCounterWrap page k s
  | .bwWindowEnd port n => Sys2Proof.Machine.execBwWindowEnd port n s
  | .powerOnResetCause => Sys2Proof.Machine.execPowerOnResetCause s
  | .referenceCountDone => Sys2Proof.Machine.execReferenceCountDone s
  | .warmResetPin => Sys2Proof.Machine.execWarmResetPin s
  | .resetRelease inp => Sys2Proof.Machine.execResetRelease inp s
  | .bootTimeout => Sys2Proof.Machine.execBootTimeout s
  | .bootRetry => Sys2Proof.Machine.execBootRetry s
  | .bootHandover micros inp => Sys2Proof.Machine.execBootHandover micros inp s
  | .xspCmdGo q data => Sys2Proof.Machine.execXspCmdGo q data s
  | .xspStatusPoll status => Sys2Proof.Machine.execXspStatusPoll status s
  | .xspPollTimeout => Sys2Proof.Machine.execXspPollTimeout s
  | .xspCmdDone read changed => Sys2Proof.Machine.execXspCmdDone read changed s
  | .pcieConfigRequest write off data => Sys2Proof.Machine.execPcieConfigRequest write off data s
  | .pcieBarRead bar off len enabled => Sys2Proof.Machine.execPcieBarRead bar off len enabled s
  | .pcieBarWrite bar off bytes enabled => Sys2Proof.Machine.execPcieBarWrite bar off bytes enabled s
  | .pciePerst level => Sys2Proof.Machine.execPciePerst level s
  | .pciH2dWrite q data => Sys2Proof.Machine.execPciH2dWrite q data s
  | .pciH2dAck q => Sys2Proof.Machine.execPciH2dAck q s
  | .pciD2hWrite q data => Sys2Proof.Machine.execPciD2hWrite q data s
  | .pciD2hAck q => Sys2Proof.Machine.execPciD2hAck q s
  | .pciMsiSend q vector => Sys2Proof.Machine.execPciMsiSend q vector s
  | .msiPendingSend vector => Sys2Proof.Machine.execMsiPendingSend vector s
  | .illegalOpcode u slot opc f => Sys2Proof.Machine.execIllegalOpcode u slot opc f s
  | .depIllegal pair => Sys2Proof.Machine.execDepIllegal pair s
  | .senseClip chan current => Sys2Proof.Machine.execSenseClip chan current s
  | .modulatorClip chan => Sys2Proof.Machine.execModulatorClip chan s
  | .excursionEnd limit => Sys2Proof.Machine.execExcursionEnd limit s
  | .warmResetPinEnd => Sys2Proof.Machine.execWarmResetPinEnd s
  | .supplyReturn => Sys2Proof.Machine.execSupplyReturn s
  | .pcieLinkChange link => Sys2Proof.Machine.execPcieLinkChange link s
  | .announceReceiptTimeout => Sys2Proof.Machine.execAnnounceReceiptTimeout s

end Sys2Proof.Machine
end

