-- ==== Sys2Proof/Machine/DepCode.lean ====
section
/-!
DEFINITION. Sys2Proof/Machine/DepCode.lean: the encoding of the Deputy's instructions (R247–R249). A command names the instruction that the words
at the pair's PC spell; these definitions say which that is (log 23).
-/

namespace Sys2Proof.Machine

/-- The ALU functions of R249 by code; none for the codes that are ILLEGAL. -/
def depAluDecode (pair : Fin 24) (fn : Nat) (d r : Fin 8) : Option Instr :=
  match fn with
  | 0x00 => some (.depAluMov pair d r)
  | 0x01 => some (.depAluAdd pair d r)
  | 0x02 => some (.depAluSub pair d r)
  | 0x03 => some (.depAluAnd pair d r)
  | 0x04 => some (.depAluOr pair d r)
  | 0x05 => some (.depAluXor pair d r)
  | 0x06 => some (.depAluShl pair d r)
  | 0x07 => some (.depAluShr pair d r)
  | 0x08 => some (.depAluSar pair d r)
  | 0x09 => some (.depAluCeq pair d r)
  | 0x0A => some (.depAluCne pair d r)
  | 0x0B => some (.depAluCltu pair d r)
  | 0x0C => some (.depAluClt pair d r)
  | 0x0D => some (.depAluCleu pair d r)
  | 0x0E => some (.depAluCle pair d r)
  | 0x0F => some (.depAluNot pair d r)
  | 0x10 => some (.depAluAddw pair d r)
  | 0x11 => some (.depAluSubw pair d r)
  | 0x12 => some (.depAluCeqw pair d r)
  | 0x13 => some (.depAluCltuw pair d r)
  | 0x14 => some (.depAluMulu pair d r)
  | 0x15 => some (.depAluCarry pair d r)
  | _ => none

/-- The instruction that a word spells, with the word that follows it as the immediate of a two-word instruction; none for an ILLEGAL one: an
unassigned opcode or function, or a field left unused that is not zero (R247–R249). -/
def depDecode (pair : Fin 24) (w imm : BitVec 16) : Option Instr :=
  let d : Fin 8 := Fin.ofNat 8 (w.toNat / 2 ^ 8)
  let y : Fin 2 := Fin.ofNat 2 (w.toNat / 2 ^ 8)
  let n : Fin 2 := Fin.ofNat 2 (w.toNat / 2 ^ 7)
  let r : Fin 8 := Fin.ofNat 8 (w.toNat / 2 ^ 5)
  let i : Byte := w.truncate 8
  let u : BitVec 7 := w.truncate 7
  let when_ (zero : Bool) (c : Instr) : Option Instr := if zero then some c else none
  let bare := decide (d.val = 0 ∧ i = 0)
  let oneBit := decide (d.val < 2)
  match w.toNat / 2 ^ 11 with
  | 0x00 => when_ bare (.depNop pair)
  | 0x01 => some (.depMovi pair d i)
  | 0x02 => some (.depAddi pair d i)
  | 0x03 => some (.depAndi pair d i)
  | 0x04 => some (.depOri pair d i)
  | 0x05 => some (.depXori pair d i)
  | 0x06 => some (.depCeqi pair d i)
  | 0x07 => some (.depCltui pair d i)
  | 0x08 => depAluDecode pair (i.toNat % 2 ^ 5) d r
  | 0x09 => some (.depLd pair d n u)
  | 0x0A => some (.depSt pair d n u)
  | 0x0B => some (.depLdp pair d n u)
  | 0x0C => some (.depStp pair d n u)
  | 0x0D => when_ oneBit (.depLdq pair d n u)
  | 0x0E => when_ oneBit (.depStq pair d n u)
  | 0x0F => when_ (oneBit && decide (i = 0)) (.depLdy pair y imm)
  | 0x10 => when_ oneBit (.depYaddi pair y i)
  | 0x11 => when_ (decide (i.toNat < 2)) (.depMovyg pair (Fin.ofNat 2 i.toNat) d)
  | 0x12 => when_ (oneBit && decide (i.toNat % 2 ^ 5 = 0)) (.depMovgy pair y r)
  | 0x13 => some (.depBz pair d i)
  | 0x14 => some (.depBnz pair d i)
  | 0x15 => when_ bare (.depJmp pair imm)
  | 0x16 => when_ bare (.depCall pair imm)
  | 0x17 => when_ bare (.depRet pair)
  | 0x18 => when_ bare (.depReti pair)
  | 0x19 => when_ (decide (d.val = 0 ∧ i.toNat < 2)) (.depSetie pair (decide (i.toNat = 1)))
  | 0x1A => when_ bare (.depWaite pair)
  | _ => none

/-- A word of opcode, field D and operand (R248). -/
def depWord (op d operand : Nat) : BitVec 16 := BitVec.ofNat 16 (op * 2 ^ 11 + d * 2 ^ 8 + operand)

/-- A word of an ALU function (R248, R249). -/
def depAluWord (fn : Nat) (d r : Fin 8) : BitVec 16 := depWord 0x08 d.val (r.val * 2 ^ 5 + fn)

/-- A word that names an offset from a Y register (R248). -/
def depAddrWord (op : Nat) (d : Fin 8) (y : Fin 2) (u : BitVec 7) : BitVec 16 := depWord op d.val (y.val * 2 ^ 7 + u.toNat)

/-- The words of a Deputy instruction: its word and its immediate, 0 where it has none (R248, R249); none of other commands. -/
def depWords : Instr → Option (BitVec 16 × BitVec 16)
  | .depNop _ => some (depWord 0x00 0 0, 0)
  | .depMovi _ d i => some (depWord 0x01 d.val i.toNat, 0)
  | .depAddi _ d i => some (depWord 0x02 d.val i.toNat, 0)
  | .depAndi _ d i => some (depWord 0x03 d.val i.toNat, 0)
  | .depOri _ d i => some (depWord 0x04 d.val i.toNat, 0)
  | .depXori _ d i => some (depWord 0x05 d.val i.toNat, 0)
  | .depCeqi _ d i => some (depWord 0x06 d.val i.toNat, 0)
  | .depCltui _ d i => some (depWord 0x07 d.val i.toNat, 0)
  | .depAluMov _ d r => some (depAluWord 0x00 d r, 0)
  | .depAluAdd _ d r => some (depAluWord 0x01 d r, 0)
  | .depAluSub _ d r => some (depAluWord 0x02 d r, 0)
  | .depAluAnd _ d r => some (depAluWord 0x03 d r, 0)
  | .depAluOr _ d r => some (depAluWord 0x04 d r, 0)
  | .depAluXor _ d r => some (depAluWord 0x05 d r, 0)
  | .depAluShl _ d r => some (depAluWord 0x06 d r, 0)
  | .depAluShr _ d r => some (depAluWord 0x07 d r, 0)
  | .depAluSar _ d r => some (depAluWord 0x08 d r, 0)
  | .depAluCeq _ d r => some (depAluWord 0x09 d r, 0)
  | .depAluCne _ d r => some (depAluWord 0x0A d r, 0)
  | .depAluCltu _ d r => some (depAluWord 0x0B d r, 0)
  | .depAluClt _ d r => some (depAluWord 0x0C d r, 0)
  | .depAluCleu _ d r => some (depAluWord 0x0D d r, 0)
  | .depAluCle _ d r => some (depAluWord 0x0E d r, 0)
  | .depAluNot _ d r => some (depAluWord 0x0F d r, 0)
  | .depAluAddw _ d r => some (depAluWord 0x10 d r, 0)
  | .depAluSubw _ d r => some (depAluWord 0x11 d r, 0)
  | .depAluCeqw _ d r => some (depAluWord 0x12 d r, 0)
  | .depAluCltuw _ d r => some (depAluWord 0x13 d r, 0)
  | .depAluMulu _ d r => some (depAluWord 0x14 d r, 0)
  | .depAluCarry _ d r => some (depAluWord 0x15 d r, 0)
  | .depLd _ d y u => some (depAddrWord 0x09 d y u, 0)
  | .depSt _ d y u => some (depAddrWord 0x0A d y u, 0)
  | .depLdp _ d y u => some (depAddrWord 0x0B d y u, 0)
  | .depStp _ d y u => some (depAddrWord 0x0C d y u, 0)
  | .depLdq _ d y u => some (depAddrWord 0x0D d y u, 0)
  | .depStq _ d y u => some (depAddrWord 0x0E d y u, 0)
  | .depLdy _ y imm => some (depWord 0x0F y.val 0, imm)
  | .depYaddi _ y i => some (depWord 0x10 y.val i.toNat, 0)
  | .depMovyg _ y d => some (depWord 0x11 d.val y.val, 0)
  | .depMovgy _ y d => some (depWord 0x12 y.val (d.val * 2 ^ 5), 0)
  | .depBz _ d i => some (depWord 0x13 d.val i.toNat, 0)
  | .depBnz _ d i => some (depWord 0x14 d.val i.toNat, 0)
  | .depJmp _ imm => some (depWord 0x15 0 0, imm)
  | .depCall _ imm => some (depWord 0x16 0 0, imm)
  | .depRet _ => some (depWord 0x17 0 0, 0)
  | .depReti _ => some (depWord 0x18 0 0, 0)
  | .depSetie _ on => some (depWord 0x19 0 (b2n on), 0)
  | .depWaite _ => some (depWord 0x1A 0 0, 0)
  | _ => none

/-- The instruction that a pair fetches next (R248): none where the fetch fails (R247), `some none` for an ILLEGAL word. -/
def depNext (pair : Fin 24) (s : State) : Option (Option Instr) :=
  let pc := (s.deputy pair.val).master.pc.toNat
  let word (a : Nat) : Option (BitVec 16) :=
    if a % 2 ≠ 0 ∨ 0x4000 ≤ a then none
    else match (depMemRead pair.val a 2 .fetch s).1 with
      | .ok bs => some (BitVec.ofNat 16 (numOf bs))
      | .error _ => none
  (word pc).map fun w => depDecode pair w ((word (pc + 2)).getD 0)

end Sys2Proof.Machine
end

