-- ==== Sys2Proof/Machine/Pins.lean ====
section
/-!
DEFINITION. Sys2Proof/Machine/Pins.lean: what the output pins carry in a state: clocks (R206, R215, R223), modulators and the pilot (R218–R221,
R236), the Refuge route's signal (R226–R230), TDM frames (R210), and the FAULT, CORE_LOCK, RLY and VID pins (R407, R162, R286, R486), with the
pins of a halt (R428) and of a reset (R445). Pins follow from the state; no command reads them (log 72).
-/

namespace Sys2Proof.Machine

/-- Outputs follow their units: boot is complete, the device is not dormant and no supply is low (R386, R445, R475). -/
def outputsLive (s : State) : Bool := decide (s.life.phase = .running) && !s.life.supplyLow

/-- The I/O supplies of the balls (R474, R475): 1.8 V for every class but S33, O33 and OD33. -/
inductive IoSupply where
  | io18 | io33
  deriving DecidableEq, Repr

/-- The I/O supply of a ball is up (R475, R484). Until it is, the ball is at high impedance and only its pull resistor acts. -/
def ioUp (r : IoSupply) (s : State) : Bool :=
  !(s.life.supplyLow && s.life.ioLow.testBit (match r with | .io18 => 0 | .io33 => 1))

/-! ### Clocks -/

/-- The frequency in Hz of a clock of the front end, none while it is low: it runs while PD60 is ON, boot and BOOT_HOLD included (R444, R445), and
is low during a halt (R428). -/
def frontEndClock (hz : Nat) (s : State) : Option Nat := if frontEndOn s && !s.life.supplyLow && !halted s then some hz else none

/-- MCLK_OUT[0] and MCLK_OUT[1] (R206). -/
def mclkOut (s : State) : Option Nat := frontEndClock 24576000 s

/-- PDM_CLK[g], which serves microphones 8g to 8g + 7 and runs from the boundary at which its group's GROUP_EN takes effect (R215, R217). -/
def pdmClock (g : Nat) (s : State) : Option Nat := if bit (s.effReg pgPdm 0x040) g then frontEndClock 3072000 s else none

/-- SNS_CLK[g], on which the streams of channels 16g to 16g + 15 are latched (R223). -/
def snsClock (s : State) : Option Nat := frontEndClock 6144000 s

/-! ### TDM frames -/

/-- The bits that a slot carries for a sample, first bit first (R210): the sample's upper 16 bits, its 24 bits, or these and 8 zeros. -/
def slotBits (width : Nat) (v : W24) : List Bool := (List.range width).map fun i => decide (i < 24) && bit (v.zeroExtend 32) (23 - i)

/-- Data is driven on the falling edge of BCLK, or on the rising one with BCLK_INV (R210). -/
def drivenOnRising (n : Nat) (s : State) : Bool := bit (s.effReg (pgTdm n) 0x040) 5

/-- DOUT over a frame of port `n` in sample period `i`, none at high impedance, by BCLK period from the FSYNC edge, each period beginning
with the edge of `drivenOnRising`: DELAY puts the first slot one period later (R210, R213). -/
def doutBit (n i k : Nat) (s : State) : Option Bool :=
  let cfg := s.effReg (pgTdm n) 0x040
  let w := tdmWidth cfg
  let frame := (fld cfg 8 5 + 1) * w
  let at_ := (k + frame - fld cfg 3 1) % frame
  if !ioUp .io18 s then none
  else (tdmSends n (at_ / w) i s).map fun v => (slotBits w v).getD (at_ % w) false

/-- FSYNC of a master port, by BCLK period: high for one period, or for the first half of the frame (R214). -/
def fsyncHigh (n k : Nat) (s : State) : Bool :=
  let cfg := s.effReg (pgTdm n) 0x040
  let frame := (fld cfg 8 5 + 1) * tdmWidth cfg
  if bit cfg 4 then decide (k < frame / 2) else decide (k = 0)

/-- The island-43 cycles of one BCLK period of a master port: 4096 of them make a frame at 48 kHz, 2048 at 96 kHz (R206, R211). -/
def bclkCycles (n : Nat) (s : State) : Nat :=
  let cfg := s.effReg (pgTdm n) 0x040
  (if rate96 s then 2048 else 4096) / ((fld cfg 8 5 + 1) * tdmWidth cfg)

/-! ### The pilot and the modulators -/

/-- The media-clock step at which carrier period `j` of channel `c` begins in a shift, and its middle (R218). -/
def carrierStart (c j : Nat) : Nat := c % 8 * 500 + 4000 * j
def carrierMiddle (c j : Nat) : Nat := carrierStart c j + 2000

/-- The modulator delay D in media-clock steps: 20.0 µs, or 26.0 µs with FILT = 1 (R219). -/
def modulatorDelay (c : Nat) (s : State) : Nat := if bit (s.effReg (pgPwm c) 0x040) 2 then 39936 else 30720

/-- The STATE that the pins of channel `c` follow is PLAY (R220, R236). -/
def channelPlays (c : Nat) (s : State) : Bool := decide (fld (pwmStat c s) 0 2 = 2) && !halted s && !refugeDrives c s

/-- The amplitude of the pilot in 1/64 of full scale, by the COR_CTRL in effect in the interval; 0 while it is absent (R236, R243). -/
def pilotLevel (c : Nat) (s : State) : Nat :=
  if bit (s.ivlReg (pgCor c) 0x040) 8 && channelPlays c s then fld (s.ivlReg (pgCor c) 0x040) 0 4 else 0

/-- The pilot's sine at a media-clock step of a shift, in units of a sample (R236): 51,200 steps are one cycle of 30 kHz and a shift holds 20 of
them, so that the phase runs on across boundaries; the phase itself is free (log 72). -/
def pilotAt (c step : Nat) (s : State) : Int :=
  pilotLevel c s * 2 ^ 17 * (turn (step + Config.pilotPhase c) 51200).2 / trigOne

/-- The blocks that a modulator carries in a shift: the end of the last one, and the present one (R72, R219). -/
def carriedBlocks (c : Nat) (s : State) : List W24 × List W24 := (sparseGet [] s.aud.before c, sparseGet [] s.aud.play c)

/-- A modulator's input is all zero over what it carries in the shift. -/
def silent (c : Nat) (s : State) : Bool :=
  let b := carriedBlocks c s
  b.1.all (fun v => decide (v = 0)) && b.2.all (fun v => decide (v = 0)) && decide (pilotLevel c s = 0)

/-- The sample that carrier period `j` carries: of the sample period in which the period's middle lies D earlier (R219). -/
def carriedSample (c j : Nat) (s : State) : W24 :=
  let b := carriedBlocks c s
  let n := blockLen s
  let period := 1024000 / n
  let at_ := carrierMiddle c j + 1024000 - modulatorDelay c s
  if at_ < 1024000 then b.1.getD (at_ / period) 0 else b.2.getD (at_ / period - n) 0

/-- q of carrier period `j` in PLAY (R218, R219): the carried sample and the pilot at 1900 for 2^23, moved by the interpolation and the noise
shaper, whose filters the rule does not give (log 72), and held within ±1900. Silence gives 0. -/
def carrierQ (c j : Nat) (s : State) : Int :=
  if silent c s then 0
  else
    let x := (carriedSample c j s).toInt + pilotAt c (carrierMiddle c j) s
    clampInt (-1900) 1900 (x * 1900 / 2 ^ 23 + Config.shaped c (bit (s.effReg (pgPwm c) 0x040) 2) (carriedBlocks c s) j)

/-- A pair of pins over one carrier period: held low, or high for so many steps each, both pulses centred on the middle of the period. -/
inductive PinPair where
  | low
  | pulses (a b : Nat)
  deriving DecidableEq, Repr

/-- The pulses of a period of 2 × `half` steps for q (R218, R226). -/
def pulsePair (half : Nat) (q : Int) : PinPair := .pulses (half + q).toNat (half - q).toNat

/-! ### The Refuge route's signal -/

/-- The level that GAIN bounds, at a time in ns after the present ramp began at level `start` (R229, R230). -/
def refugeLevel (start elapsed : Nat) (s : State) : Nat :=
  let gain := fld (s.reg pgRfg 0x040) 16 16
  let moved := gain * elapsed / 10000000
  if !refugeBit 0 s || s.aud.refugeReturn then 0
  else if s.aud.refugeRise then min gain (start + moved)
  else if s.aud.refugeFall then start - moved
  else gain

/-- The tone at the route's carrier period `n` since its segment began (R228): a sine of FREQ, or silence; its amplitude and its phase at the
segment's start are free (log 72). -/
def refugeTone (n : Nat) (s : State) : Int :=
  let seg := s.reg pgRfg (0x050 + 4 * s.aud.refugeSegment)
  if fld seg 8 12 = 0 ∨ fld seg 0 8 = 0 then 0
  else Config.toneAmplitude * (turn (fld seg 8 12 * n + Config.tonePhase s.aud.refugeSegment) 384000).2 / trigOne

/-- The value that the route plays before GAIN (R228): the tone, the slot's last sample, or nothing where the source is lost without FALLBACK. -/
def refugeValue (n : Nat) (s : State) : Int :=
  if refugeOnTone s then refugeTone n s
  else if refugeBit 4 s then 0
  else s.aud.refugeSample.toInt

/-- q of the Refuge modulator (R226): the played value times the level, at 243 for 2^23, moved by its noise shaper and held within ±243; a value of
0 plays q = 0 (R228, log 72). -/
def refugeQ (n start elapsed : Nat) (s : State) : Int :=
  let x := refugeValue n s * refugeLevel start elapsed s
  if x = 0 then 0 else clampInt (-243) 243 (x * 243 / 2 ^ 39 + Config.refugeShaped n)

/-- A halt leaves the Refuge route running (R427). -/
def refugeInHalt (s : State) : Bool := bit (s.reg pgDbg 0x040) 27

/-- The pins of channel `c` over one carrier period: period `j` of the shift, or the route's period `n` since its segment began, its ramp having
begun at level `start` `elapsed` ns ago, low on the pull-downs before their supply (R220, R221, R226, R428, R445, R475). -/
def pwmPins (c j n start elapsed : Nat) (s : State) : PinPair :=
  if !ioUp .io18 s then .low
  else if refugeDrives c s then pulsePair 256 (if halted s && !refugeInHalt s then 0 else refugeQ n start elapsed s)
  else if !outputsLive s then .low
  else if halted s then pulsePair 2000 0
  else match fld (pwmStat c s) 0 2 with
    | 1 => pulsePair 2000 0
    | 2 => pulsePair 2000 (carrierQ c j s)
    | _ => .low

/-! ### Safety and supply pins -/

/-- What FAULT_A and FAULT_B show (R407): both low on their pull-downs (R475), a level of FAULT_A whose complement is FAULT_B, or the pattern
of a debug halt. -/
inductive FaultPins where
  | pulledLow
  | level (a : Bool)
  | service
  deriving DecidableEq, Repr

/-- FAULT_A and FAULT_B: pulled low before VDDIO33 is up (R475), SERVICE in a halt, low and high while STATIC, else the level of the last
boundary's edge (R407). -/
def faultPins (s : State) : FaultPins :=
  if !ioUp .io33 s then .pulledLow
  else if halted s then .service
  else if s.guard.safe || s.guard.static || !outputsLive s then .level false
  else .level s.guard.level

/-- FAULT_A within SERVICE, at a time in ns since the halt: 8 periods of 3 kHz in 2.667 ms, then low for as long (R407). -/
def serviceLevel (t : Nat) : Bool :=
  let u := 3 * t % 16000000
  decide (u < 8000000) && decide (u % 1000000 < 500000)

/-- CORE_LOCK: asserted while any Hewer or Overman is in lockup (R162), and not before boot completes (R445). -/
def coreLockPin (s : State) : Bool := outputsLive s && coreLock s

/-- RLY[31:0] (R286, R445). -/
def relayPins (s : State) : W32 := if outputsLive s then s.guard.relays else 0

/-- XSPI_RESET_N: low throughout every reset assertion (R482); none at high impedance. -/
def xspiResetPin (s : State) : Option Bool := if ioUp .io18 s then some (decide (s.life.phase ≠ .asserted)) else none

/-- VID[5:0]: the highest VDD_CORE code needed; 50 from reset until boot completes (R389, R445, R486); none while it is not driven (R471). -/
def vidPins (s : State) : Option Nat :=
  if !ioUp .io18 s then none
  else match s.life.phase with
    | .running | .dormant => some s.nrg.vid
    | _ => some 50

end Sys2Proof.Machine
end

