-- ==== Sys2Proof/Machine/Wire.lean ====
section
/-!
DEFINITION. Sys2Proof/Machine/Wire.lean: the packets of the debug wire (R418–R421): the meaning of a low, cells, fields, the CRC, requests and
responses. A command of the debug port is one whole request; these definitions say which bits spell it, and what bits that spell none get (log 51).
-/

namespace Sys2Proof.Machine

/-! ### Lows and cells -/

/-- What a low level on NRST_DW is, by its length (R418). -/
inductive Low where
  | cell | brk | reset
  deriving DecidableEq, Repr

/-- The class of a low of so many ns (R418). -/
def lowClass (ns : Nat) : Low := if ns < 2000 then .cell else if ns < 20000 then .brk else .reset

/-- The bit of a cell whose low lasts so many ps: the wire is sampled 62.5 ns after the edge (R419). -/
def cellBit (low : Nat) : Bool := decide (62500 < low)

/-- The bits of the packet that begins at the first of these cells, each with its start and the length of its low in ps: a cell that does not start
within 250 ns of the one before ends the packet (R419). -/
def packetBits : List (Nat × Nat) → List Bool
  | [] => []
  | [x] => [cellBit x.2]
  | x :: y :: rest => cellBit x.2 :: (if x.1 + 250000 < y.1 then [] else packetBits (y :: rest))

/-! ### Fields -/

/-- A field of `n` bits, least significant first (R419). -/
def fieldBits (n v : Nat) : List Bool := (List.range n).map fun i => v.testBit i

/-- The number that bits spell, least significant first. -/
def bitsValue : List Bool → Nat
  | [] => 0
  | b :: rest => b2n b + 2 * bitsValue rest

/-- One bit of the CRC-8 with polynomial 0x07 (R421). -/
def crc8Shift (c : Byte) : Byte := if bit (c.zeroExtend 32) 7 then (c <<< 1) ^^^ 0x07#8 else c <<< 1

/-- CRC-8 over bytes (R421). -/
def crc8 (bs : List Byte) : Byte := bs.foldl (fun c b => (List.range 8).foldl (fun c _ => crc8Shift c) (c ^^^ b)) 0

/-! ### Requests -/

/-- A well-formed request (R420). -/
inductive WireRequest where
  | dread (off : BitVec 12)
  | dwrite (off : BitVec 12) (data : W32)
  | mread (addr : W32) (size : Fin 3)
  | mwrite (addr : W32) (size : Fin 3) (data : W32)
  | poll
  deriving DecidableEq, Repr

/-- The fields before the CRC, in bytes (R420, R421). -/
def requestBytes : WireRequest → List Byte
  | .dread off => 0x18#8 :: bytesOf 4 off.toNat
  | .dwrite off data => 0x28#8 :: bytesOf 4 off.toNat ++ bytesOf 4 data.toNat
  | .mread addr size => BitVec.ofNat 8 (0x30 + 4 * size.val) :: bytesOf 4 addr.toNat
  | .mwrite addr size data => BitVec.ofNat 8 (0x40 + 4 * size.val) :: bytesOf 4 addr.toNat ++ bytesOf 4 data.toNat
  | .poll => [0x50#8]

/-- The bits of bytes on the wire. -/
def wireBitsOf (bs : List Byte) : List Bool := bs.flatMap fun b => fieldBits 8 b.toNat

/-- The bits of a request (R420, R421). -/
def requestBits (r : WireRequest) : List Bool := wireBitsOf (requestBytes r ++ [crc8 (requestBytes r)])

/-- The bytes of a packet before its CRC, by its operation: ADDRESS is omitted for POLL, and DATA sent by the writes only (R420). -/
def bodyLength (op : Nat) : Nat := 1 + (if op = 5 then 0 else 4) + (if op = 2 ∨ op = 4 then 4 else 0)

/-- A request of fields whose CRC is right; none where it is malformed (R420, R421). -/
def requestOf (command : Nat) (addr data : Nat) : Option WireRequest :=
  let size := command / 4 % 4
  let off : BitVec 12 := BitVec.ofNat 12 addr
  if h : command % 4 = 0 ∧ size < 3 then
    let z : Fin 3 := ⟨size, h.2⟩
    match command / 16 with
    | 1 => if size = 2 then some (.dread off) else none
    | 2 => if size = 2 then some (.dwrite off (w32 data)) else none
    | 3 => some (.mread (w32 addr) z)
    | 4 => some (.mwrite (w32 addr) z (w32 data))
    | 5 => some .poll
    | _ => none
  else none

/-- The bytes of whole groups of eight bits. -/
def packetBytes : Nat → List Bool → List Byte
  | 0, _ => []
  | n + 1, bits => BitVec.ofNat 8 (bitsValue (bits.take 8)) :: packetBytes n (bits.drop 8)

/-- What a packet asks for: none for an incomplete one, which is discarded; a request; or the ACK of a packet that is no request, CRC before
FAULT (R419, R421). Bits beyond the request are not looked at. -/
def packetRequest (bits : List Bool) : Option (Except Ack WireRequest) :=
  let command := bitsValue (bits.take 8)
  let n := bodyLength (command / 16)
  if bits.length < 8 ∨ bits.length < 8 * (n + 1) then none
  else
    let bs := packetBytes (n + 1) bits
    if crc8 (bs.take n) ≠ bs.getD n 0 then some (.error .crc)
    else match requestOf command (numOf ((bs.drop 1).take 4)) (numOf ((bs.drop 5).take 4)) with
      | some r => some (.ok r)
      | none => some (.error .fault)

/-- A request performed: what its command does (R420–R422). -/
def requestEffect (late : Bool) : WireRequest → State → State
  | .dread off => wireRead off.toNat
  | .dwrite off data => wireStep (wireWrite off.toNat data)
  | .mread addr size => debugAccess false addr.toNat size.val 0 late
  | .mwrite addr size data => wireStep (debugAccess true addr.toNat size.val data late)
  | .poll => debugPoll

/-- A packet reaches the device (R419–R421). -/
def packetEffect (late : Bool) (bits : List Bool) (s : State) : State :=
  match packetRequest bits with
  | none => s
  | some (.error a) => wireReply a none s
  | some (.ok r) => requestEffect late r s

/-! ### Responses -/

/-- The bits of a response (R421): ACK, and for a read answered OK or POISON the data and a CRC. -/
def responseBits (r : WireReply) : List Bool :=
  fieldBits 3 r.ack.toNat ++ (match r.data with
    | some v =>
      let bs := bytesOf 4 v.toNat
      wireBitsOf (bs ++ [crc8 (BitVec.ofNat 8 r.ack.toNat :: bs)])
    | none => [])

end Sys2Proof.Machine
end

