-- ==== Sys2Proof/Safety.lean ====
section
/-!
DEFINITION. Sys2Proof/Safety.lean: the terms in which statements speak: what a command's effect is, beside what follows every command
(the Bell, the trace, the counters and a halt on SAFE), the canonical form of the memories, and when a thread's bundle or a bus write is
performed.
-/

namespace Sys2Proof.Safety

open Sys2Proof.Machine

/-! ### Effects -/

/-- Registers that the Bell and the trace may change after any command: DEP_PEND.BELL and DEP_BELL_NO of a pair (R250), and the trace's
count of lost entries (R434). -/
def bellReg (p off : Nat) : Bool :=
  (decide (p = pgDbg) && decide (off = 0x0B4))
    || (decide (0x180 ≤ p) && decide (p < 0x200) && (decide (off = 0x060) || decide (off = 0x064)))

/-- Registers that may change beside: the performance counters (R436–R438), and a halt request on SAFE or a lockup (R426). -/
def sideReg (p off : Nat) : Bool :=
  bellReg p off || (decide (p = pgDbg) && (decide (off = 0x040) || decide (off = 0x080)))
    || (decide (0x360 ≤ p) && decide (p < 0x386))

/-- `t` is `e` up to the free counter, the trace, the asserted Bell sources, the bandwidth monitors' counts (R439) and registers of `exempt`. -/
def SameBut (exempt : Nat → Nat → Bool) (e t : State) : Prop :=
  t = { e with regs := t.regs, free := t.free, bell := t.bell, dbg := { e.dbg with trace := t.dbg.trace, bytes := t.dbg.bytes } }
    ∧ ∀ p off, off % 4 = 0 → off < 0x800 → exempt p off = false → t.reg p off = e.reg p off

/-- The command answers the next state `e`, up to the Bell and the trace. -/
def Answers (c : Instr) (s e : State) : Prop := ∃ t, exec c s = .next t ∧ SameBut bellReg e t

/-- The command answers the next state `e`, up to the Bell, the trace, the counters and a halt request. -/
def Reaches (c : Instr) (s e : State) : Prop := ∃ t, exec c s = .next t ∧ SameBut sideReg e t

/-- The requester's 32-bit access of the register at `off` of page `p` is performed: the fabric is up, the master can issue, the page exists, the register
window's checker allows it (R31, R32, R331). -/
structure Admitted (q : Requester) (k : AccKind) (p off : Nat) (s : State) : Prop where
  up : fabricUp s = true
  sender : masterIssues q.master.toNat s = true
  page : (pageKind p).isSome = true
  aligned : off % 4 = 0
  offset : off < 0x800
  allowed : mpuDecide 76 (settledRequester q) k (regAddr p off) s = none

/-- The write is answered and leaves the state `e`, up to the Bell and the trace. -/
def Writes (c : Instr) (s e : State) : Prop := Answers c s (e.setAnswer (.done none))

/-- The read is answered with `v` and leaves the state `e`, up to the Bell and the trace. -/
def Reads (c : Instr) (s : State) (v : W32) (e : State) : Prop := Answers c s (e.setAnswer (.done (some v)))

/-- A register with one field set: bits `lo` to `lo + w - 1` hold `x`. -/
def withField (v : W32) (lo w x : Nat) : W32 := (v &&& ~~~(BitVec.ofNat 32 ((2 ^ w - 1) * 2 ^ lo))) ||| BitVec.ofNat 32 (x % 2 ^ w * 2 ^ lo)

/-- A Bell event is asserted by the device: a page whose source it is has an enabled event set (R37, R414), or it is a software event
that is set (R417). -/
def sourceAsserted (e : Nat) (s : State) : Prop :=
  (∃ p, pageSource p = some e ∧ pageAsserts p s = true) ∨ (∃ k, k < 16 ∧ e = 296 + k ∧ bit (s.reg pgBel 0x068) k = true)

/-- The Bell sources that the state holds as asserted are those that the registers assert, unless a halt has stopped the Bell (R427, R429). -/
def BellAgrees (s : State) : Prop := halted s = false → ∀ e, e ∈ s.bell ↔ sourceAsserted e s

/-! ### Memories -/

/-- The memories are in canonical form (the lists of State.Mem). -/
def memWf (m : Mem) : Bool :=
  sparseWf 0 m.data && sparseWf noWord m.words && sparseWf 0 m.parity && sparseWf flashBlank m.flash && sparseWf 0 m.ustore

/-! ### Bundles -/

/-- A thread is poised for a bundle of one syllable: it may issue, the syllable ends its bundle (R97), no earlier syllable of the bundle, no
repeat and no return is in progress, and the lines that hold the bundle are at hand, with the line after the first of them where S0 covers it
(R90, R91, R151). -/
structure Poised (i : Issue) (s : State) : Prop where
  issue : mayIssue i.hart s = true
  stop : i.stop = true
  buf : (s.thread i.hart).buf = []
  rep : (s.thread i.hart).rep = none
  resume : (s.thread i.hart).resume = none
  fetch : ∃ l, fetchFrom i.hart (s.thread i.hart) (1 + b2n i.ext.isSome) (s.thread i.hart).pc.toNat s = .ok l
  next : wantsNext (s.thread i.hart) (segAddr ((s.thread i.hart).sReg 0) (s.thread i.hart).pc.toNat / 64) = false

/-- A thread is ready for a bundle of one syllable: poised, outside a locked sequence (R134). -/
structure Ready (i : Issue) (s : State) : Prop extends Poised i s where
  unlocked : (s.thread i.hart).locked = false

/-- The offset after the syllable and its EXT. -/
def nextPc (i : Issue) (t : Thread) : W24 := t.pc + BitVec.ofNat 24 (4 * (1 + b2n i.ext.isSome))

/-- What stays of a thread whose bundle has retired: the product latch of the bundle before has landed and this one's product is in it (R80,
R147), the writes are performed together (R81), the thread goes on at `pc`; nothing else changes but the line buffer and the count of retired
bundles. -/
def Retired (t u : Thread) (pc : W24) (product : Option Product) (ws : List RegWrite) : Prop :=
  ∃ lines, u = { Thread.writeAll { flushLatch t with latch := product.toList } ws with
    pc := pc, buf := [], hold := .none, agreed := none, resume := none, block := none, afterRetx := false, retired := t.retired + 1,
    lineBuf := lines, entering := none }

/-- The command's bundle retires to `pc` with a product and the registers `ws` written: nothing beside the thread changes. -/
def RetiresTo (c : Instr) (i : Issue) (s : State) (pc : W24) (product : Option Product) (ws : List RegWrite) : Prop :=
  ∃ u, Retired (s.thread i.hart) u pc product ws ∧ Reaches c s (s.setThread i.hart u)

/-- The command's bundle retires and writes the registers `ws`: nothing beside the thread changes. -/
def Retires (c : Instr) (i : Issue) (s : State) (ws : List RegWrite) : Prop :=
  ∃ u, Retired (s.thread i.hart) u (nextPc i (s.thread i.hart)) none ws ∧ Reaches c s (s.setThread i.hart u)

/-- The 24-bit immediate of a DDI syllable: IMM12 sign- or zero-extended, or with an EXT its LIMM below IMM12's bits 1:0 (R101, R106). -/
def immediate (i : Issue) (imm : BitVec 12) (signed : Bool) : W24 :=
  match i.ext with
  | some l => (imm.setWidth 2 ++ l : BitVec 24)
  | none => if signed then imm.signExtend 24 else imm.setWidth 24

/-- The immediate field is in order: extended, only its bits 1:0 may be set (R106). -/
def immediateOk (i : Issue) (imm : BitVec 12) : Prop := i.ext.isSome = true → imm >>> 2 = 0

/-- An integer saturated to 24 bits (R116). -/
def saturated (x : Int) : W24 := BitVec.ofInt 24 (max (-8388608) (min 8388607 x))

/-- The product of two D registers with the FN bits U1, U2 and FRAC (R121). -/
def productOf (fn : Nat) (a b : W24) : Int :=
  let x : Int := if fn.testBit 0 then (a.toNat : Int) else a.toInt
  let y : Int := if fn.testBit 1 then (b.toNat : Int) else b.toInt
  if !fn.testBit 2 then x * y
  else if fn.testBit 0 = false ∧ fn.testBit 1 = false ∧ a = 0x800000 ∧ b = 0x800000 then 2 ^ 47 - 1 else x * y * 2

/-- The extraction of R122: an accumulator scaled, rounded unless `trunc`, and saturated. -/
def extracted (x : W56) (sh : Nat) (trunc : Bool) : W24 := saturated ((x.toInt * 2 ^ sh + (if trunc then 0 else 2 ^ 23)) / 2 ^ 24)

/-- The target of a BR syllable (R102, R106). -/
def branchTarget (i : Issue) (f : FBr) (pc : W24) : W24 :=
  match i.ext with
  | some l => (f.disp.setWidth 2 ++ l : BitVec 24)
  | none => pc + BitVec.ofInt 24 (4 * f.disp.toInt)

/-- `v` is the byte permute of the pair `a`, `b` under a selector, with the flag of the registers that supply a byte (R119). -/
def permuted (a b : Val 24) (sel : W24) (v : Val 24) : Prop :=
  let pick (j : Nat) : Nat := sel.toNat / 8 ^ j % 8
  (∀ j < 3, (v.bits >>> (8 * j)).setWidth 8
    = if pick j < 3 then (a.bits >>> (8 * pick j)).setWidth 8
      else if pick j < 6 then (b.bits >>> (8 * (pick j - 3))).setWidth 8 else (0 : Byte))
  ∧ (v.poison = true ↔ (a.poison = true ∧ ∃ j < 3, pick j < 3) ∨ (b.poison = true ∧ ∃ j < 3, 3 ≤ pick j ∧ pick j < 6))

/-! ### Exceptions -/

/-- A thread after the entry of an exception (R85, R136, R157, R173): `vec` is the vector offset. -/
structure Entered (t u : Thread) (xcause : W32) (vec : W24) : Prop where
  xpc : u.xpc = t.pc
  xsr : u.xsr = (t.sr &&& 0x00FFFF7F#32) ||| (if bit t.sr 0 then 0x01000000#32 else 0)
  xcause : u.xcause = xcause
  xinfo : t.rep = none → t.block = none → u.xinfo = 0
  sr : u.sr = (t.sr &&& ~~~0x83#32) ||| 1#32
  pc : u.pc = vec
  regs : u.a = t.a ∧ u.d = t.d ∧ u.x = t.x ∧ u.s = t.s ∧ u.p = (flushLatch t).p ∧ u.rc = t.rc ∧ u.bn = t.bn
  fresh : u.buf = [] ∧ u.hold = .none ∧ u.rep = none ∧ u.block = none ∧ u.resume = none ∧ u.latch = [] ∧ u.lock = ⟨0, [], [], false⟩
  same : u.running = t.running ∧ u.retired = t.retired
  sig : u.sig.bits = t.sig.bits ∧ u.sig.check = t.sig.check
  parked : u.parked = (t.block.map (·.records)).toList ++ t.parked

/-- The vector line that would serve an entry of the thread by exception was loaded (R159, R162). -/
def vectorReady (h : Hart) (s : State) : Prop := ∀ p, servingPin h.core.val false (s.thread h) s = some p → p.failed = none

/-- The state of an entry once the line after its vector line is requested, where a pinned line serves the entry (R151, R156, R159). -/
def vectorFetched (h : Hart) (int : Bool) (s : State) : State :=
  match servingPin h.core.val int (s.thread h) s with
  | some p => requestNext h p.line s
  | none => s

/-- The vector offset of exceptions in effect (R163). -/
def vector (h : Hart) (s : State) : W24 := BitVec.ofNat 24 (vectorOffset h.core.val false s)

/-- XCAUSE of an exception: CAUSE, SLOT, DETAIL (R86). -/
def causeWord (cause slot detail : Nat) : W32 := w32 (detail * 0x10000 + slot * 0x4000 + cause)

/-- The command takes the exception: the thread enters its handler, and nothing beside it changes but what the request of the line after the
vector line reads. -/
def Traps (c : Instr) (h : Hart) (s : State) (xcause : W32) : Prop :=
  ∃ u, Entered (s.thread h) u xcause (vector h s) ∧ Reaches c s (vectorFetched h false (s.setThread h u))

/-- The same for an exception of an address, which HWR_FAULT_ADDRt receives (R160). -/
def TrapsAt (c : Instr) (h : Hart) (s : State) (xcause : W32) (addr : W32) : Prop :=
  ∃ u, Entered (s.thread h) u xcause (vector h s)
    ∧ Reaches c s (vectorFetched h false ((s.setThread h u).setReg (corePage h.core.val) (0x050 + 4 * h.thread.val) addr))

/-! ### Accesses of slot M -/

/-- The byte displacement of a MEM syllable of access size `n` (R103, R106). -/
def displacement (i : Issue) (f : FMem) (n : Nat) : Int :=
  match i.ext with
  | some l => (f.disp.setWidth 2 ++ l : BitVec 24).toInt
  | none => (n : Int) * f.disp.toInt

/-- The offset that a MEM syllable accesses (R103). -/
def accessOffset (i : Issue) (f : FMem) (n : Nat) (t : Thread) : Int :=
  let a : Int := ((t.aReg f.ab.toNat).toNat : Int)
  if f.am = 0 then a + displacement i f n else if f.am = 1 then a else a + ((t.aReg (f.disp.toNat % 16)).toNat : Int)

/-- The post-modify of the base register (R103). -/
def postModified (i : Issue) (f : FMem) (n : Nat) (t : Thread) : List RegWrite :=
  if f.am = 1 then [wrA f.ab.toNat (t.aReg f.ab.toNat + BitVec.ofInt 24 (displacement i f n))] else []

/-- A word of a bank that a read takes as it stands: its maps agree and no bit is in error (R299, R314). -/
def soundWord (m : Mem) (w : Nat) : Bool :=
  decide ((m.info w).validA = (m.info w).validB) && (decide ((m.decoded w).1 = .clean) || decide ((m.decoded w).1 = .marked))

/-- The byte at an address of a bank, with the mark of its word (R112, R298, R321). -/
def storedByte (m : Mem) (a : Nat) : Byte × Bool := (wordByte (m.decoded (a / 8)).2.1 (a % 8), (m.decoded (a / 8)).2.2)

/-- The number that `n` bytes from an address on spell, and whether any is marked (R93, R112). -/
def storedValue (m : Mem) (a n : Nat) : Nat × Bool :=
  (numOf ((List.range n).map fun k => (storedByte m (a + k)).1), (List.range n).any fun k => (storedByte m (a + k)).2)

/-- The operand fields of a MEM syllable that a form of any size takes: an AM that is not reserved, an EXT only with a displacement (R100, R103,
R106). -/
def memMode (i : Issue) (f : FMem) : Prop :=
  f.am.toNat < 3 ∧ (f.am = 2 → f.disp.toNat < 16 ∧ i.ext = none) ∧ (i.ext.isSome = true → f.disp.toNat < 4)

/-- `n` bytes at an offset of a segment register of a Hewer's thread are bytes of its own Face memory from physical address `p` on, within one
unit of `unit` bytes, and an access of them passes the checks of R90 and of the bank: the segment holds it, the memory is ON and the Hewer's own,
its checker allows it, no panel is retired. -/
structure OwnFace (h : Hart) (sg : Nat) (off : Int) (n unit : Nat) (k : AccKind) (p : Nat) (s : State) : Prop where
  hewer : h.core.val < 32
  place : (p : Int) = (((s.thread h).sReg sg).base.toNat : Int) + off
  low : 0 ≤ off
  high : off + n ≤ ((s.thread h).sReg sg).limit
  bank : bankBase h.core.val ≤ p ∧ p + n ≤ bankBase h.core.val + 0x80000
  unit : p / unit = (p + n - 1) / unit
  allowed : mpuDecide h.core.val ⟨BitVec.ofNat 8 h.core.val, (s.thread h).priv⟩ k p s = none
  panel : panelRetired p s = false
  power : s.array h.core.val = .on
  owner : (s.bank h.core.val).owner.toNat = h.core.val ∧ (s.bank h.core.val).draining = false

/-- A load of `n` bytes of the own Face memory that finds sound words and no pending store of the thread (R94, R149, R314). -/
structure FaceLoad (h : Hart) (sg : Nat) (off : Int) (n unit : Nat) (p : Nat) (s : State) : Prop extends OwnFace h sg off n unit .read p s where
  right : ((s.thread h).sReg sg).readable = true
  sound : ∀ w, p / 8 ≤ w → w ≤ (p + n - 1) / 8 → soundWord s.mem w = true
  settled : ∀ e ∈ (s.core h.core.val).stores, e.thread ≠ h.thread

/-- A store of `n` bytes of the own Face memory with room in the store buffer (R148, R149). -/
structure FaceStore (h : Hart) (sg : Nat) (off : Int) (n unit : Nat) (p : Nat) (s : State) : Prop extends OwnFace h sg off n unit .write p s where
  right : ((s.thread h).sReg sg).writable = true
  room : (s.core h.core.val).stores.length ≤ 14

/-- The bytes of a number, all with one mark. -/
def marked (n v : Nat) (flag : Bool) : List (Byte × Bool) := (bytesOf n v).map fun b => (b, flag)

/-- The record that a store of one element feeds: none through S0 (R173, R174). -/
def storeRecord (sg : Nat) (off : Int) (ek n v : Nat) (flag : Bool) : List SigRec := if sg = 0 then [] else [⟨v, off, ek, sg, n, flag⟩]

/-- The bytes `bs` have been written to sound words of the banks at `p`: those bytes, the marks of the words they lie in, and nothing else (R321). -/
def Written (m m' : Mem) (p : Nat) (bs : List (Byte × Bool)) : Prop :=
  let here (w : Nat) : List (Byte × Bool) := ((bs.zipIdx).filter fun x => decide ((p + x.2) / 8 = w)).map (·.1)
  (∀ a, (storedByte m' a).1 = if p ≤ a ∧ a < p + bs.length then (bs.getD (a - p) (0, false)).1 else (storedByte m a).1)
  ∧ (∀ w, (m'.decoded w).2.2 = ((here w).any (·.2) || ((here w).length ≠ 8 && (m.decoded w).2.2)))
  ∧ (∀ w, here w ≠ [] → soundWord m' w = true) ∧ (∀ w, here w = [] → m'.info w = m.info w) ∧ m'.flash = m.flash ∧ m'.ustore = m.ustore

/-- The command's bundle retires with its store in the store buffer as one entry, whose records have fed the pass signature (R149, R173): the
memory itself is as it was. -/
def Buffers (c : Instr) (i : Issue) (s : State) (p : Nat) (bytes : List (Byte × Bool)) (records : List SigRec) (ws : List RegWrite) : Prop :=
  let t := s.thread i.hart
  let k := s.core i.hart.core.val
  ∃ u, Retired { t with sig := records.foldl feedSig t.sig } u (nextPc i t) none ws
    ∧ Reaches c s ((s.setThread i.hart u).setCore i.hart.core.val { k with stores := k.stores ++ [⟨i.hart.thread, p, bytes, false⟩] })

/-! ### Deputy pairs -/

/-- The lockstep of a pair passes (R251): its comparator and its delay registers are sound, and the cores hold the same. -/
structure DepLockstep (p : Nat) (s : State) : Prop where
  sound : s.comparator (33 + p) = .sound
  delays : sparseGet 0 s.delays p = 0
  agree : (s.deputy p).checker = (s.deputy p).master

/-- A pair is ready for an instruction of `n` words: it executes in lockstep, and the fetch of the words from the code area ends well (R247, R250,
R251). -/
structure DepReady (p n : Nat) (s : State) : Prop extends DepLockstep p s where
  runs : depRuns p s = true
  fetch : depFetch p n (s.deputy p).master.pc.toNat s = (none, s)

/-- The pair with both its cores at `d`. -/
def depBoth (p : Nat) (d : DepCore) (s : State) : State := s.setDeputy p { s.deputy p with master := d, checker := d }

/-- The command leaves both cores of the pair at `d`; nothing else changes. -/
def DepBecomes (c : Instr) (p : Nat) (s : State) (d : DepCore) : Prop := Answers c s (depBoth p d s)

/-- The command brings about a fault of the pair: a restart, or FAILED where it would be the third within 90,000 shifts (R252, R253). Nothing
outside the pair and its page changes. -/
def DepFaults (c : Instr) (p cause : Nat) (s : State) : Prop :=
  let recent := ((s.deputy p).restarts.filter fun r => decide ((shiftNo s - r).toNat < 90000)).length
  let g := pgDep p
  ∃ t, exec c s = .next t
    ∧ (∃ rs, t.deputy p = { s.deputy p with master := idleDepCore, checker := idleDepCore, beats := 0, restarts := rs }
        ∧ rs.length = if recent < 2 then recent + 1 else recent)
    ∧ fld (t.reg g 0x044) 8 4 = cause ∧ fld (t.reg g 0x044) 0 3 = (if recent < 2 then 2 else 3)
    ∧ (∀ k < 4, fld (t.reg g (0x050 + 4 * k)) 0 3 = if recent < 2 then 0 else 5)
    ∧ bit (t.reg g 0x00C) (if recent < 2 then 1 else 2) = true ∧ (recent < 2 → t.reg g 0x060 = 0)
    ∧ t = { s with regs := t.regs, dep := t.dep, free := t.free, bell := t.bell, dbg := { s.dbg with trace := t.dbg.trace, bytes := t.dbg.bytes } }
    ∧ ∀ p' off, p' ≠ g → off % 4 = 0 → off < 0x800 → bellReg p' off = false → t.reg p' off = s.reg p' off

/-- An access of a pair's own memory at offset `a` is allowed (R245, R331). -/
def DepAllowed (p a : Nat) (k : AccKind) (s : State) : Prop :=
  mpuDecide (52 + p) (depRequester p) k (depMem p a) s = none ∧ panelRetired (depMem p a) s = false

/-! ### The debug wire -/

/-- A request of the wire has no effect beside its own: no bundle waits to be fed, and the end of a halt would release nothing (R428, R430, R431). -/
structure WireQuiet (s : State) : Prop where
  feed : bit (s.reg pgDbg 0x09C) 31 = false
  boot : s.life.heldBoot = none
  host : s.pci.held = []

/-- The state with the port's response: its ACK code and data (R421). -/
def wired (ack : BitVec 3) (v : Option W32) (s : State) : State := { s with dbg := { s.dbg with wire := some ⟨ack, v⟩ } }

end Sys2Proof.Safety
end

