-- ==== Sys2Proof/WellFormed.lean ====
section
/-!
DEFINITION. Sys2Proof/WellFormed.lean: the commands that the manual's sender can send: operands within the ranges that their types leave
open. `exec` takes every command, well formed or not.
-/

namespace Sys2Proof

open Sys2Proof.Machine

/-- A thread that the device has: an Overman has threads 0 and 1 (R12, R74). -/
def wfHart (h : Hart) : Bool := decide (h.core.val < 32) || decide (h.thread.val < 2)

/-- A syllable's issue: an EXT only where the syllable takes one (R106). -/
def wfSyl (i : Issue) (takesExt : Bool) : Bool := wfHart i.hart && (takesExt || i.ext.isNone)

/-- What a boundary finds: 32 PDM pins over the 2048 clock periods of a shift, 96 sense pins over 4096 (none where the clock does not run), 64
domains. -/
def wfBoundary (inp : BoundaryIn) : Bool :=
  decide (inp.pdm.length = 32) && decide (inp.sense.length = 96) && decide (inp.use.length = 64)
    && (inp.pdm.all fun l => decide (l = []) || decide (l.length = 2048)) && inp.sense.all fun l => decide (l = []) || decide (l.length = 4096)

/-- What a boot finds: panels of the 76 banks, a bank of the 76, four gauges of each of the 48 islands. -/
def wfBoot (inp : BootIn) : Bool :=
  (inp.inFlight.all fun x => decide (x.1 < 76) && decide (x.2 < 512)) && (inp.badBank.all fun b => decide (b.1 < 76) && decide (b.2 ≤ 8))
    && decide (inp.gauges.length = 48) && inp.gauges.all fun g => decide (g.length = 4)

/-- A page of the register window (R30). -/
def wfPage (p : Nat) : Bool := decide (p < 0x1000)

/-- A well-formed command. -/
def Instr.wellFormed (i : Instr) : Bool :=
  match i with
  | .shiftBoundary inp => wfBoundary inp
  | .intakeEnd => true
  | .primaryEnd => true
  | .shadowEnd => true
  | .verdictEnd => true
  | .drainDeadline => true
  | .aditCopyCutoff => true
  | .crossingDelivery src dst _ => decide (src ≠ dst)
  | .registerWrite _ _ size _ => decide (size = 1) || decide (size = 2) || decide (size = 4) || decide (size = 8)
  | .blkLockWrite _ page _ => wfPage page
  | .blkOwnerWrite _ page _ => wfPage page
  | .ownerDrainDone _ => true
  | .blkPwrWrite _ page _ => wfPage page
  | .blkErrCodeClr _ page => wfPage page
  | .blkEvtClear _ page _ => wfPage page
  | .blkEvtSetWrite _ page _ => wfPage page
  | .rosterSwitch _ _ => true
  | .rosterCancel _ => true
  | .rosterValidationDone => true
  | .taskDispatch h => wfHart h
  | .taskPassComplete h => wfHart h
  | .cutLogRead _ => true
  | .nop i _ f => wfSyl i false && decide (f = 0)
  | .ldb i f => wfSyl i (decide (f.am.toNat < 2))
  | .ldbu i f => wfSyl i (decide (f.am.toNat < 2))
  | .ldh i f => wfSyl i (decide (f.am.toNat < 2))
  | .ldhu i f => wfSyl i (decide (f.am.toNat < 2))
  | .lds i f => wfSyl i (decide (f.am.toNat < 2))
  | .ldc i f => wfSyl i (decide (f.am.toNat < 2))
  | .lda i f => wfSyl i (decide (f.am.toNat < 2))
  | .ldx i f => wfSyl i (decide (f.am.toNat < 2))
  | .stb i f => wfSyl i (decide (f.am.toNat < 2))
  | .sth i f => wfSyl i (decide (f.am.toNat < 2))
  | .sts i f => wfSyl i (decide (f.am.toNat < 2))
  | .stc i f => wfSyl i (decide (f.am.toNat < 2))
  | .sta i f => wfSyl i (decide (f.am.toNat < 2))
  | .stx i f => wfSyl i (decide (f.am.toNat < 2))
  | .vlds i f => wfSyl i (decide (f.am.toNat < 2))
  | .vldc i f => wfSyl i (decide (f.am.toNat < 2))
  | .vsts i f => wfSyl i (decide (f.am.toNat < 2))
  | .vstc i f => wfSyl i (decide (f.am.toNat < 2))
  | .ldr i f => wfSyl i (decide (f.am.toNat < 2))
  | .str i f => wfSyl i (decide (f.am.toNat < 2))
  | .ldseg i f => wfSyl i (decide (f.am.toNat < 2))
  | .stseg i f => wfSyl i (decide (f.am.toNat < 2))
  | .ldk i f => wfSyl i (decide (f.am.toNat < 2))
  | .stk i f => wfSyl i (decide (f.am.toNat < 2))
  | .xchg i f => wfSyl i (decide (f.am.toNat < 2))
  | .fadd i f => wfSyl i (decide (f.am.toNat < 2))
  | .add i _ => wfSyl i false
  | .sub i _ => wfSyl i false
  | .adds i _ => wfSyl i false
  | .subs i _ => wfSyl i false
  | .neg i _ => wfSyl i false
  | .abs i _ => wfSyl i false
  | .and i _ => wfSyl i false
  | .or i _ => wfSyl i false
  | .xor i _ => wfSyl i false
  | .min i _ => wfSyl i false
  | .max i _ => wfSyl i false
  | .addi i _ => wfSyl i true
  | .andi i _ => wfSyl i true
  | .ori i _ => wfSyl i true
  | .xori i _ => wfSyl i true
  | .aadd i _ => wfSyl i false
  | .asub i _ => wfSyl i false
  | .aaddi i _ => wfSyl i true
  | .acirc i _ => wfSyl i true
  | .amovi i _ => wfSyl i true
  | .ceq i _ => wfSyl i false
  | .cne i _ => wfSyl i false
  | .clt i _ => wfSyl i false
  | .cle i _ => wfSyl i false
  | .cltu i _ => wfSyl i false
  | .cleu i _ => wfSyl i false
  | .ceqi i _ => wfSyl i true
  | .clti i _ => wfSyl i true
  | .cgti i _ => wfSyl i true
  | .shl i _ => wfSyl i false
  | .shra i _ => wfSyl i false
  | .shrl i _ => wfSyl i false
  | .shli i _ => wfSyl i true
  | .shrai i _ => wfSyl i true
  | .shrli i _ => wfSyl i true
  | .bfext i _ => wfSyl i true
  | .bfexts i _ => wfSyl i true
  | .bfins i _ => wfSyl i true
  | .bfextr i _ => wfSyl i false
  | .bfinsr i _ => wfSyl i false
  | .clz i _ => wfSyl i false
  | .cls i _ => wfSyl i false
  | .bperm i _ => wfSyl i false
  | .bpermi i _ => wfSyl i true
  | .sclamp i _ => wfSyl i false
  | .movi i _ => wfSyl i true
  | .moviu i _ => wfSyl i true
  | .mov i _ => wfSyl i false
  | .movad i _ => wfSyl i false
  | .movda i _ => wfSyl i false
  | .mfs i _ => wfSyl i false
  | .mts i _ => wfSyl i false
  | .ptst i _ => wfSyl i false
  | .xop i _ _ => wfSyl i false
  | .mul i _ => wfSyl i false
  | .mac i _ => wfSyl i false
  | .msu i _ => wfSyl i false
  | .macp i _ => wfSyl i false
  | .movpx i _ => wfSyl i false
  | .xclr i _ => wfSyl i false
  | .xadd i _ => wfSyl i false
  | .xsha i _ => wfSyl i false
  | .xmovd i _ => wfSyl i false
  | .xtr i _ => wfSyl i false
  | .xtrv i _ => wfSyl i false
  | .vmul i _ => wfSyl i false
  | .vmac i _ => wfSyl i false
  | .vmsu i _ => wfSyl i false
  | .vmacs i _ => wfSyl i false
  | .vmsus i _ => wfSyl i false
  | .bz i _ => wfSyl i true
  | .bnz i _ => wfSyl i true
  | .bra i _ => wfSyl i true
  | .call i _ => wfSyl i true
  | .jmp i _ => wfSyl i false
  | .callr i _ => wfSyl i false
  | .tdone i _ => wfSyl i false
  | .retx i _ => wfSyl i false
  | .iflush i _ => wfSyl i false
  | .check i _ => wfSyl i false
  | .agree i _ => wfSyl i false
  | .lock i _ => wfSyl i false
  | .unlock i _ => wfSyl i false
  | .trap i _ => wfSyl i false
  | .wait i _ => wfSyl i false
  | .rep i _ => wfSyl i false
  | .repi i _ => wfSyl i false
  | .repir i _ => wfSyl i false
  | .bmov i _ => wfSyl i false
  | .bfill i _ => wfSyl i false
  | .bscan i _ => wfSyl i false
  | .bxform i _ => wfSyl i false
  | .interruptAccept h => wfHart h
  | .waitResume h => wfHart h
  | .lineFill h => wfHart h
  | .accessResponse h => wfHart h
  | .storeBufferPerform _ => true
  | .mmLogRead _ _ => true
  | .tippleStageDataWrite _ _ => true
  | .tippleColumnCompare _ => true
  | .failLogRead _ => true
  | .mclkSourceValid => true
  | .mclkSourceInvalid => true
  | .mclkLocked => true
  | .tdmFrame _ rx _ => decide (rx.din.length ≤ 1025) && decide (rx.period < 64)
  | .tdmBclkLoss _ => true
  | .pdmWarmupEnd _ => true
  | .micStuck _ => true
  | .pwmStateWrite _ _ _ => true
  | .senseStuck _ _ => true
  | .refugeArmWrite _ _ => true
  | .refugeReqPresent => true
  | .refugeReqAbsent => true
  | .refugeLevelRampDone => true
  | .refugeDeactivate => true
  | .refugeSourceLost => true
  | .refugeSourceReturn => true
  | .refugeToneSegmentEnd => true
  | .intervalDone _ => true
  | .depNop _ => true
  | .depMovi _ _ _ => true
  | .depAddi _ _ _ => true
  | .depAndi _ _ _ => true
  | .depOri _ _ _ => true
  | .depXori _ _ _ => true
  | .depCeqi _ _ _ => true
  | .depCltui _ _ _ => true
  | .depAluMov _ _ _ => true
  | .depAluAdd _ _ _ => true
  | .depAluSub _ _ _ => true
  | .depAluAnd _ _ _ => true
  | .depAluOr _ _ _ => true
  | .depAluXor _ _ _ => true
  | .depAluShl _ _ _ => true
  | .depAluShr _ _ _ => true
  | .depAluSar _ _ _ => true
  | .depAluCeq _ _ _ => true
  | .depAluCne _ _ _ => true
  | .depAluCltu _ _ _ => true
  | .depAluClt _ _ _ => true
  | .depAluCleu _ _ _ => true
  | .depAluCle _ _ _ => true
  | .depAluNot _ _ _ => true
  | .depAluAddw _ _ _ => true
  | .depAluSubw _ _ _ => true
  | .depAluCeqw _ _ _ => true
  | .depAluCltuw _ _ _ => true
  | .depAluMulu _ _ _ => true
  | .depAluCarry _ _ _ => true
  | .depLd _ _ _ _ => true
  | .depSt _ _ _ _ => true
  | .depLdp _ _ _ _ => true
  | .depStp _ _ _ _ => true
  | .depLdq _ _ _ _ => true
  | .depStq _ _ _ _ => true
  | .depLdy _ _ _ => true
  | .depYaddi _ _ _ => true
  | .depMovyg _ _ _ => true
  | .depMovgy _ _ _ => true
  | .depBz _ _ _ => true
  | .depBnz _ _ _ => true
  | .depJmp _ _ => true
  | .depCall _ _ => true
  | .depRet _ => true
  | .depReti _ => true
  | .depSetie _ _ => true
  | .depWaite _ => true
  | .depWaiteResume _ => true
  | .depInterruptAccept _ => true
  | .depLockstepMismatch _ => true
  | .depRestartRelease _ => true
  | .depHeartbeatTimeout _ => true
  | .depKickWrite _ _ _ => true
  | .depLineWrite _ _ _ _ => true
  | .contactSample _ _ => true
  | .checkpointVote => true
  | .checkpointTargetTimeout => true
  | .agreeMatch _ => true
  | .agreeTimeout _ => true
  | .resyncCopyDone => true
  | .canReqWrite _ _ => true
  | .zoneCtlWrite _ _ _ => true
  | .gatGerrClr _ => true
  | .gatSafeSafe _ => true
  | .gatSafeReset _ => true
  | .bankInvalidateGo _ _ _ => true
  | .invDone _ => true
  | .winderStart _ _ _ _ => true
  | .winderStop _ _ _ _ => true
  | .winderResume _ _ _ _ => true
  | .winderEntry _ _ _ => true
  | .panelDecode _ => true
  | .eccRetireWrite _ _ _ _ => true
  | .eccClrAll _ _ => true
  | .eccClrCounts _ _ => true
  | .eccClrOne _ _ _ => true
  | .scrubGo _ _ => true
  | .scrubStop _ _ => true
  | .scrubDone _ => true
  | .eccSelftestGo _ _ => true
  | .eccSelftestDone group fail => fail.all fun x => decide (x.1 < 76) && decide (groupOfBank x.1 = group.val)
  | .frameReceive _ frame => decide (0 < frame.bytes.length)
  | .ptpMessageReceive _ _ => true
  | .ptpMessageSend _ _ => true
  | .ptpSyncTimeout => true
  | .linkDown _ => true
  | .linkUp _ => true
  | .tallyGrant _ => true
  | .frameCopyDone _ => true
  | .txFrameEligible frame => decide (frame.elapsed.length = 4)
  | .txFifoCopy _ _ => true
  | .txFrameDone _ _ => true
  | .txFrameStale _ => true
  | .eliminationReset _ => true
  | .lampRoomPeriod use => decide (use.length = 64)
  | .pmonRead value => value.all fun v => decide (v < 0x10000)
  | .lrmStateWrite _ _ => true
  | .wakePin => true
  | .wakeTimer => true
  | .crgFreqWrite _ _ _ => true
  | .surveyGo _ _ => true
  | .surveyDone _ gauges => decide (gauges.length = 4)
  | .ophoursTick => true
  | .lrmWearWrite _ _ _ => true
  | .wdgKick _ _ elapsed => decide (elapsed < 0x100000)
  | .wdgTimeout => true
  | .wdgReset => true
  | .wdgAlive _ _ => true
  | .belSwiSet _ _ => true
  | .belSwiClr _ _ => true
  | .monitorExcursion _ => true
  | .dread _ => true
  | .dwrite _ _ => true
  | .mread _ _ _ => true
  | .mwrite _ _ _ _ => true
  | .poll => true
  | .wireBreak => true
  | .debugAccessDone => true
  | .dbgAuthRequest _ => true
  | .dbgResponseCompare _ => true
  | .haltRequest => true
  | .haltComplete _ => true
  | .resume _ => true
  | .feedGo => true
  | .txdWrite _ _ => true
  | .txAck => true
  | .rxdWrite _ => true
  | .rxAck _ => true
  | .traceRead _ => true
  | .pmcCounterWrite _ page _ _ => decide (page < 38)
  | .pmcSnap _ => true
  | .pmcCounterWrap page _ => decide (page < 38)
  | .bwWindowEnd port n => (match port with | .stope => decide (n.val < 16) | .adit => decide (n.val < 4) | .face => true)
  | .powerOnResetCause => true
  | .referenceCountDone => true
  | .warmResetPin => true
  | .resetRelease inp => wfBoot inp
  | .bootTimeout => true
  | .bootRetry => true
  | .bootHandover _ inp => wfBoundary inp
  | .xspCmdGo _ _ => true
  | .xspStatusPoll x => decide (x.sent.length ≤ 256) && x.changed.all fun y => decide (y.1 < 0x10000000)
  | .xspPollTimeout => true
  | .xspCmdDone read changed => decide (read.length ≤ 256) && changed.all fun x => decide (x.1 < 0x10000000)
  | .pcieConfigRequest _ _ _ => true
  | .pcieBarRead _ _ len _ => decide (len ≤ 512)
  | .pcieBarWrite _ _ bytes _ => decide (bytes.length ≤ 256)
  | .pciePerst _ => true
  | .pciH2dWrite _ _ => true
  | .pciH2dAck _ => true
  | .pciD2hWrite _ _ => true
  | .pciD2hAck _ => true
  | .pciMsiSend _ _ => true
  | .msiPendingSend _ => true
  | .illegalOpcode i slot opc _ => wfSyl i false && (fmtOf slot.toNat opc.toNat).isNone && !(decide (slot = 3) && decide (opc = 0x7F))
  | .depIllegal _ => true
  | .senseClip _ _ => true
  | .modulatorClip _ => true
  | .excursionEnd _ => true
  | .warmResetPinEnd => true
  | .supplyReturn => true
  | .pcieLinkChange _ => true
  | .announceReceiptTimeout => true

end Sys2Proof
end

