-- ==== Sys2Proof/Certificates/Slice0/Obligations.lean ====
section
/-!
DEFINITION. Sys2Proof/Certificates/Slice0/Obligations.lean: the statements for the provers.
-/

open Sys2Proof Sys2Proof.Machine Sys2Proof.Safety

/-! ### Hewer operations -/

/-- R116: each arithmetic operation, as a bundle of its own, writes the result of the table and retires; nothing else changes. R117: each compare
writes 1 where its relation holds and 0 otherwise, poisoned by its operands. -/
def Obligations.ArithmeticAndComparesWriteTheirResult : Prop :=
  (
    ∀ (i : Issue) (s : State), Ready i s →
      (∀ f : FDdd, i.ext = none → f.fn = 0 →
        let a := (s.thread i.hart).dReg f.ds1.toNat
        let b := (s.thread i.hart).dReg f.ds2.toNat
        let dst (v : W24) : List RegWrite := [wrD f.dd.toNat ⟨v, a.poison || b.poison⟩]
        Retires (.add i f) i s (dst (a.bits + b.bits))
        ∧ Retires (.sub i f) i s (dst (a.bits - b.bits))
        ∧ Retires (.adds i f) i s (dst (saturated (a.bits.toInt + b.bits.toInt)))
        ∧ Retires (.subs i f) i s (dst (saturated (a.bits.toInt - b.bits.toInt)))
        ∧ Retires (.and i f) i s (dst (a.bits &&& b.bits))
        ∧ Retires (.or i f) i s (dst (a.bits ||| b.bits))
        ∧ Retires (.xor i f) i s (dst (a.bits ^^^ b.bits))
        ∧ Retires (.min i f) i s (dst (if a.bits.toInt ≤ b.bits.toInt then a.bits else b.bits))
        ∧ Retires (.max i f) i s (dst (if a.bits.toInt ≤ b.bits.toInt then b.bits else a.bits)))
      ∧ (∀ f : FDdd, i.ext = none → f.fn = 0 → f.ds2 = 0 →
        let a := (s.thread i.hart).dReg f.ds1.toNat
        Retires (.neg i f) i s [wrD f.dd.toNat ⟨-a.bits, a.poison⟩]
        ∧ Retires (.abs i f) i s [wrD f.dd.toNat ⟨saturated a.bits.toInt.natAbs, a.poison⟩])
      ∧ (∀ g : FDdi, immediateOk i g.imm →
        let a := (s.thread i.hart).dReg g.ds1.toNat
        let n := immediate i g.imm true
        Retires (.addi i g) i s [wrD g.dd.toNat ⟨a.bits + n, a.poison⟩]
        ∧ Retires (.andi i g) i s [wrD g.dd.toNat ⟨a.bits &&& n, a.poison⟩]
        ∧ Retires (.ori i g) i s [wrD g.dd.toNat ⟨a.bits ||| n, a.poison⟩]
        ∧ Retires (.xori i g) i s [wrD g.dd.toNat ⟨a.bits ^^^ n, a.poison⟩])
      ∧ (∀ f : FDdd, i.ext = none → f.fn = 0 → f.dd.toNat < 16 → f.ds1.toNat < 16 → f.ds2.toNat < 16 →
        let a := (s.thread i.hart).aReg f.ds1.toNat
        let b := (s.thread i.hart).aReg f.ds2.toNat
        Retires (.aadd i f) i s [wrA f.dd.toNat (a + b)] ∧ Retires (.asub i f) i s [wrA f.dd.toNat (a - b)])
      ∧ (∀ g : FDdi, immediateOk i g.imm → g.dd.toNat < 16 → g.ds1.toNat < 16 →
        let a := (s.thread i.hart).aReg g.ds1.toNat
        let d := (s.thread i.hart).aReg g.dd.toNat
        let n := immediate i g.imm true
        Retires (.aaddi i g) i s [wrA g.dd.toNat (a + n)]
        ∧ Retires (.acirc i g) i s
            [wrA g.dd.toNat (if a = 0 then d + n else BitVec.ofInt 24 (((d.toNat : Int) + n.toInt).emod (a.toNat : Int)))])
      ∧ (∀ g : FDdi, immediateOk i g.imm → g.dd.toNat < 16 → g.ds1 = 0 →
        Retires (.amovi i g) i s [wrA g.dd.toNat (immediate i g.imm false)])
  ) ∧ (
    ∀ (i : Issue) (s : State), Ready i s →
      (∀ f : FDdd, i.ext = none → f.fn = 0 →
        let a := (s.thread i.hart).dReg f.ds1.toNat
        let b := (s.thread i.hart).dReg f.ds2.toNat
        let dst (c : Bool) : List RegWrite := [wrD f.dd.toNat ⟨if c then 1 else 0, a.poison || b.poison⟩]
        Retires (.ceq i f) i s (dst (a.bits == b.bits))
        ∧ Retires (.cne i f) i s (dst (a.bits != b.bits))
        ∧ Retires (.clt i f) i s (dst (a.bits.slt b.bits))
        ∧ Retires (.cle i f) i s (dst (a.bits.sle b.bits))
        ∧ Retires (.cltu i f) i s (dst (a.bits.ult b.bits))
        ∧ Retires (.cleu i f) i s (dst (a.bits.ule b.bits)))
      ∧ (∀ g : FDdi, immediateOk i g.imm →
        let a := (s.thread i.hart).dReg g.ds1.toNat
        let n := immediate i g.imm true
        let dst (c : Bool) : List RegWrite := [wrD g.dd.toNat ⟨if c then 1 else 0, a.poison⟩]
        Retires (.ceqi i g) i s (dst (a.bits == n))
        ∧ Retires (.clti i g) i s (dst (a.bits.slt n))
        ∧ Retires (.cgti i g) i s (dst (n.slt a.bits)))
  )

/-- R118: the shifts, by a register count or an immediate one; a count above 23 in an immediate is illegal, a poisoned one in a register raises
POISON_USE (R95). R118: the bit fields: extraction, insertion and their out-of-range rules; the counts of leading bits; SCLAMP. R119: each byte of a
permute's result is the byte of the pair that its selector names, or 0; an odd Ds1 is illegal. -/
def Obligations.ShiftsFieldsAndPermutes : Prop :=
  (
    ∀ (i : Issue) (s : State), Ready i s →
      (∀ f : FDdd, i.ext = none → f.fn = 0 →
        let a := (s.thread i.hart).dReg f.ds1.toNat
        let b := (s.thread i.hart).dReg f.ds2.toNat
        let dst (v : W24) : List RegWrite := [wrD f.dd.toNat ⟨v, a.poison⟩]
        (b.poison = false →
          Retires (.shl i f) i s (dst (a.bits <<< b.bits.toNat))
          ∧ Retires (.shra i f) i s (dst (a.bits.sshiftRight b.bits.toNat))
          ∧ Retires (.shrl i f) i s (dst (a.bits >>> b.bits.toNat)))
        ∧ (b.poison = true → vectorReady i.hart s → ∀ c ∈ [Instr.shl i f, .shra i f, .shrl i f], Traps c i.hart s (causeWord 0x06 1 0)))
      ∧ (∀ g : FDdi, immediateOk i g.imm →
        let a := (s.thread i.hart).dReg g.ds1.toNat
        let n := (immediate i g.imm false).toNat
        let dst (v : W24) : List RegWrite := [wrD g.dd.toNat ⟨v, a.poison⟩]
        (n ≤ 23 →
          Retires (.shli i g) i s (dst (a.bits <<< n))
          ∧ Retires (.shrai i g) i s (dst (a.bits.sshiftRight n))
          ∧ Retires (.shrli i g) i s (dst (a.bits >>> n)))
        ∧ (23 < n → vectorReady i.hart s → ∀ c ∈ [Instr.shli i g, .shrai i g, .shrli i g], Traps c i.hart s (causeWord 0x04 1 0)))
  ) ∧ (
    ∀ (i : Issue) (s : State), Ready i s →
      (∀ g : FDdi, immediateOk i g.imm →
        let a := (s.thread i.hart).dReg g.ds1.toNat
        let d := (s.thread i.hart).dReg g.dd.toNat
        let m := immediate i g.imm false
        let w := m.toNat / 64 % 64
        let p := m.toNat % 64
        (m.toNat < 4096 → w ≠ 0 → p + w ≤ 24 →
          Retires (.bfext i g) i s [wrD g.dd.toNat ⟨((a.bits >>> p).setWidth w).setWidth 24, a.poison⟩]
          ∧ Retires (.bfexts i g) i s [wrD g.dd.toNat ⟨((a.bits >>> p).setWidth w).signExtend 24, a.poison⟩]
          ∧ ∃ v : W24, Retires (.bfins i g) i s [wrD g.dd.toNat ⟨v, a.poison || d.poison⟩]
              ∧ ∀ k < 24, v.getLsbD k = if p ≤ k ∧ k < p + w then a.bits.getLsbD (k - p) else d.bits.getLsbD k)
        ∧ (m.toNat < 4096 → w = 0 ∨ 24 < p + w → vectorReady i.hart s →
          ∀ c ∈ [Instr.bfext i g, .bfexts i g, .bfins i g], Traps c i.hart s (causeWord 0x04 1 0)))
      ∧ (∀ f : FDdd, i.ext = none → f.fn = 0 →
        let a := (s.thread i.hart).dReg f.ds1.toNat
        let b := (s.thread i.hart).dReg f.ds2.toNat
        let d := (s.thread i.hart).dReg f.dd.toNat
        let w := b.bits.toNat / 64 % 64
        let p := b.bits.toNat % 64
        (b.poison = false → w = 0 ∨ 24 ≤ p →
          Retires (.bfextr i f) i s [wrD f.dd.toNat ⟨0, false⟩] ∧ Retires (.bfinsr i f) i s [wrD f.dd.toNat d])
        ∧ (b.poison = false → w ≠ 0 → p < 24 →
          Retires (.bfextr i f) i s [wrD f.dd.toNat ⟨((a.bits >>> p).setWidth w).setWidth 24, a.poison⟩]
          ∧ ∃ v : W24, Retires (.bfinsr i f) i s [wrD f.dd.toNat ⟨v, a.poison || d.poison⟩]
              ∧ ∀ k < 24, v.getLsbD k = if p ≤ k ∧ k < p + w then a.bits.getLsbD (k - p) else d.bits.getLsbD k)
        ∧ (b.poison = true → vectorReady i.hart s → ∀ c ∈ [Instr.bfextr i f, .bfinsr i f], Traps c i.hart s (causeWord 0x06 1 0)))
      ∧ (∀ f : FDdd, i.ext = none → f.fn = 0 → f.ds2 = 0 →
        let a := (s.thread i.hart).dReg f.ds1.toNat
        (∃ n : Nat, n ≤ 24 ∧ Retires (.clz i f) i s [wrD f.dd.toNat ⟨BitVec.ofNat 24 n, a.poison⟩]
          ∧ (∀ k < n, a.bits.getLsbD (23 - k) = false) ∧ (n < 24 → a.bits.getLsbD (23 - n) = true))
        ∧ (∃ n : Nat, n ≤ 23 ∧ Retires (.cls i f) i s [wrD f.dd.toNat ⟨BitVec.ofNat 24 n, a.poison⟩]
          ∧ (∀ k < n, a.bits.getLsbD (22 - k) = a.bits.getLsbD 23) ∧ (n < 23 → a.bits.getLsbD (22 - n) ≠ a.bits.getLsbD 23))
        ∧ Retires (.sclamp i f) i s [wrD f.dd.toNat ⟨if a.bits = 0x800000 then 0x800001 else a.bits, a.poison⟩])
  ) ∧ (
    ∀ (i : Issue) (s : State), Ready i s →
      (∀ f : FDdd, i.ext = none → f.fn = 0 →
        let a := (s.thread i.hart).dReg f.ds1.toNat
        let a' := (s.thread i.hart).dReg (f.ds1.toNat + 1)
        let b := (s.thread i.hart).dReg f.ds2.toNat
        (b.poison = false → f.ds1.toNat % 2 = 0 →
          ∃ v, Retires (.bperm i f) i s [wrD f.dd.toNat v] ∧ permuted a a' b.bits v)
        ∧ (b.poison = true → f.ds1.toNat % 2 = 0 → vectorReady i.hart s → Traps (.bperm i f) i.hart s (causeWord 0x06 1 0))
        ∧ (f.ds1.toNat % 2 = 1 → vectorReady i.hart s → Traps (.bperm i f) i.hart s (causeWord 0x04 1 0)))
      ∧ (∀ g : FDdi, immediateOk i g.imm →
        let a := (s.thread i.hart).dReg g.ds1.toNat
        let a' := (s.thread i.hart).dReg (g.ds1.toNat + 1)
        let m := immediate i g.imm false
        (g.ds1.toNat % 2 = 0 → m.toNat < 512 → ∃ v, Retires (.bpermi i g) i s [wrD g.dd.toNat v] ∧ permuted a a' m v)
        ∧ (g.ds1.toNat % 2 = 1 ∨ 512 ≤ m.toNat → vectorReady i.hart s → Traps (.bpermi i g) i.hart s (causeWord 0x04 1 0)))
  )

/-- R120, R96: immediates and moves between D and A registers, and the poison test. -/
def Obligations.MovesCopyRegisters : Prop :=
  ∀ (i : Issue) (s : State), Ready i s →
    (∀ g : FDdi, immediateOk i g.imm → g.ds1 = 0 →
      Retires (.movi i g) i s [wrD g.dd.toNat ⟨immediate i g.imm true, false⟩]
      ∧ Retires (.moviu i g) i s [wrD g.dd.toNat ⟨immediate i g.imm false, false⟩])
    ∧ (∀ f : FDdd, i.ext = none → f.fn = 0 → f.ds2 = 0 →
      let a := (s.thread i.hart).dReg f.ds1.toNat
      Retires (.mov i f) i s [wrD f.dd.toNat a]
      ∧ Retires (.ptst i f) i s [wrD f.dd.toNat ⟨if a.poison then 1 else 0, false⟩]
      ∧ (f.ds1.toNat < 16 → Retires (.movad i f) i s [wrD f.dd.toNat ⟨(s.thread i.hart).aReg f.ds1.toNat, false⟩])
      ∧ (f.dd.toNat < 16 → a.poison = false → Retires (.movda i f) i s [wrA f.dd.toNat a.bits])
      ∧ (f.dd.toNat < 16 → a.poison = true → vectorReady i.hart s → Traps (.movda i f) i.hart s (causeWord 0x06 1 0)))
    ∧ (∀ (inC : Bool), i.ext = none → Retires (.nop i inC 0) i s [])

/-- R83, R120: a read of a special register that the privilege permits, and PRIVILEGE for one that it does not. R83–R85: a write of a special register
changes its writable fields only; PRIVILEGE where the access is not permitted, POISON_USE for a poisoned source (R95). -/
def Obligations.SpecialRegistersAreReadAndWritten : Prop :=
  (
    ∀ (i : Issue) (f : FDdd) (s : State), Ready i s → i.ext = none → f.fn = 0 → f.ds2 = 0 → f.ds1.toNat < 8 →
      let t := s.thread i.hart
      let n := f.ds1.toNat
      let permitted := bit t.sr 0 = true ∨ n = 0 ∨ n = 1 ∨ n = 3
      (permitted → n ∈ [0, 1, 2, 5] →
        Retires (.mfs i f) i s [wrD f.dd.toNat ⟨if n = 0 then t.pc else if n = 1 then t.rc else if n = 2 then t.bn else t.xpc, false⟩])
      ∧ (permitted → n ∈ [3, 4, 6, 7] → f.dd.toNat % 2 = 0 →
        let v := if n = 3 then t.sr else if n = 4 then t.xsr else if n = 6 then t.xcause else t.xinfo
        Retires (.mfs i f) i s [wrD f.dd.toNat ⟨v.setWidth 24, false⟩, wrD (f.dd.toNat + 1) ⟨(v >>> 24).setWidth 24, false⟩])
      ∧ (n ∈ [3, 4, 6, 7] → f.dd.toNat % 2 = 1 → vectorReady i.hart s → Traps (.mfs i f) i.hart s (causeWord 0x04 1 0))
      ∧ (¬permitted → (n ∈ [3, 4, 6, 7] → f.dd.toNat % 2 = 0) → vectorReady i.hart s → Traps (.mfs i f) i.hart s (causeWord 0x05 1 0))
  ) ∧ (
    ∀ (i : Issue) (f : FDdd) (s : State), Ready i s → i.ext = none → f.fn = 0 → f.ds2 = 0 → f.dd.toNat < 8 →
      (f.dd.toNat ∈ [3, 4, 6, 7] → f.ds1.toNat % 2 = 0) →
      let t := s.thread i.hart
      let n := f.dd.toNat
      let a := t.dReg f.ds1.toNat
      let b := t.dReg (f.ds1.toNat + 1)
      let pair := n ∈ [3, 4, 6, 7]
      let permitted := n = 1 ∨ (bit t.sr 0 = true ∧ n ∈ [2, 3, 4, 5, 7])
      let clean := a.poison = false ∧ (pair → b.poison = false)
      let v : W32 := a.bits.setWidth 32 ||| (b.bits.setWidth 32 <<< 24)
      (permitted → clean → ∃ u, Reaches (.mts i f) s (s.setThread i.hart u)
        ∧ u.rc = (if n = 1 then a.bits else t.rc)
        ∧ u.bn = (if n = 2 then a.bits else t.bn)
        ∧ u.sr = (if n = 3 then (t.sr &&& ~~~0x3#32) ||| (v &&& 0x3#32) else t.sr)
        ∧ u.xsr = (if n = 4 then (t.xsr &&& ~~~0x02000003#32) ||| (v &&& 0x02000003#32) else t.xsr)
        ∧ u.xpc = (if n = 5 then a.bits else t.xpc)
        ∧ u.xinfo = (if n = 7 then (v &&& 0x01FFFFFF#32) ||| ((if v.toNat / 2 ^ 28 < 7 then v else t.xinfo) &&& 0xF0000000#32) else t.xinfo)
        ∧ u.xcause = t.xcause ∧ u.pc = nextPc i t ∧ u.a = t.a ∧ u.d = t.d ∧ u.x = t.x ∧ u.p = (flushLatch t).p ∧ u.s = t.s ∧ u.lock = t.lock
        ∧ u.sig = t.sig)
      ∧ (¬permitted → vectorReady i.hart s → Traps (.mts i f) i.hart s (causeWord 0x05 1 0))
      ∧ (permitted → ¬clean → vectorReady i.hart s → Traps (.mts i f) i.hart s (causeWord 0x06 1 0))
  )

/-- R121: products start in the product latch, from which they land with the next bundle but one (R80); accumulators take exact products modulo 2^56,
product registers, sums and shifts. R139, R141, R158: an XOP of a Hewer ends with the result of its sequence of micro-operations in Dd, or with
ILLEGAL_OPCODE or POISON_USE. That an illegal micro-operation is met whatever the operands carry is the model's reading (log 17). -/
def Obligations.ProductsAndXops : Prop :=
  (
    ∀ (i : Issue) (f : FMul) (s : State), Ready i s → i.ext = none → f.rsv = 0 →
      let t := s.thread i.hart
      let a := t.dReg f.ds1.toNat
      let b := t.dReg f.ds2.toNat
      let x := t.xReg f.dst.toNat
      let v := productOf f.fn.toNat a.bits b.bits
      let dst (v : Val 56) : List RegWrite := [wrX f.dst.toNat v]
      (f.fn.toNat < 8 →
        (f.dst.toNat < 4 →
          RetiresTo (.mul i f) i s (nextPc i t) (some ⟨f.dst.toNat, ⟨BitVec.ofInt 48 v, a.poison || b.poison⟩⟩) [])
        ∧ Retires (.mac i f) i s (dst ⟨BitVec.ofInt 56 (x.bits.toInt + v), x.poison || a.poison || b.poison⟩)
        ∧ Retires (.msu i f) i s (dst ⟨BitVec.ofInt 56 (x.bits.toInt - v), x.poison || a.poison || b.poison⟩))
      ∧ (f.ds2 = 0 → f.fn = 0 →
        (f.ds1.toNat < 4 →
          let p := t.pReg f.ds1.toNat
          Retires (.macp i f) i s (dst ⟨x.bits + p.bits.signExtend 56, x.poison || p.poison⟩)
          ∧ Retires (.movpx i f) i s (dst ⟨p.bits.signExtend 56, p.poison⟩))
        ∧ (f.ds1 = 0 → Retires (.xclr i f) i s (dst ⟨0, false⟩))
        ∧ (f.ds1.toNat < 8 →
          let y := t.xReg f.ds1.toNat
          Retires (.xadd i f) i s (dst ⟨x.bits + y.bits, x.poison || y.poison⟩))
        ∧ Retires (.xmovd i f) i s (dst ⟨a.bits.signExtend 56 <<< 24, a.poison⟩))
      ∧ (f.ds1 = 0 → f.ds2 = 0 →
        (0 ≤ f.fn.toInt → f.fn.toInt ≤ 24 → Retires (.xsha i f) i s (dst ⟨x.bits <<< f.fn.toInt.toNat, x.poison⟩))
        ∧ (f.fn.toInt < 0 → -24 ≤ f.fn.toInt → Retires (.xsha i f) i s (dst ⟨x.bits.sshiftRight (-f.fn.toInt).toNat, x.poison⟩))
        ∧ (24 < f.fn.toInt ∨ f.fn.toInt < -24 → vectorReady i.hart s → Traps (.xsha i f) i.hart s (causeWord 0x04 2 0)))
  ) ∧ (
    ∀ (i : Issue) (k : BitVec 4) (f : FDdd) (s : State), Ready i s → i.ext = none → i.hart.core.val < 32 → f.fn = 0 →
      let t := s.thread i.hart
      let r := runXop i.hart.core.val k.toNat (t.dReg f.ds1.toNat) (t.dReg f.ds2.toNat) (t.dReg f.dd.toNat) s
      (∀ v, r = .ok v → Retires (.xop i k f) i s [wrD f.dd.toNat v])
      ∧ (r = .illegal → vectorReady i.hart s → Traps (.xop i k f) i.hart s (causeWord 0x03 1 0))
      ∧ (r = .poison → vectorReady i.hart s → Traps (.xop i k f) i.hart s (causeWord 0x06 1 0))
      ∧ (bit (s.effReg (pgHwr i.hart.core.val) (0x100 + 4 * k.toNat)) 31 = false → r = .illegal)
  )

/-- R122: the extractions of one accumulator and of all eight; a shift above 8 is illegal. R123: the vector operations take each lane against its
accumulator. -/
def Obligations.ExtractionsAndVectorLanes : Prop :=
  (
    ∀ (i : Issue) (s : State), Ready i s → i.ext = none →
      (∀ f : FDdd, f.ds1.toNat < 8 → f.ds2 = 0 → f.fn.toNat < 32 →
        let x := (s.thread i.hart).xReg f.ds1.toNat
        (f.fn.toNat % 16 ≤ 8 →
          Retires (.xtr i f) i s [wrD f.dd.toNat ⟨extracted x.bits (f.fn.toNat % 16) (f.fn.getLsbD 4), x.poison⟩])
        ∧ (8 < f.fn.toNat % 16 → vectorReady i.hart s → Traps (.xtr i f) i.hart s (causeWord 0x04 2 0)))
      ∧ (∀ f : FVec, f.g2 = 0 → f.ds = 0 → f.fn.toNat < 32 →
        let lane (k : Nat) := (s.thread i.hart).xReg k
        (f.fn.toNat % 16 ≤ 8 →
          Retires (.xtrv i f) i s ((List.range 8).map fun k =>
            wrD (8 * f.g1.toNat + k) ⟨extracted (lane k).bits (f.fn.toNat % 16) (f.fn.getLsbD 4), (lane k).poison⟩))
        ∧ (8 < f.fn.toNat % 16 → vectorReady i.hart s → Traps (.xtrv i f) i.hart s (causeWord 0x04 2 0)))
  ) ∧ (
    ∀ (i : Issue) (f : FVec) (s : State), Ready i s → i.ext = none → f.fn.toNat < 8 →
      let t := s.thread i.hart
      let a (k : Nat) := t.dReg (8 * f.g1.toNat + k)
      let b (k : Nat) := t.dReg (8 * f.g2.toNat + k)
      let d := t.dReg f.ds.toNat
      let x (k : Nat) := t.xReg k
      let pair (k : Nat) : Int := productOf f.fn.toNat (a k).bits (b k).bits
      let one (k : Nat) : Int := productOf f.fn.toNat (a k).bits d.bits
      let lanes (v : Nat → Val 56) : List RegWrite := (List.range 8).map fun k => wrX k (v k)
      (f.ds = 0 →
        Retires (.vmul i f) i s (lanes fun k => ⟨BitVec.ofInt 56 (pair k), (a k).poison || (b k).poison⟩)
        ∧ Retires (.vmac i f) i s (lanes fun k =>
            ⟨BitVec.ofInt 56 ((x k).bits.toInt + pair k), (x k).poison || (a k).poison || (b k).poison⟩)
        ∧ Retires (.vmsu i f) i s (lanes fun k =>
            ⟨BitVec.ofInt 56 ((x k).bits.toInt - pair k), (x k).poison || (a k).poison || (b k).poison⟩))
      ∧ (f.g2 = 0 →
        Retires (.vmacs i f) i s (lanes fun k => ⟨BitVec.ofInt 56 ((x k).bits.toInt + one k), (x k).poison || (a k).poison || d.poison⟩)
        ∧ Retires (.vmsus i f) i s (lanes fun k =>
            ⟨BitVec.ofInt 56 ((x k).bits.toInt - one k), (x k).poison || (a k).poison || d.poison⟩))
  )

/-- R124: conditional and unconditional branches; a poisoned condition raises POISON_USE, a target that is no multiple of 4 raises ALIGN (R106). R124:
jumps and calls to an A register, with the link in the register that CALLR names. That a branch with a misaligned target traps also where it is not
taken is the model's reading (log 7). -/
def Obligations.BranchesAndJumps : Prop :=
  (
    ∀ (i : Issue) (f : FBr) (s : State), Ready i s → (i.ext.isSome = true → f.disp.toNat < 4) →
      let t := s.thread i.hart
      let d := t.dReg f.dc.toNat
      let v := branchTarget i f t.pc
      let misaligned (c : Instr) : Prop := TrapsAt c i.hart s (causeWord 0x0A 3 0x10) ((t.sReg 0).base + v.setWidth 32)
      (d.poison = false → v.toNat % 4 = 0 →
        RetiresTo (.bz i f) i s (if d.bits = 0 then v else nextPc i t) none []
        ∧ RetiresTo (.bnz i f) i s (if d.bits = 0 then nextPc i t else v) none [])
      ∧ (d.poison = true → vectorReady i.hart s →
        Traps (.bz i f) i.hart s (causeWord 0x06 3 0) ∧ Traps (.bnz i f) i.hart s (causeWord 0x06 3 0))
      ∧ (f.dc = 0 → v.toNat % 4 = 0 → RetiresTo (.bra i f) i s v none [])
      ∧ (f.dc.toNat < 16 → v.toNat % 4 = 0 → RetiresTo (.call i f) i s v none [wrA f.dc.toNat (nextPc i t)])
      ∧ (v.toNat % 4 ≠ 0 → vectorReady i.hart s →
        (d.poison = false → misaligned (.bz i f) ∧ misaligned (.bnz i f)) ∧ (f.dc = 0 → misaligned (.bra i f))
          ∧ (f.dc.toNat < 16 → misaligned (.call i f)))
  ) ∧ (
    ∀ (i : Issue) (k l : Fin 16) (s : State), Ready i s → i.ext = none →
      let t := s.thread i.hart
      let v := t.aReg k.val
      let jump : Instr := .jmp i (BitVec.ofNat 22 (k.val * 0x20000))
      let call : Instr := .callr i (BitVec.ofNat 22 (k.val * 0x20000 + l.val * 0x1000))
      (v.toNat % 4 = 0 → RetiresTo jump i s v none [] ∧ RetiresTo call i s v none [wrA l.val (nextPc i t)])
      ∧ (v.toNat % 4 ≠ 0 → vectorReady i.hart s → ∀ c ∈ [jump, call],
          TrapsAt c i.hart s (causeWord 0x0A 3 0x10) ((t.sReg 0).base + v.setWidth 32))
  )

/-- R125, R134, R158: the system operations that concern the thread alone: TDONE ends the pass, WAIT holds the thread, LOCK opens a sequence, TRAP
raises its exception with N in DETAIL; UNLOCK outside a sequence writes 0. R161: RETX, in supervisor state with an aligned XPC, restores SR and the pc
and holds XINFO for the resume; in user state it raises PRIVILEGE, and a return to a supervisor that user state saved, without its sanction, raises
RETURN_CHECK. -/
def Obligations.SystemOperationsAndReturns : Prop :=
  (
    ∀ (i : Issue) (s : State), Ready i s → i.ext = none →
      let t := s.thread i.hart
      let after (c : Instr) (g : Thread → Thread) : Prop := ∃ u, Retired t u (nextPc i t) none [] ∧ Reaches c s (s.setThread i.hart (g u))
      (i.hart.core.val < 32 → after (.tdone i 0) fun u => { u with hold := .passEnd })
      ∧ after (.wait i 0) (fun u => { u with hold := .wait })
      ∧ after (.lock i 0) (fun u => { u with sr := u.sr ||| 0x80#32, lock := ⟨1, [], [], false⟩ })
      ∧ (∀ d : BitVec 5, after (.unlock i (BitVec.ofNat 22 (d.toNat * 0x20000)))
          fun u => { u with d := sparseSet ⟨0, false⟩ u.d d.toNat ⟨0, false⟩, lock := ⟨0, [], [], false⟩ })
      ∧ (vectorReady i.hart s → ∀ n : Byte, Traps (.trap i (n.setWidth 22)) i.hart s (causeWord 0x0E 3 n.toNat))
      ∧ (∀ inC, Retires (.nop i inC 0) i s [])
  ) ∧ (
    ∀ (i : Issue) (s : State), Ready i s → i.ext = none →
      let t := s.thread i.hart
      let refused := bit t.xsr 0 = true ∧ bit t.xsr 24 = false ∧ bit t.xsr 25 = false
      (bit t.sr 0 = true → t.xpc.toNat % 4 = 0 → ¬refused →
        ∃ u, Retired t u t.xpc none []
          ∧ Reaches (.retx i 0) s (s.setThread i.hart
              { u with sr := (t.sr &&& ~~~0x3#32) ||| (t.xsr &&& 0x3#32), resume := some t.xinfo, xinfo := 0, afterRetx := true }))
      ∧ (vectorReady i.hart s →
        (bit t.sr 0 = false → Traps (.retx i 0) i.hart s (causeWord 0x05 3 0))
        ∧ (bit t.sr 0 = true → t.xpc.toNat % 4 ≠ 0 →
            TrapsAt (.retx i 0) i.hart s (causeWord 0x0A 3 0x10) ((t.sReg 0).base + t.xpc.setWidth 32))
        ∧ (bit t.sr 0 = true → t.xpc.toNat % 4 = 0 → refused → Traps (.retx i 0) i.hart s (causeWord 0x0F 3 0)))
  )

/-- R126, R127: a prefix arms the repeat of the next bundle with its count; the thread's pc and registers stay until that bundle. R126, R127: an
iteration of a repeat performs its bundle's writes and stays at the bundle until the last one; REPI counts in RC. Shown for ADD. When RC of REPI is
written and what a repeat of 0 leaves is the model's reading (log 19). -/
def Obligations.RepeatsRunTheirBundle : Prop :=
  (
    ∀ (i : Issue) (s : State), Ready i s → i.ext = none →
      let t := s.thread i.hart
      let armed (c : Instr) (kind : RepKind) (n : Nat) (fault : Option Nat) : Prop :=
        ∃ lines, Reaches c s (s.setThread i.hart
          { t with rep := some ⟨kind, n, true, fault, t.rc, none⟩, lineBuf := lines, entering := none, hold := .none })
      (∀ n : BitVec 4, armed (.rep i (n.setWidth 22)) .rep (n.toNat + 1) none)
      ∧ (∀ n : BitVec 17, armed (.repi i (n.setWidth 22)) .repi n.toNat none)
      ∧ (∀ d : BitVec 5, let v := t.dReg d.toNat
          armed (.repir i (BitVec.ofNat 22 (d.toNat * 0x20000))) .repi v.bits.toNat (if v.poison then some 0x06 else none))
  ) ∧ (
    ∀ (i : Issue) (f : FDdd) (r : Repeat) (s : State), i.ext = none → f.fn = 0 → (s.thread i.hart).rep = some r → r.fresh = false →
      Ready i (s.setThread i.hart { s.thread i.hart with rep := none }) → checkpointHolds i.hart s = false →
      let t := s.thread i.hart
      let w := wrD f.dd.toNat ⟨(t.dReg f.ds1.toNat).bits + (t.dReg f.ds2.toNat).bits, (t.dReg f.ds1.toNat).poison || (t.dReg f.ds2.toNat).poison⟩
      let after (pc : W24) (g : Thread → Thread) : Prop :=
        ∃ u, Retired { t with rep := none } u pc none [w] ∧ Reaches (.add i f) s (s.setThread i.hart (g u))
      (r.kind = .rep → 1 < r.left → after t.pc fun u => { u with rep := some { r with left := r.left - 1 } })
      ∧ (r.kind = .rep → r.left = 1 → after (nextPc i t) fun u => { u with rc := r.rcDeferred.getD t.rc })
      ∧ (r.kind = .repi → 1 < t.rc.toNat → after t.pc fun u => { u with rep := some r, rc := t.rc - 1 })
      ∧ (r.kind = .repi → t.rc = 1 → after (nextPc i t) fun u => { u with rc := 0 })
      ∧ (r.kind = .repi → t.rc = 0 →
        ∃ lines, Reaches (.add i f) s (s.setThread i.hart
          { t with pc := nextPc i t, rep := none, buf := [], hold := .none, resume := none, afterRetx := false, lineBuf := lines, entering := none }))
  )

/-- R81, R97: a syllable without STOP only joins its bundle; the syllables of a bundle read the registers as they stood before it and write together.
Shown for MOV in slot A with XMOVD of the same register in slot X. R98, R100, R106, R109, R110, R158: an opcode that the catalogue does not assign
raises ILLEGAL_OPCODE; a reserved operand bit that is set raises ILLEGAL_OPERAND; CHECK and AGREE on a Hewer, and TDONE and XOP on an Overman, raise
ILLEGAL_OPCODE. -/
def Obligations.BundlesAndIllegalSyllables : Prop :=
  (
    ∀ (h : Hart) (f : FDdd) (g : FMul) (s : State),
      let i : Issue := ⟨h, true, none⟩
      let t := s.thread h
      f.fn = 0 → f.ds2 = 0 → g.ds1 = f.dd → g.rsv = 0 → g.ds2 = 0 → g.fn = 0 → Ready i s →
      (∃ l, fetchFrom h t 2 t.pc.toNat s = .ok l) →
      let a := t.dReg f.ds1.toNat
      let d := t.dReg f.dd.toNat
      ∃ s1 s2 u, exec (.mov ⟨h, false, none⟩ f) s = .next s1 ∧ exec (.xmovd i g) s1 = .next s2
        ∧ SameBut bellReg (s.setThread h { t with buf := [sylWord false 1 0x62 (packDdd f)] }) s1
        ∧ Retired t u (t.pc + 8) none [wrD f.dd.toNat a, wrX g.dst.toNat ⟨d.bits.signExtend 56 <<< 24, d.poison⟩]
        ∧ SameBut sideReg (s.setThread h u) s2
  ) ∧ (
    ∀ (i : Issue) (s : State), Ready i s → i.ext = none → vectorReady i.hart s →
      (∀ (slot : BitVec 2) (opc : BitVec 7) (f : BitVec 22), fmtOf slot.toNat opc.toNat = none → ¬(slot = 3 ∧ opc = 0x7F) →
        Traps (.illegalOpcode i slot opc f) i.hart s (causeWord 0x03 slot.toNat 0))
      ∧ (∀ f : FDdd, f.fn ≠ 0 → ∀ c ∈ [Instr.add i f, .sub i f, .and i f, .shl i f, .ceq i f, .clz i f, .mov i f], Traps c i.hart s (causeWord 0x04 1 0))
      ∧ (∀ f : BitVec 22, f ≠ 0 → ∀ c ∈ [Instr.lock i f, .wait i f, .iflush i f, .retx i f], Traps c i.hart s (causeWord 0x04 3 0))
      ∧ (i.hart.core.val < 32 → ∀ f : BitVec 22, Traps (.check i f) i.hart s (causeWord 0x03 3 0) ∧ Traps (.agree i f) i.hart s (causeWord 0x03 3 0))
      ∧ (32 ≤ i.hart.core.val → ∀ f : BitVec 22, Traps (.tdone i f) i.hart s (causeWord 0x03 3 0)
          ∧ ∀ (k : BitVec 4) (g : FDdd), Traps (.xop i k g) i.hart s (causeWord 0x03 1 0))
  )

/-! ### Hewer memory -/

/-- R111, R112, R93: loads of one word of the own Face memory: little-endian bytes, extended as the operation says, with the mark of the word; LDA
raises POISON_USE for a marked one (R95). LDK outside a sequence loads like LDS (R134); LDR loads a pair (R114). R167, R168: in a SHADOW pass with ROT
or NEG+ROT, a load through a SHADOW segment reads the mirrored element of its group of eight, negated after clamping under NEG+ROT. -/
def Obligations.LoadsAndShadowPasses : Prop :=
  (
    ∀ (i : Issue) (f : FMem) (p : Nat) (s : State), Ready i s → memMode i f → shadowPass (s.thread i.hart) = false →
      let t := s.thread i.hart
      let at_ (n : Nat) : Prop := FaceLoad i.hart f.sg.toNat (accessOffset i f n t) n 8 p s
      let v (n : Nat) : Nat := (storedValue s.mem p n).1
      let m (n : Nat) : Bool := (storedValue s.mem p n).2
      let toD (c : Instr) (n : Nat) (x : W24) : Prop := Retires c i s (postModified i f n t ++ [wrD f.dt.toNat ⟨x, m n⟩])
      (at_ 1 → toD (.ldb i f) 1 ((BitVec.ofNat 8 (v 1)).signExtend 24) ∧ toD (.ldbu i f) 1 (BitVec.ofNat 24 (v 1)))
      ∧ (at_ 2 → toD (.ldh i f) 2 ((BitVec.ofNat 16 (v 2)).signExtend 24) ∧ toD (.ldhu i f) 2 (BitVec.ofNat 24 (v 2)))
      ∧ (at_ 3 → toD (.lds i f) 3 (BitVec.ofNat 24 (v 3)) ∧ toD (.ldk i f) 3 (BitVec.ofNat 24 (v 3)))
      ∧ (at_ 4 → toD (.ldc i f) 4 (BitVec.ofNat 24 (v 4 / 256))
        ∧ (f.dt.toNat % 2 = 0 → Retires (.ldr i f) i s (postModified i f 4 t
            ++ [wrD f.dt.toNat ⟨BitVec.ofNat 24 (v 4), m 4⟩, wrD (f.dt.toNat + 1) ⟨BitVec.ofNat 24 (v 4 / 2 ^ 24), m 4⟩])))
      ∧ (at_ 3 → f.dt.toNat < 16 → (f.am = 1 → f.dt.toNat ≠ f.ab.toNat) →
        (m 3 = false → Retires (.lda i f) i s (postModified i f 3 t ++ [wrA f.dt.toNat (BitVec.ofNat 24 (v 3))]))
        ∧ (m 3 = true → vectorReady i.hart s → TrapsAt (.lda i f) i.hart s (causeWord 0x06 0 f.sg.toNat) (w32 p)))
      ∧ (at_ 8 → f.dt.toNat < 8 → Retires (.ldx i f) i s (postModified i f 8 t ++ [wrX f.dt.toNat ⟨BitVec.ofNat 56 (v 8), m 8⟩]))
  ) ∧ (
    ∀ (i : Issue) (f : FMem) (p : Nat) (s : State), Ready i s → memMode i f →
      let t := s.thread i.hart
      let off := accessOffset i f 3 t
      let xform := t.sr.toNat / 32 % 4
      bit t.sr 4 = true → xform = 1 ∨ xform = 2 → (t.sReg f.sg.toNat).shadow = true → off % 3 = 0 →
      FaceLoad i.hart f.sg.toNat (off + 3 * (7 - 2 * (off / 3 % 8))) 3 8 p s →
      let v : W24 := BitVec.ofNat 24 (storedValue s.mem p 3).1
      Retires (.lds i f) i s (postModified i f 3 t
        ++ [wrD f.dt.toNat ⟨if xform = 2 then -(if v = 0x800000 then 0x800001 else v) else v, (storedValue s.mem p 3).2⟩])
  )

/-- R113: a vector load of the own Face memory, within one 32-byte unit, fills the eight lanes of its group; an offset that is no multiple of 8 raises
ALIGN. R88, R115: LDSEG in supervisor state loads a permitted descriptor of unmarked words; PRIVILEGE, ALIGN, POISON_USE and SEG_DESC otherwise, in
that order, and the segment register stays. That the alignment of an LDSEG is checked ahead of its words is the model's reading (log 8). -/
def Obligations.VectorAndSegmentLoads : Prop :=
  (
    ∀ (i : Issue) (f : FMem) (p : Nat) (s : State), Ready i s → memMode i f → shadowPass (s.thread i.hart) = false → f.dt.toNat % 8 = 0 →
      let t := s.thread i.hart
      let off (n : Nat) : Int := accessOffset i f n t
      let sample (a : Nat) : Val 24 := ⟨BitVec.ofNat 24 (storedValue s.mem a 3).1, (storedValue s.mem a 3).2⟩
      (FaceLoad i.hart f.sg.toNat (off 24) 24 32 p s → off 24 % 8 = 0 →
        Retires (.vlds i f) i s (postModified i f 24 t ++ (List.range 8).map fun k => wrD (f.dt.toNat + k) (sample (p + 3 * k))))
      ∧ (FaceLoad i.hart f.sg.toNat (off 32) 32 32 p s → off 32 % 8 = 0 →
        Retires (.vldc i f) i s (postModified i f 32 t ++ (List.range 8).map fun k => wrD (f.dt.toNat + k) (sample (p + 4 * k + 1))))
      ∧ (vectorReady i.hart s →
        (off 24 % 8 ≠ 0 → TrapsAt (.vlds i f) i.hart s (causeWord 0x0A 0 f.sg.toNat) ((t.sReg f.sg.toNat).base + BitVec.ofInt 32 (off 24)))
        ∧ (off 32 % 8 ≠ 0 → TrapsAt (.vldc i f) i.hart s (causeWord 0x0A 0 f.sg.toNat) ((t.sReg f.sg.toNat).base + BitVec.ofInt 32 (off 32))))
  ) ∧ (
    ∀ (i : Issue) (f : FMem) (p : Nat) (s : State), Ready i s → memMode i f → f.dt.toNat < 8 →
      let t := s.thread i.hart
      let off := accessOffset i f 16 t
      let word (k : Nat) : W32 := BitVec.ofNat 32 (storedValue s.mem (p + 4 * k) 4).1
      let ok := descriptorOk i.hart.core.val (word 0) (word 1) (word 2) (word 3)
      let c : Instr := .ldseg i f
      (t.priv = true → FaceLoad i.hart f.sg.toNat off 16 16 p s → off % 16 = 0 →
        ((storedValue s.mem p 16).2 = false → ok = true →
          Retires c i s (postModified i f 16 t ++ [⟨rS f.dt.toNat, (storedValue s.mem p 12).1, false⟩]))
        ∧ (vectorReady i.hart s →
          ((storedValue s.mem p 16).2 = true → TrapsAt c i.hart s (causeWord 0x06 0 (24 + f.sg.toNat)) (w32 p))
          ∧ ((storedValue s.mem p 16).2 = false → ok = false → TrapsAt c i.hart s (causeWord 0x0B 0 (24 + f.sg.toNat)) (w32 p))))
      ∧ (vectorReady i.hart s → (t.priv = false → Traps c i.hart s (causeWord 0x05 0 0))
        ∧ (t.priv = true → off % 16 ≠ 0 →
          TrapsAt c i.hart s (causeWord 0x0A 0 (24 + f.sg.toNat)) ((t.sReg f.sg.toNat).base + BitVec.ofInt 32 off)))
  )

/-- R111, R114, R149, R173, R174: a store of one word of the own Face memory goes into the store buffer with its marks and feeds the pass signature,
except through S0; STK outside a sequence stores nothing (R134). R113, R115: vector stores and STSEG go into the store buffer; STSEG, in supervisor
state, as two halves of 8 bytes performed together (R150). How many entries a vector or segment store takes is the model's choice (log 13). -/
def Obligations.StoresGoIntoTheStoreBuffer : Prop :=
  (
    ∀ (i : Issue) (f : FMem) (p : Nat) (s : State), Ready i s → memMode i f → shadowPass (s.thread i.hart) = false →
      let t := s.thread i.hart
      let off (n : Nat) : Int := accessOffset i f n t
      let at_ (n : Nat) : Prop := FaceStore i.hart f.sg.toNat (off n) n 8 p s
      let d := t.dReg f.dt.toNat
      let e := t.dReg (f.dt.toNat + 1)
      let x := t.xReg f.dt.toNat
      let puts (c : Instr) (n ek v stored : Nat) (flag : Bool) : Prop :=
        Buffers c i s p (marked n stored flag) (storeRecord f.sg.toNat (off n) ek n v flag) (postModified i f n t)
      (at_ 1 → puts (.stb i f) 1 4 (d.bits.toNat % 2 ^ 8) (d.bits.toNat % 2 ^ 8) d.poison)
      ∧ (at_ 2 → puts (.sth i f) 2 4 (d.bits.toNat % 2 ^ 16) (d.bits.toNat % 2 ^ 16) d.poison)
      ∧ (at_ 3 → puts (.sts i f) 3 1 d.bits.toNat d.bits.toNat d.poison ∧ Retires (.stk i f) i s (postModified i f 3 t)
        ∧ (f.dt.toNat < 16 → puts (.sta i f) 3 4 (t.aReg f.dt.toNat).toNat (t.aReg f.dt.toNat).toNat false))
      ∧ (at_ 4 → puts (.stc i f) 4 2 d.bits.toNat (d.bits.toNat * 256) d.poison
        ∧ (f.dt.toNat % 2 = 0 → Buffers (.str i f) i s p (marked 3 d.bits.toNat d.poison ++ marked 1 e.bits.toNat e.poison)
            (storeRecord f.sg.toNat (off 4) 4 4 (d.bits.toNat + e.bits.toNat % 256 * 2 ^ 24) (d.poison || e.poison)) (postModified i f 4 t)))
      ∧ (at_ 8 → f.dt.toNat < 8 → puts (.stx i f) 8 3 x.bits.toNat (x.bits.signExtend 64).toNat x.poison)
  ) ∧ (
    ∀ (i : Issue) (f : FMem) (p : Nat) (s : State), Ready i s → memMode i f → shadowPass (s.thread i.hart) = false →
      let t := s.thread i.hart
      let k := s.core i.hart.core.val
      let off (n : Nat) : Int := accessOffset i f n t
      let lane (j : Nat) : Val 24 := t.dReg (f.dt.toNat + j)
      let records (n ek : Nat) : List SigRec := (List.range 8).flatMap fun j =>
        storeRecord f.sg.toNat (off (8 * n) + (n * j : Nat)) ek n (lane j).bits.toNat (lane j).poison
      (f.dt.toNat % 8 = 0 →
        (FaceStore i.hart f.sg.toNat (off 24) 24 32 p s → off 24 % 8 = 0 → Buffers (.vsts i f) i s p
          ((List.range 8).flatMap fun j => marked 3 (lane j).bits.toNat (lane j).poison) (records 3 1) (postModified i f 24 t))
        ∧ (FaceStore i.hart f.sg.toNat (off 32) 32 32 p s → off 32 % 8 = 0 → Buffers (.vstc i f) i s p
          ((List.range 8).flatMap fun j => marked 4 ((lane j).bits.toNat * 256) (lane j).poison) (records 4 2) (postModified i f 32 t)))
      ∧ (f.dt.toNat < 8 → t.priv = true → FaceStore i.hart f.sg.toNat (off 16) 16 16 p s → off 16 % 16 = 0 →
        let g := t.sReg f.dt.toNat
        let lo := g.base.toNat + g.attr.toNat * 2 ^ 32
        let hi := g.owner.toNat
        let halves := [⟨i.hart.thread, p, marked 8 lo false, true⟩, ⟨i.hart.thread, p + 8, marked 8 hi false, false⟩]
        let recs := storeRecord f.sg.toNat (off 16) 4 8 lo false ++ storeRecord f.sg.toNat (off 16 + 8) 4 8 hi false
        ∃ u, Retired { t with sig := recs.foldl feedSig t.sig } u (nextPc i t) none (postModified i f 16 t)
          ∧ Reaches (.stseg i f) s ((s.setThread i.hart u).setCore i.hart.core.val { k with stores := k.stores ++ halves }))
      ∧ (f.dt.toNat < 8 → t.priv = false → vectorReady i.hart s → Traps (.stseg i f) i.hart s (causeWord 0x05 0 0))
  )

/-- R137, R135: an exchange or add of the own Face memory, within one word, is one access: Dt receives what was there, the memory the new value, and
other threads' reservations of the word are broken. R149, R150: the oldest buffered store of a Hewer is performed in its Face memory, a split one with
both its halves; the store's thread keeps its own reservations (R135). -/
def Obligations.ExchangesAndBufferedStores : Prop :=
  (
    ∀ (i : Issue) (f : FMem) (p : Nat) (s : State), Ready i s → memMode i f → shadowPass (s.thread i.hart) = false →
      let t := s.thread i.hart
      let off : Int := accessOffset i f 3 t
      FaceLoad i.hart f.sg.toNat off 3 8 p s → FaceStore i.hart f.sg.toNat off 3 8 p s →
      let old := storedValue s.mem p 3
      let d := t.dReg f.dt.toNat
      let after (c : Instr) (v : Nat) (flag : Bool) : Prop :=
        ∃ u m, Retired { t with sig := (storeRecord f.sg.toNat off 4 3 v flag).foldl feedSig t.sig } u (nextPc i t) none
            (postModified i f 3 t ++ [wrD f.dt.toNat ⟨BitVec.ofNat 24 old.1, old.2⟩])
          ∧ Written s.mem m p (marked 3 v flag)
          ∧ Reaches c s { (breakReservations (some i.hart) (p / 8) (p / 8) s).setThread i.hart u with mem := m }
      after (.xchg i f) d.bits.toNat d.poison ∧ after (.fadd i f) ((old.1 + d.bits.toNat) % 2 ^ 24) (d.poison || old.2)
  ) ∧ (
    ∀ (c : Fin 32) (e : SbEntry) (rest : List SbEntry) (s : State), live s = true → coreOn c.val s = true →
      let placed (x : SbEntry) : Prop := x.bytes ≠ [] ∧ bankBase c.val ≤ x.addr ∧ x.addr + x.bytes.length ≤ bankBase c.val + 0x80000
        ∧ ∀ w, x.addr / 8 ≤ w → w ≤ (x.addr + x.bytes.length - 1) / 8 → soundWord s.mem w = true
      let breaks (x : SbEntry) : State → State :=
        breakReservations (some ⟨⟨c.val, by omega⟩, x.thread⟩) (x.addr / 8) ((x.addr + x.bytes.length - 1) / 8)
      let left (m : Mem) (l : List SbEntry) : State := ({ s with mem := m } : State).setCore c.val { s.core c.val with stores := l }
      (s.core c.val).stores = e :: rest → placed e → (∀ th : Fin 4, (s.thread ⟨⟨c.val, by omega⟩, th⟩).hold ≠ .storeBuffer) →
      (e.paired = false → ∃ m, Written s.mem m e.addr e.bytes ∧ Reaches (.storeBufferPerform c) s (breaks e (left m rest)))
      ∧ (∀ e' rest', e.paired = true → rest = e' :: rest' → e'.paired = false → placed e' →
        ∃ m m', Written s.mem m e.addr e.bytes ∧ Written m m' e'.addr e'.bytes
          ∧ Reaches (.storeBufferPerform c) s (breaks e' (breaks e (left m' rest'))))
  )

/-- R90, R160, R335, R339: what stops a load or store of one word: the limit, the segment's rights, the register window, and the checker's refusal,
which is recorded and ends in BUS_ERROR with reason 1. -/
def Obligations.AccessFaultsTrap : Prop :=
  ∀ (i : Issue) (f : FMem) (s : State), Ready i s → memMode i f → shadowPass (s.thread i.hart) = false → vectorReady i.hart s →
    let t := s.thread i.hart
    let g := t.sReg f.sg.toNat
    let off := accessOffset i f 3 t
    let addr : W32 := g.base + BitVec.ofInt 32 off
    let outside := off < 0 ∨ (g.limit : Int) < off + 3
    ((g.base.toNat : Int) + off) % 8 ≤ 5 →
    (outside → TrapsAt (.lds i f) i.hart s (causeWord 0x08 0 f.sg.toNat) addr
      ∧ TrapsAt (.sta i { f with dt := 0 }) i.hart s (causeWord 0x08 0 (8 + f.sg.toNat)) addr)
    ∧ (¬outside → g.readable = false → TrapsAt (.lds i f) i.hart s (causeWord 0x09 0 f.sg.toNat) addr)
    ∧ (¬outside → g.writable = false → TrapsAt (.sta i { f with dt := 0 }) i.hart s (causeWord 0x09 0 (8 + f.sg.toNat)) addr)
    ∧ (¬outside → g.readable = true → inWindow addr.toNat = true → TrapsAt (.lds i f) i.hart s (causeWord 0x0A 0 f.sg.toNat) addr)
    ∧ (¬outside → g.readable = true → i.hart.core.val < 32 → bankOf addr.toNat = some i.hart.core.val →
        ∀ cause rgn, mpuDecide i.hart.core.val ⟨BitVec.ofNat 8 i.hart.core.val, t.priv⟩ .read addr.toNat s = some (cause, rgn) →
        ∃ u, Entered t u (causeWord 0x0C 0 (32 + f.sg.toNat)) (vector i.hart s)
          ∧ Reaches (.lds i f) s (vectorFetched i.hart false
            (((mpuRecord i.hart.core.val ⟨BitVec.ofNat 8 i.hart.core.val, t.priv⟩ .read addr.toNat cause rgn s).setThread i.hart u).setReg
              (corePage i.hart.core.val) (0x050 + 4 * i.hart.thread.val) addr)))

/-- R148: an access of slot M that leaves the core's own Face memory holds the thread until its response. R114, R148, R37: the response of the fabric
completes a held register access: LDR receives what the page answers; STR is shown for BLK_EVT, whose events it clears. -/
def Obligations.FarAccessesAndResponses : Prop :=
  (
    ∀ (i : Issue) (f : FMem) (s : State), Ready i s → memMode i f → i.ext = none → shadowPass (s.thread i.hart) = false →
      let t := s.thread i.hart
      let g := t.sReg f.sg.toNat
      let off := accessOffset i f 4 t
      let addr := ((g.base.toNat : Int) + off).toNat
      0 ≤ off → off + 4 ≤ (g.limit : Int) → addr % 4 = 0 → addr < 2 ^ 32 → f.dt.toNat % 2 = 0 → g.gated = false →
      ¬(i.hart.core.val < 32 ∧ bankOf addr = some i.hart.core.val) →
      let held (c : Instr) (opc : Nat) (store : Bool) : Prop := ∃ lines, Reaches c s (s.setThread i.hart
        { t with buf := [sylWord true 0 opc (packMem f)], hold := .access store, lineBuf := lines, entering := none })
      (g.readable = true → held (.ldr i f) 0x50 false)
      ∧ (g.writable = true → (inWindow addr = true → (t.dReg f.dt.toNat).poison = false ∧ (t.dReg (f.dt.toNat + 1)).poison = false) →
          held (.str i f) 0x51 true)
  ) ∧ (
    ∀ (h : Hart) (f : FMem) (page off : Nat) (s : State),
      let i : Issue := ⟨h, true, none⟩
      let t := s.thread h
      let g := t.sReg f.sg.toNat
      let q : Requester := ⟨BitVec.ofNat 8 h.core.val, t.priv⟩
      let o := accessOffset i f 4 t
      memMode i f → shadowPass t = false → f.dt.toNat % 2 = 0 → (∃ b, t.hold = .access b) → t.rep = none → t.resume = none → t.locked = false → g.gated = false →
      live s = true → isThread h = true → t.running = true → coreRuns h s = true → checkpointHolds h s = false →
      0 ≤ o → o + 4 ≤ (g.limit : Int) → (regAddr page off : Int) = (g.base.toNat : Int) + o → off % 4 = 0 → off < 0x1000 → (pageKind page).isSome = true →
      let after (ws : List RegWrite) (s' : State) : Prop := ∃ u lines, Retired t u (t.pc + 4) none (postModified i f 4 t ++ ws)
        ∧ Reaches (.accessResponse h) s (s'.setThread h { u with lineBuf := lines, entering := t.entering })
      (g.readable = true → t.buf = [sylWord true 0 0x50 (packMem f)] →
        mpuDecide 76 q .read (mpuAddress .read (regAddr page off)) s = none →
        let r := pageRead page off s
        after [wrD f.dt.toNat ⟨r.1.setWidth 24, false⟩, wrD (f.dt.toNat + 1) ⟨(r.1 >>> 24).setWidth 24, false⟩] r.2)
      ∧ (g.writable = true → t.buf = [sylWord true 0 0x51 (packMem f)] → mpuDecide 76 q .write (regAddr page off) s = none → off = 0x00C →
        (t.dReg f.dt.toNat).poison = false → (t.dReg (f.dt.toNat + 1)).poison = false →
        let v : W32 := (t.dReg f.dt.toNat).bits.setWidth 32 ||| ((t.dReg (f.dt.toNat + 1)).bits.setWidth 32 <<< 24)
        after [] (s.setReg page off (s.reg page off &&& ~~~v)))
  )

/-- R130–R132: one element of a block instruction in supervisor state, in the own Face memory: the element is moved, the addresses advance, BN counts
down, and the bundle stays; the last one retires it, BSCAN with its peak, as BN = 0 does with no element. -/
def Obligations.BlockElementsAreMoved : Prop :=
  ∀ (i : Issue) (sd ad ss as_ dd : Nat) (p q : Nat) (s : State), Ready i s → i.ext = none → shadowPass (s.thread i.hart) = false →
    (s.thread i.hart).priv = true → (∀ b, (s.thread i.hart).block = some b → b.records = []) → sd < 8 → ad < 16 → ss < 8 → as_ < 16 → dd < 32 →
    let h := i.hart
    let t := s.thread h
    let k := s.core h.core.val
    let from_ (n unit : Nat) : Prop := FaceLoad h ss ((t.aReg as_).toNat : Int) n unit p s
    let onto (n unit : Nat) : Prop := FaceStore h sd ((t.aReg ad).toNat : Int) n unit q s
    let v := storedValue s.mem p
    let d := t.dReg dd
    let peak (kind : Nat) : Val 24 := match t.block with | some b => if b.kind = kind then b.peak else ⟨0, false⟩ | none => ⟨0, false⟩
    let step (c : Instr) (kind : Nat) (pk : Val 24) (advance : List (Nat × Nat)) (bytes : List (Byte × Bool)) (recs : List SigRec)
        (ws : List RegWrite) : Prop :=
      let moved : Thread := { (Thread.writeAll t (advance.map fun x => wrA x.1 (t.aReg x.1 + BitVec.ofNat 24 x.2))) with
        bn := t.bn - 1, sig := recs.foldl feedSig t.sig }
      let reaches (u : Thread) : Prop := Reaches c s (let s := s.setThread h u
        if bytes = [] then s else s.setCore h.core.val { k with stores := k.stores ++ [⟨h.thread, q, bytes, false⟩] })
      (1 < t.bn.toNat → ∃ lines, reaches { moved with block := some ⟨kind, pk, []⟩, lineBuf := lines, entering := none })
      ∧ (t.bn = 1 → ∃ u, Retired moved u (nextPc i t) none ws ∧ reaches u)
    let low := sd * 0x80000 + ad * 0x8000
    let bmov (w : Nat) : Instr := .bmov i (BitVec.ofNat 22 (low + ss * 0x1000 + as_ * 0x100 + w * 0x80))
    let bfill (w : Nat) : Instr := .bfill i (BitVec.ofNat 22 (low + dd * 0x400 + w * 0x200))
    let bscan : Instr := .bscan i (BitVec.ofNat 22 (dd * 0x20000 + ss * 0x4000 + as_ * 0x400))
    let bxform (neg : Nat) : Instr := .bxform i (BitVec.ofNat 22 (low + ss * 0x1000 + as_ * 0x100 + neg * 0x80))
    let sample (a : Nat) : Val 24 := ⟨BitVec.ofNat 24 (storedValue s.mem a 3).1, (storedValue s.mem a 3).2⟩
    let clamp (x : W24) : W24 := if x = 0x800000 then 0x800001 else x
    let offD : Int := ((t.aReg ad).toNat : Int)
    (t.bn ≠ 0 →
      (ad ≠ as_ → from_ 3 8 → onto 3 8 →
        step (bmov 0) 3 (peak 3) [(as_, 3), (ad, 3)] (marked 3 (v 3).1 (v 3).2) (storeRecord sd offD 1 3 (v 3).1 (v 3).2) [])
      ∧ (ad ≠ as_ → from_ 8 8 → onto 8 8 →
        step (bmov 1) 3 (peak 3) [(as_, 8), (ad, 8)] (marked 8 (v 8).1 (v 8).2) (storeRecord sd offD 4 8 (v 8).1 (v 8).2) [])
      ∧ (onto 3 8 → step (bfill 0) 4 (peak 4) [(ad, 3)] (marked 3 d.bits.toNat d.poison) (storeRecord sd offD 1 3 d.bits.toNat d.poison) [])
      ∧ (onto 8 8 →
        let x := (d.bits.signExtend 64).toNat
        step (bfill 1) 4 (peak 4) [(ad, 8)] (marked 8 x d.poison) (storeRecord sd offD 4 8 x d.poison) [])
      ∧ (from_ 3 8 →
        let m := (clamp (sample p).bits).toInt.natAbs
        let pk : Val 24 := ⟨BitVec.ofNat 24 (max (peak 5).bits.toNat m), (peak 5).poison || (sample p).poison⟩
        step bscan 5 pk [(as_, 3)] [] [] [wrD dd pk])
      ∧ (ad ≠ as_ → from_ 24 32 → onto 24 32 → (t.aReg as_).toNat % 8 = 0 → (t.aReg ad).toNat % 8 = 0 → ∀ neg < 2,
        let y (j : Nat) : Val 24 :=
          let x := sample (p + 3 * (7 - j))
          ⟨if neg = 1 then -clamp x.bits else x.bits, x.poison⟩
        step (bxform neg) 6 (peak 6) [(as_, 24), (ad, 24)] ((List.range 8).flatMap fun j => marked 3 (y j).bits.toNat (y j).poison)
          ((List.range 8).flatMap fun j => storeRecord sd (offD + (3 * j : Nat)) 1 3 (y j).bits.toNat (y j).poison) []))
    ∧ (t.bn = 0 →
      Retires bscan i s [wrD dd (peak 5)] ∧ Retires (bfill 0) i s [] ∧ (ad ≠ as_ → Retires (bmov 0) i s [] ∧ Retires (bxform 0) i s []))

/-! ### Locked sequences, interrupts and holds -/

/-- R134, R136: inside a sequence LDK reserves its word and STK buffers its store; UNLOCK performs the buffered stores together and writes 1, or
discards it and writes 0 where a reservation was broken; another control operation raises LOCK_FAULT, which ends the sequence. How the first and the
last bundle of a sequence count is the model's reading (log 14). -/
def Obligations.LockedSequencesAreAtomic : Prop :=
  ∀ (i : Issue) (f : FMem) (dc : BitVec 5) (p : Nat) (s : State), Poised i s → i.ext = none → memMode i f → (s.thread i.hart).locked = true →
    shadowPass (s.thread i.hart) = false → (s.thread i.hart).lock.bundles < 7 →
    let t := s.thread i.hart
    let l := t.lock
    let off := accessOffset i f 3 t
    let d := t.dReg f.dt.toNat
    let old := storedValue s.mem p 3
    let k := s.core i.hart.core.val
    let bytes (x : LockStore) := marked 3 x.val.bits.toNat x.val.poison
    let record (x : LockStore) : List SigRec := storeRecord x.seg.toNat (x.off.toNat : Int) 4 3 x.val.bits.toNat x.val.poison
    let fed (rs : List SigRec) : Thread := { t with sig := rs.foldl feedSig t.sig }
    let breaks (x : LockStore) : State → State := breakReservations (some i.hart) (x.addr / 8) (x.addr / 8)
    let may (x : LockStore) : Prop := x.addr % 8 ≤ 5 ∧ soundWord s.mem (x.addr / 8) = true ∧ bankOf x.addr = some i.hart.core.val
      ∧ panelRetired x.addr s = false ∧ mpuDecide i.hart.core.val ⟨BitVec.ofNat 8 i.hart.core.val, t.priv⟩ .write x.addr s = none
    let unlock : Instr := .unlock i (BitVec.ofNat 22 (dc.toNat * 0x20000))
    let closed (u : Thread) (ok : W24) : Thread := { u with
      sr := u.sr &&& ~~~0x80#32, lock := ⟨0, [], [], false⟩, d := sparseSet ⟨0, false⟩ u.d dc.toNat ⟨ok, false⟩ }
    (FaceLoad i.hart f.sg.toNat off 3 8 p s → (t.sReg f.sg.toNat).gated = false → l.words.length < 2 →
      (∀ w ∈ l.words, bankOf (8 * w) = some i.hart.core.val) → p / 8 ∉ l.words →
      ∃ u, Retired t u (nextPc i t) none (postModified i f 3 t ++ [wrD f.dt.toNat ⟨BitVec.ofNat 24 old.1, old.2⟩])
        ∧ Reaches (.ldk i f) s (s.setThread i.hart { u with lock := { l with bundles := l.bundles + 1, words := l.words ++ [p / 8] } }))
    ∧ (FaceStore i.hart f.sg.toNat off 3 8 p s → (t.sReg f.sg.toNat).gated = false → l.stores.length < 2 → p / 8 ∈ l.words →
      ∃ u, Retired t u (nextPc i t) none (postModified i f 3 t)
        ∧ Reaches (.stk i f) s (s.setThread i.hart
            { u with lock := { l with bundles := l.bundles + 1, stores := l.stores ++ [⟨p, d, f.sg, BitVec.ofInt 24 off⟩] } }))
    ∧ (l.broken = false → (∀ x ∈ l.stores, may x) → (∀ e ∈ k.stores, e.thread ≠ i.hart.thread) → i.hart.core.val < 32 →
      s.array i.hart.core.val = .on → (s.bank i.hart.core.val).owner.toNat = i.hart.core.val → (s.bank i.hart.core.val).draining = false →
      (∀ x, l.stores = [x] → ∃ u m, Retired (fed (record x)) u (nextPc i t) none [] ∧ Written s.mem m x.addr (bytes x)
        ∧ Reaches unlock s { (breaks x s).setThread i.hart (closed u 1) with mem := m })
      ∧ (∀ x y, l.stores = [x, y] → ∃ u m m', Retired (fed (record x ++ record y)) u (nextPc i t) none [] ∧ Written s.mem m x.addr (bytes x)
        ∧ Written m m' y.addr (bytes y) ∧ Reaches unlock s { (breaks y (breaks x s)).setThread i.hart (closed u 1) with mem := m' }))
    ∧ (l.broken = true → ∃ u, Retired t u (nextPc i t) none [] ∧ Reaches unlock s (s.setThread i.hart (closed u 0)))
    ∧ (vectorReady i.hart s → ∀ c ∈ [Instr.lock i 0, .wait i 0, .trap i 0], Traps c i.hart s (causeWord 0x07 3 0))

/-- R154–R158: a Hewer thread with interrupts enabled enters its vector with the event chosen for it in XCAUSE, and without one it stays. R125: a
thread in WAIT with interrupts disabled goes on once an event routed to it is pending, which stays pending. -/
def Obligations.InterruptsAndWaits : Prop :=
  (
    ∀ (h : Hart) (s : State), mayGoOn h s = true → h.core.val < 32 → (s.thread h).entering = none →
      let t := s.thread h
      (∀ e, mayAccept t = true → heldStore t = false → chosenEvent (.hewer h.core.val h.thread.val) s = some e →
        (∀ p, servingPin h.core.val true t s = some p → p.failed = none) →
        ∃ u, Entered t u (w32 (0x80000000 + (routePrio e s * 16 + e / 256 % 2) * 0x10000 + e % 256))
            (BitVec.ofNat 24 (vectorOffset h.core.val true s))
          ∧ Reaches (.interruptAccept h) s (s.setThread h u))
      ∧ (bit t.sr 1 = false ∨ chosenEvent (.hewer h.core.val h.thread.val) s = none → Answers (.interruptAccept h) s s)
  ) ∧ (
    ∀ (h : Hart) (s : State), mayGoOn h s = true → (s.thread h).hold = .wait → bit (s.thread h).sr 1 = false →
      let target : Target := if h.core.val < 32 then .hewer h.core.val h.thread.val else .overman h.thread.val
      ((chosenEvent target s).isSome = true → Answers (.waitResume h) s (s.setThread h { s.thread h with hold := .none }))
      ∧ (chosenEvent target s = none → Answers (.waitResume h) s s)
  )

/-- R151: the fill of a missing line of the own Face memory brings it into the cache, and the bundle that waited for it runs: shown for NOP. R153:
IFLUSH empties the instruction cache and the line buffers of its core, and the thread goes on. Which way of a full set a fill replaces is a free value
(log 12), and the statement holds for each. -/
def Obligations.LineFillsAndFlush : Prop :=
  (
    ∀ (h : Hart) (p : Nat) (s : State),
      let t := s.thread h
      let g := t.sReg 0
      mayGoOn h s = true → checkpointHolds h s = false → t.hold = .lineFill → t.buf = [sylWord true 1 0 0] → t.rep = none → t.resume = none →
      t.locked = false → h.core.val < 32 → g.executable = true → t.pc.toNat + 4 ≤ g.limit → p = g.base.toNat + t.pc.toNat → p % 4 = 0 →
      bankOf p = some h.core.val → t.lineBuf.find? (fun x => decide (x.1 = p / 64)) = none → cacheLine h.core.val (p / 64) s = none →
      mpuDecide h.core.val ⟨BitVec.ofNat 8 h.core.val, t.priv⟩ .fetch (p / 64 * 64) s = none → panelRetired p s = false →
      s.array h.core.val = .on → (s.bank h.core.val).owner.toNat = h.core.val → (s.bank h.core.val).draining = false →
      (∀ w, p / 64 * 8 ≤ w → w < p / 64 * 8 + 8 → soundWord s.mem w = true ∧ (s.mem.decoded w).2.2 = false) →
      ∃ t', exec (.lineFill h) s = .next t' ∧ cacheLine h.core.val (p / 64) t' = some 0 ∧ (wantsNext t (p / 64) = false → t'.mem = s.mem)
        ∧ (t'.thread h).pc = t.pc + 4 ∧ (t'.thread h).hold = .none ∧ (t'.thread h).retired = t.retired + 1
        ∧ (t'.thread h).d = t.d ∧ (t'.thread h).a = t.a ∧ (t'.thread h).sr = t.sr
  ) ∧ (
    ∀ (i : Issue) (s : State), Ready i s → i.ext = none →
      ∃ t', exec (.iflush i 0) s = .next t' ∧ (∀ line, cacheLine i.hart.core.val line t' = none)
        ∧ (∀ th : Fin 4, (t'.thread ⟨i.hart.core, th⟩).lineBuf = []) ∧ (t'.thread i.hart).pc = nextPc i (s.thread i.hart)
        ∧ (t'.thread i.hart).d = (s.thread i.hart).d ∧ (t'.thread i.hart).a = (s.thread i.hart).a
  )

/-- R260, R261: a CHECK of a voted replica opens a checkpoint, whose targets are counts that voted replicas have reached, and its thread stops there.
R138, R270: AGREE of a core with no partner writes its own value with a clear flag; that of a voted replica is offered and holds the thread. -/
def Obligations.ChecksAndAgree : Prop :=
  (
    ∀ (i : Issue) (s : State), Ready i s → i.ext = none → 32 ≤ i.hart.core.val →
      let r := i.hart.core.val - 32
      (s.replica r).role = .active → s.tri.ckOpen = false →
      ∃ t', exec (.check i 0) s = .next t' ∧ t'.tri.ckOpen = true ∧ t'.tri.ckBoundary = false
        ∧ sparseGet false (t'.replica r).atCheck i.hart.thread.val = true
        ∧ (t'.thread i.hart).retired = (s.thread i.hart).retired + 1 ∧ (t'.thread i.hart).pc = nextPc i (s.thread i.hart)
        ∧ checkpointHolds i.hart t' = true
        ∧ (∀ th < 2, ∃ v < 3, (s.replica v).role = .active ∧ sparseGet 0 t'.tri.targets th = retiredCount v th t')
  ) ∧ (
    ∀ (i : Issue) (dd ds : BitVec 5) (kind : BitVec 2) (s : State), Ready i s → i.ext = none → 32 ≤ i.hart.core.val → kind ≠ 3 →
      (s.thread i.hart).agreed = none →
      let t := s.thread i.hart
      let r := i.hart.core.val - 32
      let k := i.hart.thread.val
      let x := s.replica r
      let f : BitVec 22 := BitVec.ofNat 22 (dd.toNat * 0x20000 + ds.toNat * 0x1000 + kind.toNat * 0x400)
      let d := t.dReg ds.toNat
      (d.poison = false → x.role = .solo →
        ∃ u, Retired t u (nextPc i t) none [wrD dd.toNat ⟨d.bits, false⟩]
          ∧ Reaches (.agree i f) s ((s.setThread i.hart u).setReplica r { x with agreed := sparseSet 0 x.agreed k (sparseGet 0 x.agreed k + 1) }))
      ∧ (d.poison = false → x.role = .active →
        ∃ lines, Reaches (.agree i f) s
          ((s.setThread i.hart { t with buf := [sylWord true 3 0x34 f.toNat], hold := .agree, lineBuf := lines, entering := none }).setReplica r
            { x with offers := sparseSet none x.offers k (some ⟨d.bits, kind⟩) }))
      ∧ (d.poison = true → vectorReady i.hart s → Traps (.agree i f) i.hart s (causeWord 0x06 3 0))
  )

/-! ### The shift -/

/-- R46, R48: each edge comes in its order and opens the next segment of the shift; out of its order, or while a halt or reset holds the device,
nothing happens. R46, R56, R71, R379, R393, R455: a boundary opens a shift: ONS_SHIFT_NO and the shifts of the operating hour advance but at the first
one, ENABLE and RATE96 take effect, a buffer that is READY becomes active, and every 64th asks the power monitor. -/
def Obligations.EdgesAndBoundaries : Prop :=
  (
    ∀ s : State,
      let edges : List (Instr × Segment × Segment) :=
        [(.intakeEnd, .intake, .primary), (.primaryEnd, .primary, .shadow), (.shadowEnd, .shadow, .verdict), (.verdictEnd, .verdict, .drain),
          (.aditCopyCutoff, .drain, .cutoff), (.drainDeadline, .cutoff, .lamp)]
      ∀ e ∈ edges,
        (live s = true → s.ons.runs = true → s.ons.seg = e.2.1 → ∃ t, exec e.1 s = .next t ∧ t.ons.seg = e.2.2)
        ∧ (live s = false ∨ s.ons.runs = false ∨ s.ons.seg ≠ e.2.1 → Answers e.1 s s)
  ) ∧ (
    ∀ (inp : BoundaryIn) (s : State), live s = true → s.ons.runs = true → s.ons.seg = .lamp → s.getFld pgLrm 0x040 0 2 ≠ 3 → soloReplicas s = [] →
      ∃ t, exec (.shiftBoundary inp) s = .next t ∧ t.ons.seg = .intake ∧ t.ons.first = false
        ∧ shiftNo t = (if s.ons.first then shiftNo s else shiftNo s + 1)
        ∧ t.effReg pgOns 0x004 = s.reg pgOns 0x004
        ∧ t.nrg.hourShifts = (if s.ons.first then s.nrg.hourShifts else s.nrg.hourShifts + 1)
        ∧ (bit (s.reg pgLrm 0x080) 15 = true → (shiftNo t).toNat % 64 = 0 →
          t.nrg.asked = some (fld (s.reg pgLrm 0x080) 8 7, fld (s.reg pgLrm 0x080) 0 8))
        ∧ (rosterResult s = 2 → s.ons.readyLate = false →
          activeBuffer t = 1 - activeBuffer s ∧ rosterResult t = 5 ∧ bit (t.reg pgOns 0x00C) 1 = true)
        ∧ (rosterResult s ≠ 2 → activeBuffer t = activeBuffer s ∧ rosterResult t = rosterResult s)
  )

/-- R46, R64, R65: at each edge the Onsetter starts the hand-over of a Stope bank whose plan names another owner for the phase; at the boundary, which
the Adit's first access may follow at once and so end the hand-over (log 67), the owner of INTAKE. R66–R69: the ends of PRIMARY and SHADOW cut the
tasks that still run, and lose those not started: the loss is recorded, the thread is idle, and the next dispatch carries RESYNC (R171). -/
def Obligations.EdgesApplyThePlanAndCut : Prop :=
  (
    ∀ (k : Fin 16) (s : State), live s = true → s.ons.runs = true → s.active pgOns = true →
      let b := activeBuffer s
      bit (planB b k.val s) 31 = true → (s.bank (32 + k.val)).draining = false →
      let applied (c : Instr) (seg : Segment) (o : Nat) : Prop :=
        s.ons.seg = seg → (∀ n, o = n → n < 32 → quarantined n s = false) → ownerField (32 + k.val) s ≠ o →
        ∃ t, exec c s = .next t ∧ (t.bank (32 + k.val)).draining = true ∧ ownerField (32 + k.val) t = o
          ∧ (t.bank (32 + k.val)).owner = (s.bank (32 + k.val)).owner
      applied .intakeEnd .intake (fld (planA b k.val s) 8 8)
      ∧ applied .primaryEnd .primary (fld (planA b k.val s) 16 8)
      ∧ applied .shadowEnd .shadow (fld (planA b k.val s) 24 8)
      ∧ applied .verdictEnd .verdict (fld (planB b k.val s) 0 8)
      ∧ ∀ inp, s.ons.seg = .lamp → s.getFld pgLrm 0x040 0 2 ≠ 3 → soloReplicas s = [] → rosterResult s ≠ 2 → bit (s.reg pgOns 0x004) 0 = true →
        let o := fld (planA b k.val s) 0 8
        (o < 32 → quarantined o s = false ∧ (s.core o).quarantineDue = false) → ownerField (32 + k.val) s ≠ o →
        ∃ t, exec (.shiftBoundary inp) s = .next t ∧ ownerField (32 + k.val) t = o
          ∧ if (t.bank (32 + k.val)).draining then (t.bank (32 + k.val)).owner = (s.bank (32 + k.val)).owner
            else (t.bank (32 + k.val)).owner.toNat = o
  ) ∧ (
    ∀ (e : Nat) (r : TaskRec) (s : State), live s = true → s.ons.runs = true → s.task e = some r → r.hewer < 32 → r.thread < 4 →
      let lost (c : Instr) (causes : List (BitVec 4)) (stops : Bool) : Prop :=
        ∃ t, exec c s = .next t ∧ (∃ k ∈ causes, t.task e = some { r with st := .lost k }) ∧ sparseGet false t.ons.owed e = true
          ∧ bit (t.reg pgOns 0x00C) 3 = true
          ∧ (stops = true → (t.thread (hewerThread r.hewer r.thread)).running = false
              ∧ bit (t.reg (pgHwr r.hewer) (0x060 + 4 * r.thread)) 31 = false)
      (s.ons.seg = .primary → (r.st = .inPrimary → lost .primaryEnd [1] true) ∧ (r.st = .waiting → lost .primaryEnd [3, 4] false))
      ∧ (s.ons.seg = .shadow → (r.st = .inShadow → lost .shadowEnd [2] true) ∧ (r.st = .donePrimary → lost .shadowEnd [3, 4] false))
  )

/-- R178: the verdict on a task that has completed both passes, without a predecessor, by a sound comparator (R179): MATCH if its signatures, sound
and unpoisoned, are equal, MISMATCH if they differ, POISONED if one is poisoned; any but MATCH owes a RESYNC (R171). R62, R80, R177: a pass whose
TDONE has retired completes once its stores have been performed: products land, the signature, with the records still held back (R173), is stored for
the pass, the task register is invalid and the task has completed the pass; with a store pending it does not complete. -/
def Obligations.PassesAndVerdicts : Prop :=
  (
    ∀ (e : Nat) (r : TaskRec) (s : State), live s = true → s.ons.runs = true → s.ons.seg = .shadow → s.task e = some r → r.st = .done → r.after = none →
      s.comparator r.hewer = .sound →
      let a := storedSig e 0 s
      let b := storedSig e 1 s
      classify a.bits a.check = .clean → classify b.bits b.check = .clean →
      let v : Verdict := if a.poison || b.poison then .poisoned else if a.bits = b.bits then .matched else .mismatch
      ∃ t, exec .shadowEnd s = .next t ∧ sparseGet Verdict.none t.ons.outcomes e = v
        ∧ (v ≠ .matched → sparseGet false t.ons.owed e = true)
  ) ∧ (
    ∀ (h : Hart) (r : TaskRec) (s : State), live s = true → h.core.val < 32 → (s.thread h).hold = .passEnd →
      let v := s.reg (pgHwr h.core.val) (0x060 + 4 * h.thread.val)
      let e := fld v 0 10
      let p := fld v 29 1
      ((∀ x ∈ (s.core h.core.val).stores, x.thread ≠ h.thread) → s.task e = some r →
        ∃ t, exec (.taskPassComplete h) s = .next t ∧ (t.thread h).running = false ∧ (t.thread h).p = (flushLatch (s.thread h)).p
          ∧ (t.thread h).d = (s.thread h).d ∧ storedSig e p t = (s.thread h).parked.reverse.flatten.foldl feedSig (s.thread h).sig
          ∧ bit (t.reg (pgHwr h.core.val) (0x060 + 4 * h.thread.val)) 31 = false
          ∧ t.task e = some { r with st := if p = 0 then .donePrimary else .done })
      ∧ ((∃ x ∈ (s.core h.core.val).stores, x.thread = h.thread) → ∃ t, exec (.taskPassComplete h) s = .next t ∧ (t.thread h) = s.thread h)
  )

/-- R19: a crossing FIFO delivers its transfers in order, one at a time, and drops none; a full one holds its source back. The depth is a constant
that no rule gives (log 71). -/
def Obligations.CrossingsKeepTheirOrder : Prop :=
  ∀ (src dst : Fin 48) (offered : List W64) (s : State), src ≠ dst → halted s = false → s.life.phase ≠ .asserted →
    let key := 48 * src.val + dst.val
    let c := sparseGet idleCrossing s.crossings key
    let depth := max 1 (Config.crossingDepth key)
    ∃ t, exec (.crossingDelivery src dst offered) s = .next t
      ∧ (∀ k, k ≠ key → sparseGet idleCrossing t.crossings k = sparseGet idleCrossing s.crossings k)
      ∧ let c' := sparseGet idleCrossing t.crossings key
        (c.waiting ++ c.held ++ offered = [] → c' = c)
        ∧ (∀ x rest, c.waiting ++ c.held ++ offered = x :: rest → c'.delivered = [x] ∧ c'.waiting ++ c'.held = rest)
        ∧ (c.waiting.length ≤ depth → c'.waiting.length ≤ depth) ∧ (c'.held ≠ [] → depth ≤ c'.waiting.length + 1)

/-- R60, R61, R171: the Onsetter dispatches the lowest task of an idle thread whose predecessor has completed the pass, in PRIMARY and again in
SHADOW: the registers of R61, the task register with RESYNC, and nothing else but the thread and the Onsetter. R60: a thread that runs, that has no
task left for the pass, or whose next task waits on its predecessor, is not dispatched. That XPC keeps its value at a dispatch is the model's reading
(log 15). -/
def Obligations.DispatchStartsThePass : Prop :=
  (
    ∀ (h : Hart) (pass e : Nat) (r : TaskRec) (s : State), live s = true → h.core.val < 32 → (s.thread h).running = false → s.guard.safe = false →
      (s.core h.core.val).lockup = false → (pass = 0 ∧ s.ons.seg = .primary ∨ pass = 1 ∧ s.ons.seg = .shadow) →
      nextTask h.core.val h.thread.val (if pass = 0 then .waiting else .donePrimary) s = some (e, r) → predReady r pass s = true → e < 1024 → r.xform < 4 →
      let n := h.core.val
      let resync := if pass = 0 then sparseGet false s.ons.owed e || decide (sparseGet none s.ons.lastHewer e ≠ some n) else r.resync
      ∃ u o, Answers (.taskDispatch h) s
          ({ (s.setReg (pgHwr n) (0x060 + 4 * h.thread.val)
              (w32 (0x80000000 + b2n resync * 0x40000000 + pass * 0x20000000 + r.xform * 0x8000000 + e))).setThread h u with ons := o })
        ∧ u.pc = r.entry ∧ u.aReg 0 = r.arg ∧ u.dReg 0 = ⟨BitVec.ofNat 24 pass, false⟩
        ∧ (∀ k, k ≠ 0 → u.aReg k = 0 ∧ u.dReg k = ⟨0, false⟩ ∧ u.sReg k = ⟨0, 0, 0⟩) ∧ (∀ k, u.xReg k = ⟨0, false⟩ ∧ u.pReg k = ⟨0, false⟩)
        ∧ u.sReg 0 = ⟨w32 (n * 0x80000), 0x07080000, w32 n⟩ ∧ u.rc = 0 ∧ u.bn = 0 ∧ bit u.sr 0 = true ∧ u.sig = ⟨0, 0, false⟩
        ∧ u.running = true ∧ u.hold = .none ∧ u.buf = [] ∧ u.rep = none
        ∧ sparseGet none o.tasks e = some { r with st := if pass = 0 then .inPrimary else .inShadow, resync := resync }
        ∧ (∀ k, k ≠ e → sparseGet none o.tasks k = s.task k) ∧ (pass = 0 → sparseGet false o.owed e = false ∧ sparseGet none o.lastHewer e = some n)
  ) ∧ (
    ∀ (h : Hart) (s : State), s.ons.seg = .primary →
      ((s.thread h).running = true ∨ s.guard.safe = true ∨ nextTask h.core.val h.thread.val .waiting s = none
        ∨ (∃ e r, nextTask h.core.val h.thread.val .waiting s = some (e, r) ∧ predReady r 0 s = false)) →
      Answers (.taskDispatch h) s s
  )

/-- R55, R56: SWITCH starts a validation unless one is pending or READY, CANCEL before it cancels such a switch; the result of a validation is READY
or the first failing check. That SWITCH and CANCEL leave BAD_CAUSE and BAD_INDEX as they stand is the model's choice (log 73). -/
def Obligations.RosterSwitchesAreValidated : Prop :=
  ∀ (q : Requester) (s : State), 
    let busy := rosterResult s = 1 ∨ rosterResult s = 2
    let result (x : Nat) : State := s.setReg pgOns 0x044 (withField (s.reg pgOns 0x044) 0 3 x)
    (Admitted q .write pgOns 0x040 s → pageOn pgOns s = true →
      (¬busy → Writes (.rosterSwitch q false) s (result 1) ∧ Writes (.rosterSwitch q true) s (result 1) ∧ Writes (.rosterCancel q) s s)
      ∧ (busy → Writes (.rosterSwitch q false) s s ∧ Writes (.rosterSwitch q true) s (result 1) ∧ Writes (.rosterCancel q) s (result 4)))
    ∧ (fabricUp s = true → rosterResult s = 1 →
      let b := 1 - activeBuffer s
      let r := readRoster b s
      ∃ t, exec .rosterValidationDone s = .next t
        ∧ (∀ c i, rosterCheck r.1 b (r.2.setReg pgOns 0x048 (crc32 (bufferBytes b r.2))) = some (c, i) → c < 16 → i < 1024 →
          rosterResult t = 3 ∧ t.getFld pgOns 0x044 8 8 = c ∧ t.getFld pgOns 0x044 16 10 = i ∧ bit (t.reg pgOns 0x00C) 2 = true)
        ∧ (rosterCheck r.1 b (r.2.setReg pgOns 0x048 (crc32 (bufferBytes b r.2))) = none → rosterResult t = 2)
        ∧ t.reg pgOns 0x048 = crc32 (bufferBytes b r.2))

/-! ### Registers, banks, logs, Winders and the correction plant -/

/-- R31–R34, R41, R42: what a register write is answered and does: outside the window, refused by the checker, of an unlisted page, of another size,
at a peek or unnamed offset, of a page without power (PAGE_OFF), of the lockable BLK_CTRL and BLK_EVT_EN. R35–R37, R39, R40, R403: the header
registers: events are cleared and set by ones (that of a limit still exceeded stands), BLK_ERR_CODE.CLR clears the record, the lock closes with 0x5A
then 0xC3 of one master, a power request is kept until the boundary; and what recording an error does. The order of the checks of an unlisted page and
of the size is the model's reading (log 54). -/
def Obligations.RegisterAccessesAreDecided : Prop :=
  (
    ∀ (q : Requester) (addr : W32) (size : Nat) (data : W32) (s : State), fabricUp s = true → masterIssues q.master.toNat s = true →
      addr.toNat % max 1 size = 0 →
      let c : Instr := .registerWrite q addr size data
      let a := addr.toNat
      let r := settledRequester q
      let p := (a - 0x10000000) / 0x1000
      let off := a % 0x1000
      let allowed := inWindow a = true ∧ mpuDecide 76 r .write a s = none
      (inWindow a = false → Answers c s (s.setAnswer (.error 4)))
      ∧ (∀ cause rgn, inWindow a = true → mpuDecide 76 r .write a s = some (cause, rgn) →
          Answers c s ((mpuRecord 76 r .write a cause rgn s).setAnswer (.error 1)))
      ∧ (allowed → pageKind p = none → Answers c s (s.setAnswer (.error 4)))
      ∧ (∀ k i, allowed → pageKind p = some (k, i) →
        (size ≠ 4 → Answers c s (s.setAnswer (.error 5)))
        ∧ (size = 4 → 0x800 ≤ off ∨ (0x040 ≤ off ∧ findDesc k off = none) → Writes c s s)
        ∧ (size = 4 → 0x040 ≤ off → off < 0x800 → (findDesc k off).isSome = true → pageOn p s = false → Writes c s (refuseWrite p off 0x04 s))
        ∧ (size = 4 → off = 0x004 →
          let mask : W32 := if k = .ons ∨ k = .wdg then 0x10001 else 1
          (s.isLocked p = false → Writes c s (s.setReg p off (data &&& mask)))
          ∧ (s.isLocked p = true → Writes c s ((refuseWrite p off 0x01 s).setReg p off (s.reg p off &&& mask))))
        ∧ (size = 4 → off = 0x010 → s.isLocked p = false → Writes c s (s.setReg p off (data ||| w32 (forcedEn k)))))
  ) ∧ (
    (∀ (q : Requester) (p : Nat) (data : W32) (s : State),
      (Admitted q .write p 0x00C s →
        let cleared := s.setReg p 0x00C (s.reg p 0x00C &&& ~~~data)
        Writes (.blkEvtClear q p data) s (if p = pgBel then monitorsHold cleared else cleared))
      ∧ (Admitted q .write p 0x014 s → ∀ k i, pageKind p = some (k, i) → Writes (.blkEvtSetWrite q p data) s
          (if s.isLocked p then s else s.setReg p 0x00C (s.reg p 0x00C ||| (data &&& w32 (eventBits k)))))
      ∧ (Admitted q .write p 0x020 s →
        let e := (s.setReg p 0x020 0).setReg p 0x024 0
        ∀ k i, pageKind p = some (k, i) → Writes (.blkErrCodeClr q p) s
          (if k = .mpu then e.setReg p 0x044 0 else if k = .tdm then e.setReg p 0x04C (withField (e.reg p 0x04C) 8 8 0) else e))
      ∧ (Admitted q .write p 0x028 s →
        let key := fld data 0 8
        let c : Instr := .blkLockWrite q p data
        (s.lockOf p = .locked → Writes c s s)
        ∧ (s.lockOf p = .unlocked → Writes c s (if key = 0x5A then s.setLock p (.armed q.master) else refuseWrite p 0x028 0x02 s))
        ∧ (∀ m, s.lockOf p = .armed m → Writes c s
            (if key = 0xC3 ∧ q.master = m then s.setLock p .locked else refuseWrite p 0x028 0x02 (s.setLock p .unlocked))))
      ∧ (Admitted q .write p 0x01C s →
        let c : Instr := .blkPwrWrite q p data
        let req := fld data 0 2
        let retired := ∃ r, pageKind p = some (.ovmRep, r) ∧ (s.replica r).role = .retired
        (powerUnit p = .nothing ∨ s.guard.safe = true ∨ retired → Writes c s s)
        ∧ (powerUnit p ≠ .nothing → s.guard.safe = false → ¬retired →
          Writes c s (if req = 3 then refuseWrite p 0x01C 0x06 s else { s.setReg p 0x01C (withField (s.reg p 0x01C) 0 2 req) with
            pwrAsked := sparseSet false s.pwrAsked p true }))))
    ∧ (∀ (p code addr : Nat) (s : State), 0 < code → code < 256 →
      let t := recordError p code addr s
      (s.getFld p 0x020 0 8 = 0 → t.getFld p 0x020 0 8 = code ∧ t.reg p 0x024 = w32 addr)
      ∧ (s.getFld p 0x020 0 8 ≠ 0 → t.getFld p 0x020 0 8 = s.getFld p 0x020 0 8 ∧ t.reg p 0x024 = s.reg p 0x024)
      ∧ t.getFld p 0x020 8 8 = min 255 (s.getFld p 0x020 8 8 + 1) ∧ bit (t.reg p 0x00C) 0 = true
      ∧ t = { s with regs := t.regs }
      ∧ ∀ p' off, off % 4 = 0 → off < 0x800 → ¬(p' = p ∧ (off = 0x00C ∨ off = 0x020 ∨ off = 0x024)) → t.reg p' off = s.reg p' off)
  )

/-- R36, R38, R292–R295, R300: a write of a bank's owner that the bank permits starts a hand-over, which its completion ends once the port has
answered what it took from the old owner; banks 48 to 51 hold no WND_MASK; an invalidation clears its words. How many words an invalidation clears at
once is a free value (log 35). -/
def Obligations.BanksChangeHands : Prop :=
  ∀ (q : Requester) (b : Fin 52) (data : W32) (s : State),
    let p := pgBnk b.val
    let k := s.bank b.val
    let o := fld data 0 8
    let masked : W32 := if b.val < 48 then withField (s.reg p 0x018) 16 16 (fld data 16 16) else s.reg p 0x018
    (Admitted q .write p 0x018 s →
      let c : Instr := .blkOwnerWrite q p data
      (k.draining = true → Writes c s (refuseWrite p 0x018 0x05 s))
      ∧ (k.draining = false → ownerPermitted b.val o = false → Writes c s (refuseWrite p 0x018 0x06 s))
      ∧ (k.draining = false → ownerPermitted b.val o = true → o = k.owner.toNat →
        Writes c s (if b.val < 48 then s.setReg p 0x018 masked else s))
      ∧ (k.draining = false → ownerPermitted b.val o = true → o ≠ k.owner.toNat →
        Writes c s (breakReservations none (bankBase b.val / 8) ((bankBase b.val + bankSize b.val) / 8 - 1)
          ((s.setReg p 0x018 (withField masked 0 8 o)).setBank b.val { k with draining := true }))))
    ∧ (fabricUp s = true → k.draining = false ∨ drainOpen b.val s = true → Answers (.ownerDrainDone b) s s)
    ∧ (fabricUp s = true → k.draining = true → drainOpen b.val s = false → (b.val < 32 → (s.core b.val).stores = []) →
      ∃ t, exec (.ownerDrainDone b) s = .next t ∧ (t.bank b.val).owner = BitVec.ofNat 8 (ownerField b.val s)
        ∧ (k.next = none → (t.bank b.val).draining = false ∧ ownerField b.val t = ownerField b.val s) ∧ t.mem = s.mem)
    ∧ (∀ n : BitVec 19, Admitted q .write p 0x048 s → pageOn p s = true →
      let c : Instr := .bankInvalidateGo q b n
      let lo := s.getFld p 0x044 3 21
      (bit (s.reg p 0x048) 31 = true → Writes c s (refuseWrite p 0x048 0x42 s))
      ∧ (bit (s.reg p 0x048) 31 = false → n = 0 ∨ bankSize b.val < 8 * (lo + n.toNat) → Writes c s (refuseWrite p 0x048 0x06 s))
      ∧ (bit (s.reg p 0x048) 31 = false → n ≠ 0 → 8 * (lo + n.toNat) ≤ bankSize b.val → s.array b.val = .on →
        ∃ t, exec c s = .next t ∧ t.reg p 0x048 = w32 (0x80000000 + n.toNat) ∧ (t.bank b.val).inv.isSome = true
          ∧ ∀ w, ¬(bankBase b.val / 8 + lo ≤ w ∧ w < bankBase b.val / 8 + lo + n.toNat) → t.mem.info w = s.mem.info w))
    ∧ (∀ lo mid hi, live s = true → k.inv = some (lo, mid, hi) → s.array b.val = .on →
      ∃ t, exec (.invDone b) s = .next t ∧ bit (t.reg p 0x048) 31 = false ∧ bit (t.reg p 0x00C) 3 = true ∧ (t.bank b.val).inv = none
        ∧ (∀ w, mid ≤ w → w < hi → panelRetired (8 * w / 4096 * 4096) s = false → t.mem.valid w = false)
        ∧ (∀ w, ¬(mid ≤ w ∧ w < hi) → t.mem.info w = s.mem.info w))
    ∧ (live s = true → k.inv = none → Answers (.invDone b) s s)

/-- R186, R71, R205: each log register returns its oldest entry and removes it; empty, it reads 0 and nothing changes. -/
def Obligations.LogsReturnTheirOldestEntry : Prop :=
  ∀ (q : Requester) (v : W32) (rest : List W32) (s : State),
    (∀ n : Fin 32, Admitted q .read (pgHwr n.val) 0x074 s → pageOn (pgHwr n.val) s = true →
      ((s.core n.val).mmLog = v :: rest → Reads (.mmLogRead q n) s v (s.setCore n.val { s.core n.val with mmLog := rest }))
      ∧ ((s.core n.val).mmLog = [] → Reads (.mmLogRead q n) s 0 (s.setCore n.val { s.core n.val with mmLog := [] })))
    ∧ (Admitted q .read pgOns 0x064 s → pageOn pgOns s = true →
      (s.ons.cutLog = v :: rest → Reads (.cutLogRead q) s v { s with ons := { s.ons with cutLog := rest } })
      ∧ (s.ons.cutLog = [] → Reads (.cutLogRead q) s 0 s))
    ∧ (Admitted q .read pgTpl 0x080 s → pageOn pgTpl s = true →
      (s.tpl.log = v :: rest → Reads (.failLogRead q) s v { s with tpl := { s.tpl with log := rest } })
      ∧ (s.tpl.log = [] → Reads (.failLogRead q) s 0 s))

/-- R307, R309, R310: START of an idle channel with TRIG begins its run, ignored while it runs; STOP ends a run at an element; RESUME continues a
stopped run of a privileged channel; an element of a repeat is moved and counted. What a STOP of a privileged channel before its first entry is read
leaves, and that a START in the Lamp interval waits, is the model's reading (log 60). -/
def Obligations.WindersRunTheirChannels : Prop :=
  ∀ (q : Requester) (d : Fin 4) (c : Fin 16) (data : W32) (s : State),
    let p := pgWnd d.val
    let ctl := wndOff c.val 0
    let stat := wndOff c.val 0x18
    let key := 16 * d.val + c.val
    let mask : W32 := if c.val < 4 then 0xC0000000 else 0xFE000000
    let kept := (s.reg p ctl &&& ~~~mask) ||| (data &&& mask)
    let state := fld (s.reg p stat) 29 3
    (Admitted q .write p ctl s → pageOn p s = true → s.isLocked p = false → ¬(4 ≤ c.val ∧ fld data 30 2 = 2) →
      (data &&& 6 = 0 → state ≠ 1 → fld data 30 2 ≠ 0 → s.ons.seg ≠ .lamp →
        Writes (.winderStart q d c data) s
          (((s.setReg p ctl (withField kept 0 1 1)).setReg p stat 0x20000000).setWinder key ⟨false, false, none, 0, false⟩))
      ∧ (data &&& 6 = 0 → state = 1 ∨ fld data 30 2 = 0 → Writes (.winderStart q d c data) s (s.setReg p ctl kept))
      ∧ (data &&& 5 = 0 → state = 1 →
        ∃ t, exec (.winderStop q d c data) s = .next t ∧ bit (t.reg p ctl) 0 = false ∧ fld (t.reg p stat) 0 8 = min 255 (fld (s.reg p stat) 0 8 + 1)
          ∧ bit (t.reg p 0x048) (16 + c.val) = true ∧ (fld (t.reg p stat) 29 3 = 3 ∨ (fld (t.reg p stat) 29 3 = 2 ∧ c.val < 4))
          ∧ ((wndCheck d.val c.val .write (wndEntryAddr d.val c.val s + 12) 4 s).1 = none → fld (t.reg p stat) 29 3 = 3))
      ∧ (data &&& 5 = 0 → state = 1 → 4 ≤ c.val →
        let n := fld (s.reg p stat) 16 8
        let v := withField (withField (withField (s.reg p stat) 28 1 0) 29 3 3) 0 8 (min 255 (fld (s.reg p stat) 0 8 + 1))
        Writes (.winderStop q d c data) s
          (((((s.setReg p ctl (withField kept 0 1 0)).setReg p stat (if (s.winder key).erred then v else withField v 8 8 n)).setReg p 0x048
            (withField (s.reg p 0x048) (16 + c.val) 1 1)).setEvt p 2).setWinder key { s.winder key with erred := true }))
      ∧ (data &&& 5 = 0 → state ≠ 1 → Writes (.winderStop q d c data) s (s.setReg p ctl kept))
      ∧ (data &&& 3 = 0 → c.val < 4 → state = 3 → s.ons.seg ≠ .lamp →
        Writes (.winderResume q d c data) s ((s.setReg p ctl (withField kept 0 1 1)).setReg p stat (withField (s.reg p stat) 29 3 1)))
      ∧ (data &&& 3 = 0 → 4 ≤ c.val ∨ state ≠ 3 → Writes (.winderResume q d c data) s (s.setReg p ctl kept)))
    ∧ (live s = true → state ≠ 1 → ∀ n, Answers (.winderEntry d c n) s s)
    ∧ (∀ src dst : Nat, live s = true → haltPending s = false → 4 ≤ c.val → state = 1 → fld (s.reg p ctl) 25 5 = 0 →
      let w := s.winder key
      let rep := fld (s.reg p stat) 16 8
      let stride := s.reg p (wndOff c.val 0x10)
      w.job = none → w.done + 1 < fld (s.reg p (wndOff c.val 0xC)) 0 16 →
      src = (BitVec.ofInt 32 (((s.reg p (wndOff c.val 4)).toNat : Int) + rep * (stride.setWidth 16).toInt + 3 * w.done)).toNat →
      dst = (BitVec.ofInt 32 (((s.reg p (wndOff c.val 8)).toNat : Int) + rep * ((stride >>> 16).setWidth 16).toInt + 3 * w.done)).toNat →
      wndCheck d.val c.val .read src 3 s = (none, s) → wndCheck d.val c.val .write dst 3 s = (none, s) →
      (∀ x, src / 8 ≤ x → x ≤ (src + 2) / 8 → soundWord s.mem x = true) → (∀ x, dst / 8 ≤ x → x ≤ (dst + 2) / 8 → soundWord s.mem x = true) →
      ∃ m, Written s.mem m dst ((List.range 3).map fun k => storedByte s.mem (src + k))
        ∧ Answers (.winderEntry d c 0) s
          ((breakReservations none (dst / 8) ((dst + 2) / 8) { s with mem := m }).setWinder key { w with done := w.done + 1 }))

/-- R318, R324, R326, R327, R329: the ledgers, retirement, the scrubber and the self-test. How many words a scrub has read at its STOP is a free value
(log 41); the panel decode (repairPanel) and the outcome of the self-test (selftestOutcome) follow the model's reading (log 80). -/
def Obligations.LedgersScrubsAndSelfTests : Prop :=
  ∀ (q : Requester) (g : Fin 10) (s : State),
    let e := pgEcc g.val
    let k := pgScb g.val
    (∀ (w : Fin 64) (data : W32), Admitted q .write e (0x400 + 4 * w.val) s →
      let off := 0x400 + 4 * w.val
      let room := min 32 (groupPanels g.val - 32 * w.val)
      Writes (.eccRetireWrite q g w data) s (if q.master = 0x23 ∨ q.master = 0xFF
        then s.setReg e off (s.reg e off ||| w32 (data.toNat % 2 ^ room)) else refuseWrite e off 0x40 s))
    ∧ (Admitted q .write e 0x044 s →
      (∃ t, exec (.eccClrAll q g) s = .next t ∧ fld (t.reg e 0x048) 0 7 = 0
        ∧ (∀ i < 64, t.reg e (0x200 + 8 * i) = 0 ∧ t.reg e (0x204 + 8 * i) = 0) ∧ t.reg e 0x040 = s.reg e 0x040 ∧ t.mem = s.mem)
      ∧ Writes (.eccClrCounts q g) s ((s.setReg e 0x040 0).setReg e 0x048 (withField (s.reg e 0x048) 16 16 0))
      ∧ ∀ j : Fin 64, ∃ t, exec (.eccClrOne q g j) s = .next t ∧ t.reg e (0x200 + 8 * j.val) = 0 ∧ t.reg e (0x204 + 8 * j.val) = 0
        ∧ (∀ i < 64, i ≠ j.val → t.reg e (0x200 + 8 * i) = s.reg e (0x200 + 8 * i) ∧ t.reg e (0x204 + 8 * i) = s.reg e (0x204 + 8 * i))
        ∧ t.mem = s.mem)
    ∧ (Admitted q .write e 0x04C s →
      (bit (s.reg e 0x04C) 0 = true → Writes (.eccSelftestGo q g) s (refuseWrite e 0x04C 0x42 s))
      ∧ (bit (s.reg e 0x04C) 0 = false → Writes (.eccSelftestGo q g) s ((s.setReg e 0x04C (withField (s.reg e 0x04C) 0 1 1)).setReg e 0x050
          (w32 (0x20000000 + skippedBanks g.val s)))))
    ∧ (live s = true → bit (s.reg e 0x04C) 0 = true →
      let ended : State := { (s.setReg e 0x04C (withField (s.reg e 0x04C) 0 1 0)).setEvt e 5 with panels := (runTestPanels g.val s).panels }
      (selftestOutcome g.val none s = none → Answers (.eccSelftestDone g none) s (ended.setReg e 0x050 (withField (s.reg e 0x050) 29 3 2)))
      ∧ ∀ (b : Nat) (n : Fin 9), b < (groupBanks g.val).length →
        let bank (j : Nat) : Nat := (groupBanks g.val).getD j 0
        bankPower (bank b) s = .on → (∀ j < b, bankPower (bank j) s ≠ .on) ∨ selftestOutcome g.val none s = none →
        ∃ t, exec (.eccSelftestDone g (some (bank b, n))) s = .next t ∧ fld (t.reg e 0x050) 29 3 = 3 ∧ fld (t.reg e 0x050) 24 5 = b
          ∧ fld (t.reg e 0x050) 20 4 = n.val ∧ bit (t.reg e 0x00C) 5 = true ∧ bit (t.reg e 0x00C) 6 = true
          ∧ (s.life.phase = .running → t.guard.safe = true))
    ∧ (Admitted q .write k 0x048 s → bit (s.reg k 0x048) 0 = false →
      let lo := (s.reg k 0x040).toNat / 8
      let n := fld (s.reg k 0x044) 0 21
      let first := groupBase g.val / 8
      (n = 0 ∨ lo < first ∨ first + 512 * groupPanels g.val < lo + n → Writes (.scrubGo q g) s (refuseWrite k 0x048 0x06 s))
      ∧ (n ≠ 0 → first ≤ lo → lo + n ≤ first + 512 * groupPanels g.val →
        ∃ t, exec (.scrubGo q g) s = .next t ∧ bit (t.reg k 0x048) 0 = true ∧ t.reg k 0x04C = 0x20000000
          ∧ (∀ off ∈ [0x050, 0x054, 0x058, 0x05C, 0x060, 0x064], t.reg k off = 0) ∧ t.mem = s.mem
          ∧ scrubOf g.val t = some ⟨lo, lo + n, bit (s.reg k 0x048) 8, false⟩))
    ∧ (Admitted q .write k 0x048 s → bit (s.reg k 0x048) 0 = true → (scrubOf g.val s).isSome = true →
      ∃ t, exec (.scrubStop q g) s = .next t ∧ scrubOf g.val t = none ∧ bit (t.reg k 0x048) 0 = false ∧ fld (t.reg k 0x04C) 29 3 = 3)
    ∧ (∀ w found, live s = true → scrubOf g.val s = some ⟨w, w + 1, false, found⟩ → scrubSkips (w / 512) s = false → soundWord s.mem w = true →
      groupBase g.val / 8 ≤ w → w < groupBase g.val / 8 + 512 * groupPanels g.val → ∃ t, exec (.scrubDone g) s = .next t ∧ scrubOf g.val t = none
        ∧ bit (t.reg k 0x048) 0 = false ∧ fld (t.reg k 0x04C) 29 3 = 2 ∧ bit (t.reg k 0x00C) 1 = true
        ∧ t.reg k 0x050 = w32 (((s.reg k 0x050).toNat + 1) % 0x200000) ∧ t.reg k 0x054 = s.reg k 0x054 ∧ t.mem = s.mem)
    ∧ (∀ r rest, live s = true → sparseGet [] s.decodes g.val = r :: rest → r.hart = none →
      let u : State := { s with decodes := sparseSet [] s.decodes g.val rest }
      Answers (.panelDecode g) s (if s.mem.isMulti r.word then (repairPanel .access r.word u).2 else u))

/-! ### Deputies -/

/-- R248, R249: the Deputies' immediate and register operations write the result of the table to Gd, or Gd:Gd+1; a pair operation on an odd register
is an ILLEGAL fault. -/
def Obligations.DeputiesCompute : Prop :=
  ∀ (p : Fin 24) (d r : Fin 8) (imm : Byte) (s : State), DepReady p.val 1 s →
    let x := (s.deputy p.val).master
    let next : DepCore := { x with pc := x.pc + 2 }
    let g := x.gReg d.val
    let h := x.gReg r.val
    let gg : BitVec 16 := x.gReg (d.val + 1) ++ g
    let hh : BitVec 16 := x.gReg (r.val + 1) ++ h
    let puts (c : Instr) (v : Byte) : Prop := DepBecomes c p.val s (next.setG d.val v)
    let truth (c : Instr) (v : Bool) : Prop := puts c (if v then 1 else 0)
    let pair (c : Instr) (v : BitVec 16) : Prop := DepBecomes c p.val s ((next.setG d.val (v.setWidth 8)).setG (d.val + 1) ((v >>> 8).setWidth 8))
    DepBecomes (.depNop p) p.val s next
    ∧ puts (.depMovi p d imm) imm ∧ puts (.depAddi p d imm) (g + imm) ∧ puts (.depAndi p d imm) (g &&& imm) ∧ puts (.depOri p d imm) (g ||| imm)
    ∧ puts (.depXori p d imm) (g ^^^ imm) ∧ truth (.depCeqi p d imm) (g == imm) ∧ truth (.depCltui p d imm) (g.ult imm)
    ∧ puts (.depAluMov p d r) h ∧ puts (.depAluAdd p d r) (g + h) ∧ puts (.depAluSub p d r) (g - h) ∧ puts (.depAluAnd p d r) (g &&& h)
    ∧ puts (.depAluOr p d r) (g ||| h) ∧ puts (.depAluXor p d r) (g ^^^ h) ∧ puts (.depAluShl p d r) (h <<< 1) ∧ puts (.depAluShr p d r) (h >>> 1)
    ∧ puts (.depAluSar p d r) (h.sshiftRight 1) ∧ puts (.depAluNot p d r) (~~~h)
    ∧ truth (.depAluCeq p d r) (g == h) ∧ truth (.depAluCne p d r) (g != h) ∧ truth (.depAluCltu p d r) (g.ult h) ∧ truth (.depAluClt p d r) (g.slt h)
    ∧ truth (.depAluCleu p d r) (g.ule h) ∧ truth (.depAluCle p d r) (g.sle h) ∧ truth (.depAluCarry p d r) (decide (256 ≤ g.toNat + h.toNat))
    ∧ (d.val % 2 = 0 → pair (.depAluMulu p d r) (BitVec.ofNat 16 (g.toNat * h.toNat)))
    ∧ (d.val % 2 = 0 → r.val % 2 = 0 →
      pair (.depAluAddw p d r) (gg + hh) ∧ pair (.depAluSubw p d r) (gg - hh) ∧ pair (.depAluCeqw p d r) (if gg = hh then 1 else 0)
        ∧ pair (.depAluCltuw p d r) (if gg.ult hh then 1 else 0))
    ∧ (d.val % 2 = 1 ∨ r.val % 2 = 1 → ∀ c ∈ [Instr.depAluAddw p d r, .depAluSubw p d r, .depAluCeqw p d r, .depAluCltuw p d r], DepFaults c p.val 3 s)
    ∧ (d.val % 2 = 1 → DepFaults (.depAluMulu p d r) p.val 3 s)
    ∧ DepFaults (.depIllegal p) p.val 3 s

/-- R245, R247, R248: loads and stores of the Deputies in their memory, its windows of registers (the DEP_ page and the four COR_ pages with their
peek aliases, the status mirror), and the faults: ACCESS outside the map, POISON for a marked word, ILLEGAL for a quad register above Q1. R247, R248,
R250: the Deputies' Y registers, branches, calls with the return stack and its RSTACK fault, interrupt enable, WAITE and its end, and the acceptance
of a request. How a fault is named at an odd pc is the model's reading (log 23). -/
def Obligations.DeputiesRunTheirPrograms : Prop :=
  (
    ∀ (p : Fin 24) (d : Fin 8) (y : Fin 2) (u : BitVec 7) (s : State), DepReady p.val 1 s →
      let x := (s.deputy p.val).master
      let next : DepCore := { x with pc := x.pc + 2 }
      let yn := x.yReg y.val
      let near := (yn + u.setWidth 16).toNat
      let far := (yn + (u.setWidth 16 <<< 2)).toNat
      let post := next.setY y.val (yn + u.signExtend 16)
      let sound (a : Nat) : Prop := soundWord s.mem (depMem p.val a / 8) = true
      let byte (a : Nat) : Byte := (storedByte s.mem (depMem p.val a)).1
      let mark (a : Nat) : Bool := (storedByte s.mem (depMem p.val a)).2
      let loads (c : Instr) (a : Nat) (e : DepCore) : Prop :=
        (a < 0x8000 → DepAllowed p.val a .read s → sound a →
          (mark a = false → DepBecomes c p.val s (e.setG d.val (byte a))) ∧ (mark a = true → DepFaults c p.val 2 s))
        ∧ (0x8000 ≤ a → DepFaults c p.val 4 s)
      let area (a : Nat) : Prop := (0x4000 ≤ a ∧ a < 0x6000) ∨ (0x6400 ≤ a ∧ a < 0x8000)
      let wrote (c : Instr) (a : Nat) (bs : List Byte) (e : DepCore) : Prop :=
        ∃ m, Written s.mem m (depMem p.val a) (bs.map fun b => (b, false))
          ∧ Answers c s (depBoth p.val e (breakReservations none (depMem p.val a / 8) (depMem p.val a / 8) { s with mem := m }))
      let stores (c : Instr) (a : Nat) (e : DepCore) : Prop :=
        (area a → DepAllowed p.val a .write s → sound a → wrote c a [x.gReg d.val] e) ∧ (¬area a → DepFaults c p.val 4 s)
      let quad (b : Nat → Byte) : DepCore := (((next.setG (4 * d.val) (b 0)).setG (4 * d.val + 1) (b 1)).setG (4 * d.val + 2) (b 2)).setG (4 * d.val + 3) (b 3)
      let word : W32 := (x.gReg (4 * d.val + 3) ++ x.gReg (4 * d.val + 2) ++ x.gReg (4 * d.val + 1) ++ x.gReg (4 * d.val) : BitVec 32)
      let windowAt (g off : Nat) : Prop :=
        (0x8000 ≤ far ∧ far < 0x9000 ∧ g = pgDep p.val ∧ off = far - 0x8000)
        ∨ ∃ k < 4, let c := 4 * p.val + k
          (0x9000 + 0x1000 * k ≤ far ∧ far < 0xA000 + 0x1000 * k ∧ g = pgCor c ∧ off = far - (0x9000 + 0x1000 * k))
          ∨ (far = 0xD000 + 0x10 * k ∧ g = pgSns c ∧ off = 0x044) ∨ (far = 0xD004 + 0x10 * k ∧ g = pgSns c ∧ off = 0x048)
          ∨ (far = 0xD008 + 0x10 * k ∧ g = pgPwm c ∧ off = 0x044)
      loads (.depLd p d y u) near next ∧ loads (.depLdp p d y u) yn.toNat post
      ∧ stores (.depSt p d y u) near next ∧ stores (.depStp p d y u) yn.toNat post
      ∧ (2 ≤ d.val → DepFaults (.depLdq p d y u) p.val 3 s ∧ DepFaults (.depStq p d y u) p.val 3 s)
      ∧ (d.val < 2 → far % 4 = 0 →
        (far < 0x8000 → DepAllowed p.val far .read s → sound far →
          (mark far = false → DepBecomes (.depLdq p d y u) p.val s (quad fun k => byte (far + k))) ∧ (mark far = true → DepFaults (.depLdq p d y u) p.val 2 s))
        ∧ (area far → DepAllowed p.val far .write s → sound far →
          wrote (.depStq p d y u) far ((List.range 4).map fun k => x.gReg (4 * d.val + k)) next)
        ∧ (far < 0x8000 → ¬area far → DepFaults (.depStq p d y u) p.val 4 s)
        ∧ (∀ g off, windowAt g off → mpuDecide 76 (depRequester p.val) .read (regAddr g off) s = none →
          let r := pageRead g off s
          Answers (.depLdq p d y u) s (depBoth p.val (quad fun k => (r.1 >>> (8 * k)).setWidth 8) r.2))
        ∧ (0xD000 ≤ far → far < 0xD040 → far % 16 = 12 → DepBecomes (.depLdq p d y u) p.val s (quad fun _ => 0))
        ∧ (∀ g off, far < 0xD000 → windowAt g off → mpuDecide 76 (depRequester p.val) .write (regAddr g off) s = none →
          Reaches (.depStq p d y u) s (depBoth p.val next (pageWrite (BitVec.ofNat 8 (0x30 + p.val)) g off word s)))
        ∧ (far = 0x800C → mpuDecide 76 (depRequester p.val) .write (regAddr (pgDep p.val) 0x00C) s = none →
          Answers (.depStq p d y u) s (depBoth p.val next (s.setReg (pgDep p.val) 0x00C (s.reg (pgDep p.val) 0x00C &&& ~~~word))))
        ∧ (0xD000 ≤ far → DepFaults (.depStq p d y u) p.val 4 s) ∧ (0xD040 ≤ far → DepFaults (.depLdq p d y u) p.val 4 s))
      ∧ (d.val < 2 → far % 4 ≠ 0 → DepFaults (.depLdq p d y u) p.val 4 s ∧ DepFaults (.depStq p d y u) p.val 4 s)
  ) ∧ (
    ∀ (p : Fin 24) (d : Fin 8) (y : Fin 2) (imm : BitVec 16) (b : Byte) (s : State),
      let x := (s.deputy p.val).master
      let next : DepCore := { x with pc := x.pc + 2 }
      let after (c : Instr) (e : DepCore) : Prop := DepBecomes c p.val s e
      let yn := x.yReg y.val
      let target := x.pc + 2 + (b.signExtend 16 <<< 1)
      let asked := fld (s.reg (pgDep p.val) 0x060) 0 4 &&& fld (s.reg (pgDep p.val) 0x060) 16 4 ≠ 0
      (DepReady p.val 2 s →
        after (.depLdy p y imm) (DepCore.setY { x with pc := x.pc + 4 } y.val imm) ∧ after (.depJmp p imm) { x with pc := imm }
        ∧ (x.stack.length < 8 → after (.depCall p imm) { x with pc := imm, stack := (x.pc + 4) :: x.stack })
        ∧ (8 ≤ x.stack.length → DepFaults (.depCall p imm) p.val 5 s))
      ∧ (DepReady p.val 1 s →
        after (.depYaddi p y b) (next.setY y.val (yn + b.signExtend 16))
        ∧ (d.val % 2 = 0 →
          after (.depMovyg p y d) ((next.setG d.val (yn.setWidth 8)).setG (d.val + 1) ((yn >>> 8).setWidth 8))
          ∧ after (.depMovgy p y d) (next.setY y.val (x.gReg (d.val + 1) ++ x.gReg d.val)))
        ∧ (d.val % 2 = 1 → DepFaults (.depMovyg p y d) p.val 3 s ∧ DepFaults (.depMovgy p y d) p.val 3 s)
        ∧ after (.depBz p d b) { x with pc := if x.gReg d.val = 0 then target else x.pc + 2 }
        ∧ after (.depBnz p d b) { x with pc := if x.gReg d.val = 0 then x.pc + 2 else target }
        ∧ (∀ a rest, x.stack = a :: rest →
          after (.depRet p) { x with pc := a, stack := rest } ∧ after (.depReti p) { x with pc := a, stack := rest, ie := true })
        ∧ (x.stack = [] → DepFaults (.depRet p) p.val 5 s ∧ DepFaults (.depReti p) p.val 5 s)
        ∧ (∀ on, after (.depSetie p on) { next with ie := on })
        ∧ (asked → after (.depWaite p) next) ∧ (¬asked → after (.depWaite p) { next with waiting := true }))
      ∧ (live s = true → depOn p.val s = true → depState p.val s = 1 →
        (DepLockstep p.val s → x.waiting = true → asked → after (.depWaiteResume p) { x with waiting := false })
        ∧ (x.waiting = false ∨ ¬asked → Answers (.depWaiteResume p) s s)
        ∧ (haltPending s = false →
          (DepLockstep p.val s → x.ie = true → asked → x.stack.length < 8 →
            after (.depInterruptAccept p) { x with pc := 0x0008, stack := x.pc :: x.stack, ie := false, waiting := false })
          ∧ (x.ie = true → asked → 8 ≤ x.stack.length → DepFaults (.depInterruptAccept p) p.val 5 s)
          ∧ (x.ie = false ∨ ¬asked → Answers (.depInterruptAccept p) s s)))
  )

/-- R241, R251, R252, R255–R257: a mismatch that a sound comparator shows, or a missed heartbeat, restarts the pair, whose release, where no injection
is due, runs it from 0x0000; cores that differ in what the comparator sees of them restart too; its own writes of DEP_KICK and DEP_LINEk; the records
of an interval; the contact inputs. R234, R238: the bins' frequencies; the quantities of a bin keep to those that R235 defines, cvv and cii within
1/200 of their own, and each part of cvi within 1/200 of sqrt(cvv × cii). The restart window and the heartbeat follow the model's reading (log 23);
that the checker core runs in the same command as its master, two cycles being no step of the block, is the model's choice (log 79); where within
R238's bounds the correlator's arithmetic stands is free, and how its clause gives the bounds is the model's choice (log 39). -/
def Obligations.DeputyPairsAreSupervised : Prop :=
  (
    ∀ (p : Fin 24) (q : Requester) (data : W32) (s : State),
      let g := pgDep p.val
      let x := s.deputy p.val
      let own := q.master = BitVec.ofNat 8 (0x30 + p.val)
      (live s = true → depOn p.val s = true →
        (depState p.val s = 1 → (s.comparator (33 + p.val) = .sound → DepFaults (.depLockstepMismatch p) p.val 1 s
            ∧ (depRuns p.val s = true → (depFetch p.val 1 x.master.pc.toNat s = (none, s)) → x.master.ie ≠ x.checker.ie → DepFaults (.depNop p) p.val 1 s))
          ∧ (fld (s.reg g 0x040) 8 8 ≤ x.beats → DepFaults (.depHeartbeatTimeout p) p.val 6 s)
          ∧ (x.beats < fld (s.reg g 0x040) 8 8 → Answers (.depHeartbeatTimeout p) s s))
        ∧ (depState p.val s ≠ 1 → Answers (.depLockstepMismatch p) s s)
        ∧ (depState p.val s = 2 → s.comparator (33 + p.val) = .sound → canInjection (33 + p.val) s = none →
          Answers (.depRestartRelease p) s ((s.setDeputy p.val { x with master := idleDepCore, checker := idleDepCore, beats := 0 }).setReg g 0x044
              (withField (s.reg g 0x044) 0 3 1)))
        ∧ (depState p.val s ≠ 2 → Answers (.depRestartRelease p) s s))
      ∧ (Admitted q .write g 0x048 s → depOn p.val s = true → Writes (.depKickWrite q p data) s
          (if own then s.setDeputy p.val { x with beats := 0 } else refuseWrite g 0x048 0x40 s))
      ∧ (∀ k : Fin 4, Admitted q .write g (0x050 + 4 * k.val) s → depOn p.val s = true →
        let off := 0x050 + 4 * k.val
        let v := fld data 0 3
        let c : Instr := .depLineWrite q p k data
        (¬own → Writes c s (refuseWrite g off 0x40 s))
        ∧ (own → 5 ≤ v → Writes c s (refuseWrite g off 0x06 s))
        ∧ (own → v < 5 → Writes c s
            (if v = fld (s.reg g off) 0 3 then s.setReg g off (data &&& 0xFFFFFF07) else (s.setReg g off (data &&& 0xFFFFFF07)).setEvt g 3)))
      ∧ (live s = true → corOn (4 * p.val) s = true →
        ((∀ k < 4, (s.correlator (4 * p.val + k)).record = none) → Answers (.intervalDone p) s s)
        ∧ (∀ ivl ws, (s.correlator (4 * p.val)).record = some (ivl, ws) → (∀ k, 0 < k → k < 4 → (s.correlator (4 * p.val + k)).record = none) →
          ws.length = 64 → depState p.val s ≠ 2 →
          (∀ a, (0x6000 ≤ a ∧ a < 0x6100) ∨ (0x8000 ≤ a ∧ a < 0xA000) → soundWord s.mem (depMem p.val a / 8) = true ∧ panelRetired (depMem p.val a) s = false) →
          ∃ t, exec (.intervalDone p) s = .next t ∧ (t.correlator (4 * p.val)).record = none ∧ bit (t.reg (pgCor (4 * p.val)) 0x00C) 1 = true
            ∧ t.reg (pgCor (4 * p.val)) 0x054 = ws.getD 51 0 ∧ bit (t.reg g 0x060) 1 = true
            ∧ ∀ j < 256, (storedByte t.mem (depMem p.val (0x6000 + j))).1 = ((ws.getD (j / 4) 0) >>> (8 * (j % 4))).setWidth 8
                ∧ (storedByte t.mem (depMem p.val (0x8000 + 0x100 * (ivl % 32) + j))).1 = ((ws.getD (j / 4) 0) >>> (8 * (j % 4))).setWidth 8))
      ∧ (∀ levels : BitVec 4, live s = true → depOn p.val s = true →
        ∃ t, exec (.contactSample p levels) s = .next t ∧ t.mem = s.mem ∧ t.threads = s.threads ∧ ∀ k < 4,
          let level := (levels.getLsbD k) ^^ bit (s.reg g 0x074) (8 + k)
          let old := bit (s.reg g 0x070) k
          let c := sparseGet (⟨0, 0⟩ : Contact) x.contacts k
          let c' := sparseGet (⟨0, 0⟩ : Contact) (t.deputy p.val).contacts k
          bit (t.reg g 0x070) (8 + k) = level
          ∧ (level = old → bit (t.reg g 0x070) k = old ∧ c'.run = 0)
          ∧ (level ≠ old → c.run + 1 < fld (s.reg g 0x074) 0 8 → bit (t.reg g 0x070) k = old ∧ c'.run = c.run + 1)
          ∧ (level ≠ old → fld (s.reg g 0x074) 0 8 ≤ c.run + 1 → bit (t.reg g 0x070) k = level
              ∧ (depState p.val s ≠ 2 → bit (t.reg g 0x060) 2 = true)))
  ) ∧ (
    (∀ k < 24, binFrequency k ^ 23 ≤ 50 ^ 23 * 400 ^ k * 2 ^ 736 ∧ 50 ^ 23 * 400 ^ k * 2 ^ 736 < (binFrequency k + 1) ^ 23)
    ∧ binFrequency 0 = 50 * 2 ^ 32 ∧ binFrequency 23 = 20000 * 2 ^ 32 ∧ binFrequency 24 = 30000 * 2 ^ 32
    ∧ (∀ (k : Nat) (xs : List (W24 × W24)),
      let x := idealSpectrum k xs
      let y := crossSpectrum k xs
      0 ≤ x.2.2.1 ∧ 0 ≤ x.2.2.2
      ∧ 200 * ((y.2.2.1 : Int) - x.2.2.1).natAbs ≤ x.2.2.1.toNat ∧ 200 * ((y.2.2.2 : Int) - x.2.2.2).natAbs ≤ x.2.2.2.toNat
      ∧ (200 * (y.1 - x.1).natAbs) ^ 2 ≤ x.2.2.1.toNat * x.2.2.2.toNat ∧ (200 * (y.2.1 - x.2.1).natAbs) ^ 2 ≤ x.2.2.1.toNat * x.2.2.2.toNat)
  )

/-- R248, R249: the words of each Deputy instruction spell it again, with every operand; a word that is read is its instruction's own, and its second
word is read where the instruction has one; unassigned codes, and a quad register that does not exist, spell none. -/
def Obligations.DeputyWordsSpellTheirInstructions : Prop :=
  (∀ (c : Instr) (w imm : BitVec 16), depWords c = some (w, imm) →
    (∀ p d y u, c = .depLdq p d y u ∨ c = .depStq p d y u → d.val < 2) → ∃ pair, depDecode pair w imm = some c)
  ∧ (∀ (pair : Fin 24) (w imm : BitVec 16) (c : Instr), depDecode pair w imm = some c →
    (∃ v, depWords c = some (w, v) ∧ (v = imm ∨ v = 0)) ∧ c.wellFormed = true)
  ∧ (∀ (pair : Fin 24) (w imm : BitVec 16), 0x1B ≤ w.toNat / 2 ^ 11 ∨ (w.toNat / 2 ^ 11 = 0x08 ∧ 0x16 ≤ w.toNat % 2 ^ 5) → depDecode pair w imm = none)
  ∧ (∀ (pair : Fin 24) (d : Fin 8) (y : Fin 2) (u : BitVec 7), 2 ≤ d.val → ∀ w imm,
    depWords (.depLdq pair d y u) = some (w, imm) ∨ depWords (.depStq pair d y u) = some (w, imm) → depDecode pair w imm = none)

/-! ### The Triad, the Tipple and the audio front end -/

/-- R261, R262, R266, R267, R287: a checkpoint whose replicas have arrived closes with the verdict on their signatures, and the odd replica is
resynchronised; no majority is SAFE; a replica that misses its targets is absent. Shown with three voted replicas, sound voters and paths, and nothing
queued. What of a thread enters a signature rests also on the model's choice (log 40), which the statement takes as the function replicaSignature. -/
def Obligations.CheckpointsCloseWithAVerdict : Prop :=
  ∀ s : State, live s = true →
    (voteReady s = false → Answers .checkpointVote s s)
    ∧ (voteReady s = true → actives s = [0, 1, 2] → (∀ r < 3, absentNow r s = false ∧ (s.replica r).queue = []) → s.tri.ckBoundary = false → s.tri.job = none →
      (∀ v < 3, s.comparator (57 + v) = .sound ∧ sparseGet 0 s.flips v = 0) →
      let sig (r : Nat) : W64 := replicaSignature r s
      let v : Nat := if sig 0 = sig 1 then (if sig 1 = sig 2 then 0 else 3) else if sig 1 = sig 2 then 1 else if sig 2 = sig 0 then 2 else 5
      ∃ t, exec .checkpointVote s = .next t ∧ t.tri.ckOpen = false ∧ t.mem = s.mem
        ∧ t.reg pgGat 0x048 = s.reg pgGat 0x048 + 1 ∧ fld (t.reg pgGat 0x04C) 0 3 = v
        ∧ (∀ r < 3, t.reg pgGat (0x080 + 8 * r) = (sig r).setWidth 32 ∧ t.reg pgGat (0x084 + 8 * r) = (sig r >>> 32).setWidth 32)
        ∧ (∀ r < 3, ∀ k < 2, retiredCount r k t = 0)
        ∧ (v = 0 → ∀ r < 3, (t.replica r).role = .active)
        ∧ (0 < v → v < 4 → (t.replica (v - 1)).role = .resync ∧ bit (t.reg pgGat 0x00C) 1 = true ∧ (t.tri.job.map (·.x)) = some (v - 1)
            ∧ ∀ r < 3, r ≠ v - 1 → (t.replica r).role = .active)
        ∧ (v = 5 → t.guard.safe = true ∧ bit (t.reg pgGat 0x00C) 2 = true) ∧ (v ≠ 5 → t.guard.safe = s.guard.safe))
    ∧ (s.tri.ckOpen = false → Answers .checkpointTargetTimeout s s)
    ∧ (s.tri.ckOpen = true →
      ∃ t, exec .checkpointTargetTimeout s = .next t ∧ t.mem = s.mem ∧ t.threads = s.threads ∧ ∀ r < 3,
        t.replica r = if isActive r s = true ∧ ¬(atTarget r 0 s = true ∧ atTarget r 1 s = true) then { s.replica r with excluded := true }
          else s.replica r)

/-- R138, R270, R271, R276: when three voted replicas have offered for a match, each thread that waits receives the agreed value, and its AGREE
retires; after the time-out those that offered receive the value of the lowest letter; and a resynchronisation's copy completes. Which offers make a
group at the time-out is the model's reading (log 25). -/
def Obligations.AgreedValuesAreDelivered : Prop :=
  ∀ (th : Fin 2) (kind : BitVec 2) (dd ds : BitVec 5) (n : Nat) (a b c : W24) (s : State), live s = true → kind ≠ 3 → s.tri.ckOpen = false →
    let f : BitVec 22 := BitVec.ofNat 22 (dd.toNat * 0x20000 + ds.toNat * 0x1000 + kind.toNat * 0x400)
    let h (r : Nat) : Hart := overmanThread r th.val
    let waits (r : Nat) (v : W24) : Prop :=
      offerOf r th.val s = some (n, ⟨v, kind⟩) ∧ (s.thread (h r)).hold = .agree ∧ (s.thread (h r)).buf = [sylWord true 3 0x34 f.toNat]
        ∧ (s.thread (h r)).rep = none ∧ (s.thread (h r)).resume = none ∧ (s.thread (h r)).locked = false
    let receives (r : Nat) (v : W24) (t : State) : Prop :=
      offerOf r th.val t = none ∧ (t.thread (h r)).dReg dd.toNat = ⟨v, false⟩ ∧ (t.thread (h r)).pc = (s.thread (h r)).pc + 4
        ∧ (t.thread (h r)).hold = .none ∧ ∀ k, k ≠ dd.toNat → (t.thread (h r)).dReg k = (s.thread (h r)).dReg k
    let median (x y z : Int) : Int := max (min x y) (min (max x y) z)
    let v : W24 := if kind = 0 then BitVec.ofInt 24 (median a.toInt b.toInt c.toInt)
      else if kind = 1 then (a &&& b) ||| (b &&& c) ||| (a &&& c) else BitVec.ofInt 24 (median (a.toNat : Int) (b.toNat : Int) (c.toNat : Int))
    (actives s = [0, 1, 2] → waits 0 a → waits 1 b → waits 2 c →
      ∃ t, exec (.agreeMatch th) s = .next t ∧ t.mem = s.mem ∧ receives 0 v t ∧ receives 1 v t ∧ receives 2 v t)
    ∧ (actives s = [0, 1, 2] → (offerOf 0 th.val s = none ∨ offerOf 1 th.val s = none ∨ offerOf 2 th.val s = none) → Answers (.agreeMatch th) s s)
    ∧ (actives s = [0, 1, 2] → waits 0 a → waits 1 b → offerOf 2 th.val s = none → sparseGet 0 (s.replica 2).agreed th.val ≤ n →
      ∃ t, exec (.agreeTimeout th) s = .next t ∧ t.mem = s.mem ∧ receives 0 a t ∧ receives 1 a t ∧ (t.replica 2).agreeLate = true
        ∧ bit (t.reg pgGat 0x00C) 7 = true ∧ t.thread (h 2) = s.thread (h 2))
    ∧ ((∀ r < 3, offerOf r th.val s = none) → Answers (.agreeTimeout th) s s)
    ∧ (∀ j, s.tri.job = some j → j.copied = true → Answers .resyncCopyDone s s)
    ∧ (s.tri.job = none → Answers .resyncCopyDone s s)
    ∧ (∀ j, s.tri.job = some j → j.copied = false →
      ∃ t, exec .resyncCopyDone s = .next t ∧ t.tri.job = some { j with copied := true } ∧ t.threads = s.threads ∧ t.tri.replicas = s.tri.replicas)

/-- R284–R287, R404, R442: the Canary's requests, the zones with their channels and relays, the Gate's error record, and GAT_SAFE, which the Triad
alone writes: SAFE with its record, or a reset. That GAT_SAFE.RESET asserts the reset at once is the model's reading (log 61). -/
def Obligations.TheTriadCommandsTheDevice : Prop :=
  ∀ (q : Requester) (data : W32) (s : State),
    let triad := q.master = 0x23 ∨ q.master = 0xFF
    (Admitted q .write pgCan 0x04C s → pageOn pgCan s = true →
      let k := fld data 26 6
      Writes (.canReqWrite q data) s
        (if q.master ≠ 0x23 then refuseWrite pgCan 0x04C 0x40 s else if 60 ≤ k then refuseWrite pgCan 0x04C 0x06 s
         else { s with can := { s.can with requests := sparseSet none s.can.requests k (some (fld data 20 6, fld data 0 10)) } }))
    ∧ (∀ z : Fin 128,
      let p := pgOvm (8 + z.val / 16)
      let off := 0x10C + 0x10 * (z.val % 16)
      let c : Instr := .zoneCtlWrite q z data
      Admitted q .write p off s → pageOn p s = true →
      (¬triad → Writes c s (refuseWrite p off 0x40 s))
      ∧ (triad → fld data 0 2 = 3 → Writes c s (refuseWrite p off 0x06 s))
      ∧ (triad → fld data 0 2 ≠ 3 →
        ∃ t, exec c s = .next t ∧ t.answer = .done none ∧ t.reg p off = data &&& 0xFF03 ∧ t.mem = s.mem
          ∧ (∀ k < 96, fld (t.reg (pgPwm k) 0x040) 0 2
              = if bit (s.reg p (off - 0xC + 4 * (k / 32))) (k % 32) = true ∧ frontEndOn s = true then fld data 0 2 else fld (s.reg (pgPwm k) 0x040) 0 2)
          ∧ (s.guard.safe = false → t.guard = s.guard)
          ∧ (s.guard.safe = true → ∀ j < 32, (bit t.guard.relays j = true ↔ ∃ y < 128,
              let v := t.reg (pgOvm (8 + y / 16)) (0x10C + 0x10 * (y % 16))
              bit v 13 = true ∧ bit v 15 = true ∧ fld v 8 5 = j))))
    ∧ (Admitted q .write pgGat 0x060 s → pageOn pgGat s = true → Writes (.gatGerrClr q) s ((s.setReg pgGat 0x060 0).setReg pgGat 0x064 0))
    ∧ (Admitted q .write pgGat 0x058 s → pageOn pgGat s = true →
      (¬triad → Writes (.gatSafeSafe q) s (refuseWrite pgGat 0x058 0x40 s) ∧ Writes (.gatSafeReset q) s (refuseWrite pgGat 0x058 0x40 s))
      ∧ (triad → s.guard.safe = true → Writes (.gatSafeSafe q) s s)
      ∧ (triad → s.guard.safe = false →
        ∃ t, exec (.gatSafeSafe q) s = .next t ∧ t.guard.safe = true ∧ t.guard.static = true ∧ t.reg pgBel 0x074 = 0x81FF000D
          ∧ t.reg pgBel 0x078 = shiftNo s ∧ bit (t.reg pgBel 0x00C) 5 = true ∧ t.tpl.out = [] ∧ t.aud.play = s.aud.play.map silenced ∧ t.mem = s.mem
          ∧ bit (t.reg pgRfg 0x074) 1 = true)
      ∧ (triad → ∃ t, exec (.gatSafeReset q) s = .next t ∧ t.life.phase = .asserted ∧ bit t.life.causes (resetBit .triad) = true
          ∧ ∀ k, k ≠ resetBit .triad → bit t.life.causes k = bit s.life.causes k))

/-- R199, R202, R205, R208: the Triad's staged writes join the queue, a full queue or a broken rule refuses them; a column is compared; the media
clock follows its source. That every refused staged write sets STAGE_REJECT is the model's reading (log 59). -/
def Obligations.TippleAndClockFollowTheirRules : Prop :=
  ∀ (q : Requester) (data : W32) (s : State),
    (Admitted q .write pgTpl 0x044 s → pageOn pgTpl s = true →
      let a := s.reg pgTpl 0x040
      let tab := fld a 30 2
      let x := fld a 0 17
      let c : Instr := .tippleStageDataWrite q data
      let refused (code : Nat) : Prop := Writes c s ((refuseWrite pgTpl 0x044 code s).setEvt pgTpl 4)
      let mine := tab ≠ 0 ∨ q.master = 0x23 ∨ q.master = 0xFF ∨ stageClass0 x data s = false
      (¬mine → refused 0x41)
      ∧ (mine → ∀ code, stageBreaks tab x data = some code → refused code)
      ∧ (mine → stageBreaks tab x data = none → 4096 ≤ s.tpl.queue.length → refused 0x40)
      ∧ (mine → stageBreaks tab x data = none → s.tpl.queue.length < 4096 →
        let e := ({ s with tpl := { s.tpl with queue := s.tpl.queue ++ [⟨tab, x, data, q.master⟩] } } : State).setReg pgTpl 0x048 (w32 (s.tpl.queue.length + 1))
        Writes c s (if bit a 29 then e.setReg pgTpl 0x040 (withField a 0 17 (if x + 1 = tableSize tab then 0 else x + 1)) else e)))
    ∧ (∀ (j : Fin 256) (y : List Int), live s = true → tplRuns s = true → s.ons.seg = .verdict → sparseGet none s.tpl.first j.val = some y →
      sparseGet none s.tpl.compared j.val = none → s.tpl.health = [] → s.tpl.bad = [] → s.comparator 32 = .sound → canInjection 32 s = none →
      let same := decide (columnBlock true y.length j.val s.tpl = y.map fun v => -v)
      let e : State := { s with tpl := { s.tpl with compared := sparseSet none s.tpl.compared j.val (some same) } }
      Answers (.tippleColumnCompare j) s (if same then e else e.setEvt pgTpl 1))
    ∧ (∀ j : Fin 256, live s = true → tplRuns s = false ∨ s.ons.seg ≠ .verdict → Answers (.tippleColumnCompare j) s s)
    ∧ (live s = true →
      let v := s.reg pgAon 0x108
      let state := fld v 0 3
      let source := fld (s.effReg pgAon 0x100) 0 2
      let chosen := source ≠ 0
      let synced := bit (s.reg (pgAdt 5) 0x044) 0
      (chosen → (source = 1 → synced = true) → bit v 3 = false → state ≠ 2 → Answers .mclkSourceValid s
        ({ s.setReg pgAon 0x108 (withField (withField v 3 1 1) 0 3 1) with aud := { s.aud with corrections := [] } }))
      ∧ (¬chosen ∨ bit v 3 = true ∨ (source = 1 ∧ synced = false) → Answers .mclkSourceValid s s)
      ∧ (chosen → (source = 1 → synced = false) → bit v 3 = true → state ≠ 1 → state ≠ 2 → Answers .mclkSourceInvalid s (s.setReg pgAon 0x108 (withField v 3 1 0)))
      ∧ (chosen → (source = 1 → synced = false) → bit v 3 = true → state = 1 ∨ state = 2 →
        ∃ t, exec .mclkSourceInvalid s = .next t ∧ t.reg pgAon 0x108 = withField (withField v 3 1 0) 0 3 3 ∧ bit (t.reg pgAon 0x00C) 9 = true
          ∧ (state = 2 → bit (t.reg pgAon 0x00C) 8 = true)
          ∧ t.aud = { s.aud with correction := t.aud.correction }
          ∧ (let n : Int := s.aud.corrections.length
             0 < n → (n * t.aud.correction - s.aud.corrections.foldl (· + ·) 0).natAbs < n.toNat))
      ∧ (¬chosen ∨ bit v 3 = false ∨ (source = 1 ∧ synced = true) → Answers .mclkSourceInvalid s s)
      ∧ (state = 1 → Answers .mclkLocked s (s.setReg pgAon 0x108 (withField v 0 3 2)))
      ∧ (state ≠ 1 → Answers .mclkLocked s s))

/-- R210, R212, R213, R216, R219, R220, R224, R226, R228: the audio front end: TDM frames, by the bits of their slots, and their errors, which the
Refuge route's receiver reads for itself, microphones, modulators and sense inputs, while PD60 is ON. R206, R215, R218, R220, R221, R223, R226, R407,
R475: what the pins carry: the clocks of the front end while PD60 is on, boot included; FAULT and VID with their supplies; a channel's pins are low,
the idle pattern or two pulses that share the period, within the limits of q; in SAFE low, but for the channels that the Refuge route drives. R210: a
slot's bits give its sample. That pins are functions of the state, and the filters left free, are the model's choice (log 72). -/
def Obligations.TheFrontEndKeepsItsFlags : Prop :=
  (
    ∀ s : State, live s = true →
      (∀ (n : Fin 8) (din : List (Bool × Bool)) (period : Nat) (misplaced : Bool),
        let c : Instr := .tdmFrame n ⟨din, period⟩ misplaced
        let cfg := s.effReg (pgTdm n.val) 0x040
        let port := s.tdmPort n.val
        let slots := fld cfg 8 5 + 1
        let got (k : Nat) : W24 := slotIn (tdmWidth cfg) (fld cfg 3 1) (bit cfg 5) din k
        let refuge := s.reg pgRfg 0x040
        let heard : State := if fld refuge 2 3 = n.val ∧ s.life.supplyLow = false
          then { s with aud := { s.aud with refugeSample := slotIn (refugeWidth refuge) (fld refuge 12 1) (bit refuge 14) din (fld refuge 5 5) } } else s
        let erred (e : State) : State :=
          (if port.err then e else e.setReg (pgTdm n.val) 0x04C (withField (e.reg (pgTdm n.val) 0x04C) 8 8 (min 255 (fld (e.reg (pgTdm n.val) 0x04C) 8 8 + 1))))
            |>.setEvt (pgTdm n.val) 1 |>.setTdmPort n.val { port with err := true }
        let master := bit cfg 0
        let i := if master then port.next else period
        let bad := !master && (misplaced || decide (period ≠ port.next))
        let e : State := if bad then erred heard else heard
        let blk (k : Nat) := sparseGet [] s.aud.play (128 + 32 * n.val + k)
        let sends (k : Nat) : Prop := bit (s.effReg (pgTdm n.val) 0x048) k = true ∧ blk k ≠ []
        (∀ (w d : Nat) (inverted : Bool) (k j : Nat), j < 24 → (slotIn w d inverted din k).getLsbD (23 - j)
          = (decide (j < w) && (let x := din.getD (d + w * k + j) (false, false); if inverted then x.2 else x.1)))
        ∧ (tdmRuns n.val s = false → Answers c s heard ∧ Answers (.tdmBclkLoss n) s s)
        ∧ (tdmRuns n.val s = true → blockLen s ≤ i → Answers c s e)
        ∧ (tdmRuns n.val s = true → i < blockLen s → port.next ≤ i →
          ∃ sent, Answers c s (e.setTdmPort n.val
              { port with err := port.err || bad, next := i + 1, sent := sent, frames := (List.range slots).map got :: port.frames })
            ∧ sent.length = slots
            ∧ ∀ k < slots, (sends k → sent.getD k none = some (if tdmWidth cfg = 16 then (blk k).getD i 0 &&& 0xFFFF00 else (blk k).getD i 0))
                ∧ (¬sends k → sent.getD k none = if bit cfg 6 then none else some 0))
        ∧ (tdmRuns n.val s = true → i < blockLen s → i < port.next →
          ∃ sent, Answers c s (e.setTdmPort n.val { port with err := port.err || bad, sent := sent }) ∧ sent.length = slots
            ∧ ∀ k < slots, sent.getD k none = none ↔ ¬sends k ∧ bit cfg 6 = true)
        ∧ (tdmRuns n.val s = true → Answers (.tdmBclkLoss n) s
          (if master then s else (erred s).setTdmPort n.val { port with err := true, next := port.next + 1 })))
      ∧ (∀ g : Fin 8, Answers (.pdmWarmupEnd g) s
          (if sparseGet 0 s.aud.warm g.val = 1 then { s with aud := { s.aud with warm := sparseSet 0 s.aud.warm g.val 2 } } else s))
      ∧ (∀ m : Fin 64,
        let off := 0x044 + 4 * (m.val / 32)
        let e := (s.setReg pgPdm off (withField (s.reg pgPdm off) (m.val % 32) 1 1)).setEvt pgPdm 1
        Answers (.micStuck m) s (if s.domain 60 = .on ∧ bit (s.effReg pgPdm 0x040) (m.val / 8) = true
          then { e with aud := { s.aud with micStuck := sparseSet false s.aud.micStuck m.val true } } else s))
      ∧ (∀ c : Fin 96,
        Answers (.modulatorClip c) s (if s.domain 60 = .on
          then { s.setEvt (pgPwm c.val) 1 with aud := { s.aud with pwmClip := sparseSet false s.aud.pwmClip c.val true } } else s)
        ∧ ∀ current, let flag (i : Nat) : State := { s.setEvt (pgSns c.val) (if i < 2 then 1 else 2) with
              aud := { s.aud with sense := sparseSet 0 s.aud.sense c.val (sparseGet 0 s.aud.sense c.val ||| BitVec.ofNat _ (2 ^ i)) } }
          Answers (.senseStuck c current) s (if s.domain 60 = .on then flag (if current then 1 else 0) else s)
          ∧ Answers (.senseClip c current) s (if s.domain 60 = .on then flag (if current then 3 else 2) else s))
      ∧ (∀ (q : Requester) (c : Fin 96) (data : W32), Admitted q .write (pgPwm c.val) 0x040 s → s.domain 60 = .on →
        s.isLocked (pgPwm c.val) = false →
        let p := pgPwm c.val
        let v := s.reg p 0x040
        let w : Instr := .pwmStateWrite q c data
        let triad := q.master = 0x23 ∨ q.master = 0xFF
        (fld data 0 2 = 3 → triad ∨ fld v 0 2 = 3 → Writes w s (refuseWrite p 0x040 0x06 s))
        ∧ (fld data 0 2 ≠ 3 → triad → Writes w s (s.setReg p 0x040 (withField (withField v 2 1 (fld data 2 1)) 0 2 (fld data 0 2))))
        ∧ (fld data 0 2 = fld v 0 2 → fld data 0 2 ≠ 3 → Writes w s (s.setReg p 0x040 (withField v 2 1 (fld data 2 1))))
        ∧ (fld data 0 2 ≠ fld v 0 2 → ¬triad → Writes w s ((refuseWrite p 0x040 0x40 s).setReg p 0x040 (withField v 2 1 (fld data 2 1)))))
  ) ∧ (
    (∀ s : State,
      (s.domain 60 ≠ .on ∨ s.life.supplyLow = true ∨ halted s = true → mclkOut s = none ∧ snsClock s = none ∧ ∀ g, pdmClock g s = none)
      ∧ (s.domain 60 = .on → s.life.supplyLow = false → halted s = false → mclkOut s = some 24576000 ∧ snsClock s = some 6144000
          ∧ ∀ g, pdmClock g s = if bit (s.effReg pgPdm 0x040) g then some 3072000 else none)
      ∧ (ioUp .io33 s = false → faultPins s = .pulledLow)
      ∧ (ioUp .io33 s = true → (halted s = true → faultPins s = .service)
        ∧ (halted s = false → s.guard.safe = true ∨ s.guard.static = true ∨ s.life.phase ≠ .running ∨ s.life.supplyLow = true → faultPins s = .level false)
        ∧ (halted s = false → s.guard.safe = false → s.guard.static = false → s.life.phase = .running → s.life.supplyLow = false →
          faultPins s = .level s.guard.level))
      ∧ (ioUp .io18 s = false → vidPins s = none ∧ xspiResetPin s = none ∧ ∀ n i k, doutBit n i k s = none)
      ∧ (ioUp .io18 s = true → vidPins s = some (if s.life.phase = .running ∨ s.life.phase = .dormant then s.nrg.vid else 50)
          ∧ xspiResetPin s = some (decide (s.life.phase ≠ .asserted))))
    ∧ (∀ (c : Fin 96) (j n start elapsed : Nat) (s : State),
      let pins := pwmPins c.val j n start elapsed s
      let state := fld (pwmStat c.val s) 0 2
      (ioUp .io18 s = false → pins = .low)
      ∧ (ioUp .io18 s = true → refugeDrives c.val s = true → ∃ a b, pins = .pulses a b ∧ a + b = 512 ∧ 13 ≤ a ∧ 13 ≤ b)
      ∧ (refugeDrives c.val s = false →
        (s.life.phase ≠ .running → pins = .low)
        ∧ (s.life.phase = .running → s.life.supplyLow = false →
          (halted s = true → pins = .pulses 2000 2000)
          ∧ (halted s = false →
            (s.guard.safe = true ∨ s.domain 60 ≠ .on ∨ state = 0 → pins = .low)
            ∧ (state = 1 → pins = .pulses 2000 2000)
            ∧ (state = 2 → ∃ a b, pins = .pulses a b ∧ a + b = 4000 ∧ 100 ≤ a ∧ 100 ≤ b ∧ (silent c.val s = true → a = 2000))))))
    ∧ (∀ v : W24, slotSample (slotBits 24 v) = v ∧ slotSample (slotBits 32 v) = v ∧ slotSample (slotBits 16 v) = v &&& 0xFFFF00)
  )

/-- R227–R230, R387: the Refuge route: armed by the Triad on a locked page, active with a cause, on its tone while its source is lost, and back at its
modulators after the fall. That a halt holds the route unless REFUGE_IN_HALT, and that its arming register disarms with 0, are the model's readings
(log 57). -/
def Obligations.TheRefugeRouteFollowsItsCauses : Prop :=
  ∀ (q : Requester) (data : W32) (s : State),
    let v := s.reg pgRfg 0x074
    let armed := bit (s.reg pgRfg 0x070) 0
    let runs := (halted s = false ∨ bit (s.reg pgDbg 0x040) 27 = true) ∧ s.life.supplyLow = false
    let triad := q.master = 0x23 ∨ q.master = 0xFF
    (Admitted q .write pgRfg 0x070 s → pageOn pgRfg s = true →
      let c : Instr := .refugeArmWrite q data
      (¬triad → Writes c s (refuseWrite pgRfg 0x070 0x40 s))
      ∧ (triad → bit v 1 = true ∨ bit v 2 = true → Writes c s s)
      ∧ (triad → bit v 1 = false → bit v 2 = false → bit data 0 = true → s.isLocked pgRfg = false → Writes c s (refuseWrite pgRfg 0x070 0x41 s))
      ∧ (triad → bit v 1 = false → bit v 2 = false → bit data 0 = false ∨ s.isLocked pgRfg = true →
        ∃ t, exec c s = .next t ∧ bit (t.reg pgRfg 0x070) 0 = bit data 0 ∧ bit (t.reg pgRfg 0x074) 6 = bit data 0
          ∧ (bit data 0 = true → bit v 3 = true → bit (t.reg pgRfg 0x074) 0 = true)
          ∧ (bit data 0 = false ∨ bit v 3 = false → bit (t.reg pgRfg 0x074) 0 = bit v 0)))
    ∧ (runs → s.life.phase ≠ .dormant →
      (∃ t, exec .refugeReqPresent s = .next t ∧ bit (t.reg pgRfg 0x074) 3 = true ∧ t.mem = s.mem
        ∧ (armed = true → bit (t.reg pgRfg 0x074) 0 = true) ∧ (armed = true → bit v 0 = false → bit (t.reg pgRfg 0x00C) 1 = true ∧ t.aud.refugeRise = true)
        ∧ (armed = false → bit (t.reg pgRfg 0x074) 0 = bit v 0))
      ∧ (∃ t, exec .refugeReqAbsent s = .next t ∧ bit (t.reg pgRfg 0x074) 3 = false ∧ t.mem = s.mem
        ∧ (armed = false ∨ (bit v 1 = false ∧ bit v 2 = false) → bit v 0 = true → s.aud.refugeReturn = false → t.aud.refugeFall = true)))
    ∧ (runs →
      (s.aud.refugeRise = true → Answers .refugeLevelRampDone s { s with aud := { s.aud with refugeRise := false } })
      ∧ (s.aud.refugeRise = false → s.aud.refugeFall = true →
        Answers .refugeLevelRampDone s { s with aud := { s.aud with refugeFall := false, refugeReturn := true } })
      ∧ (s.aud.refugeRise = false → s.aud.refugeFall = false → Answers .refugeLevelRampDone s s)
      ∧ (s.aud.refugeReturn = false → Answers .refugeDeactivate s s)
      ∧ (s.aud.refugeReturn = true →
        ∃ t, exec .refugeDeactivate s = .next t ∧ bit (t.reg pgRfg 0x074) 0 = false ∧ bit (t.reg pgRfg 0x074) 5 = false ∧ bit (t.reg pgRfg 0x00C) 3 = true
          ∧ t.aud = { s.aud with refugeReturn := false } ∧ t.mem = s.mem)
      ∧ (bit (s.reg pgRfg 0x040) 0 = false → bit v 4 = false →
        ∃ t, exec .refugeSourceLost s = .next t ∧ bit (t.reg pgRfg 0x074) 4 = true ∧ bit (t.reg pgRfg 0x00C) 2 = true
          ∧ bit (t.reg pgRfg 0x074) 5 = (bit v 0 && bit (s.reg pgRfg 0x040) 1) ∧ t.aud = { s.aud with refugeSegment := 0 })
      ∧ (bit (s.reg pgRfg 0x040) 0 = true ∨ bit v 4 = true → Answers .refugeSourceLost s s)
      ∧ (bit v 4 = true → ∃ t, exec .refugeSourceReturn s = .next t ∧ bit (t.reg pgRfg 0x074) 4 = false
          ∧ bit (t.reg pgRfg 0x074) 5 = (bit v 0 && bit (s.reg pgRfg 0x040) 0) ∧ t.aud = s.aud)
      ∧ (bit v 4 = false → Answers .refugeSourceReturn s s)
      ∧ (let tone := bit v 0 && (bit (s.reg pgRfg 0x040) 0 || (bit v 4 && bit (s.reg pgRfg 0x040) 1))
        let n := s.aud.refugeSegment + 1
        let more := n < 8 ∧ fld (s.reg pgRfg (0x050 + 4 * n)) 0 8 ≠ 0
        Answers .refugeToneSegmentEnd s (if tone = true then { s with aud := { s.aud with refugeSegment := if more then n else 0 } } else s)))

/-! ### The network -/

/-- R347, R352–R354, R358, R368: a frame that arrives is discarded, dropped, queued, or read by the parser; a stream frame that passes takes its
Tallies, waits for them or is discarded, as LATE while no stream frame is received (R351); a copied frame counts as received; sequence numbers are
accepted once. The length tests of a frame are the model's reading (log 27); the header codes that the parser tests are presumed (log 28), and the
statement takes them as the functions parseFrame and testFrame. -/
def Obligations.ReceivedFramesTakeTallies : Prop :=
  ∀ (p : Fin 4) (f : RxFrame) (s : State), live s = true →
    let v := s.rxPort p.val
    let c : Instr := .frameReceive p f
    let stat := s.reg (pgAdt p.val) 0x050
    let used := (v.fifo.map fun g => g.bytes.length).sum
      + (match v.head with | .none => 0 | .waiting g => g.bytes.length | .copying g _ _ => g.bytes.length)
    let size := if p.val < 2 then 0x80000 else 0x20000
    let ends (k : Instr) (e : State) : Prop :=
      ∃ rx, Answers k s { e with adit := { e.adit with rx := rx } } ∧ ∀ j, sparseGet (⟨.none, []⟩ : RxPort) rx j = e.rxPort j
    let sound := f.fcsOk = true ∧ 60 ≤ f.bytes.length ∧ f.bytes.length ≤ 9216
    let withHead (h : RxHead) (t : State) : State := t.setRxPort p.val { v with head := h }
    (aditPortOn p.val s = false → Answers c s s)
    ∧ (aditPortOn p.val s = true → ¬sound → Answers c s (s.setReg (pgAdt p.val) 0x050 (withField stat 8 8 (min 255 (fld stat 8 8 + 1)))))
    ∧ (aditPortOn p.val s = true → sound → size < used + f.bytes.length →
      Answers c s ((s.setReg (pgAdt p.val) 0x050 (withField stat 0 8 (min 255 (fld stat 0 8 + 1)))).setEvt (pgAdt p.val) 2))
    ∧ (aditPortOn p.val s = true → sound → used + f.bytes.length ≤ size → v.head ≠ .none →
      Answers c s (s.setRxPort p.val { v with fifo := v.fifo ++ [f] }))
    ∧ (aditPortOn p.val s = true → sound → v = ⟨.none, []⟩ →
      (parseFrame p.val f.bytes s = .gptp → ends c (ptpFrame p.val f s))
      ∧ (parseFrame p.val f.bytes s = .unmatched → ends c ((s.setReg (pgAdt 4) 0x040 (s.reg (pgAdt 4) 0x040 + 1)).setEvt (pgAdt 4) 1))
      ∧ (∀ i lay info, parseFrame p.val f.bytes s = .stream i lay → s.ons.seg ≠ .cutoff → s.ons.seg ≠ .lamp → testFrame i lay f s = (some info, s) →
        let q := rxPool i s
        let n := (info.len + 255) / 256
        let possible := (s.pool q).active = true ∧ requestImpossible q i n s = false
        let atOnce := (s.pool q).queue = [] ∧ grantFits q i n s = true
        (possible → atOnce → ∃ t, exec c s = .next t ∧ (t.rxPort p.val).head = .copying info q (lowestFree (s.pool q) n) ∧ t.mem = s.mem
          ∧ (t.pool q).free = (s.pool q).free - n ∧ heldBy i t = heldBy i s + n
          ∧ ∀ x, sparseGet none (t.pool q).tags x = if x ∈ lowestFree (s.pool q) n then some i else sparseGet none (s.pool q).tags x)
        ∧ (possible → ¬atOnce → s.ons.seg ≠ .drain → ends c (withHead (.waiting info)
          (s.setPool q { s.pool q with queue := (s.pool q).queue ++ [⟨i, n, some p.val⟩] })))
        ∧ (possible → ¬atOnce → s.ons.seg = .drain → ends c (streamShort i (poolShort q false s)))
        ∧ (¬possible → ends c (streamShort i (poolShort q false s)))))
    ∧ (∀ info q ts, v.head = .copying info q ts → portWaits p.val q s = true → Answers (.frameCopyDone p) s s)
    ∧ (∀ info q ts m, v = ⟨.copying info q ts, []⟩ → portWaits p.val q s = false → streamsRun s = true → s.ons.seg ≠ .drain →
      tallyWrite p.val q ts (info.len + 1) 0 (info.bytes.take info.len) (withHead .none s) = (false, m) →
      let e : State := { m with adit := { m.adit with frames := m.adit.frames ++ [⟨info.stream, info.first, info.count, info.off, q, ts⟩] } }
      ends (.frameCopyDone p) (e.setReg (rxsPage info.stream) (rxsOff info.stream 0x18) (e.reg (rxsPage info.stream) (rxsOff info.stream 0x18) + 1)))
    ∧ (∀ info q ts m, v = ⟨.copying info q ts, []⟩ → portWaits p.val q s = false → streamsRun s = true → (∀ k < 4, (s.pool k).queue = []) →
      tallyWrite p.val q ts (info.len + 1) 0 (info.bytes.take info.len) (withHead .none s) = (true, m) →
      ends (.frameCopyDone p) ((rxBad info.stream (release q info.stream ts m)).setEvt (pgAdt 4) 2))
    ∧ (∀ info q ts, v = ⟨.copying info q ts, []⟩ → portWaits p.val q s = false → streamsRun s = false → (∀ k < 4, (s.pool k).queue = []) →
      ends (.frameCopyDone p) (rxLate info.stream (release q info.stream ts (withHead .none s))))
    ∧ ((∀ info q ts, v.head ≠ .copying info q ts) → Answers (.frameCopyDone p) s s)
    ∧ (∀ (q : Fin 4) (r : TallyReq) (rest : List TallyReq), (s.pool q.val).queue = r :: rest →
      let dropped := s.setPool q.val { s.pool q.val with queue := rest }
      (streamsRun s = false → (r.port = none → Answers (.tallyGrant q) s dropped)
        ∧ (r.port = some p.val → v.fifo = [] → ends (.tallyGrant q) (rxLate r.holder (withHead .none dropped))))
      ∧ (streamsRun s = true → grantFits q.val r.holder r.count s = false → Answers (.tallyGrant q) s s)
      ∧ (streamsRun s = true → grantFits q.val r.holder r.count s = true → ∃ t, exec (.tallyGrant q) s = .next t ∧ (t.pool q.val).queue = rest
          ∧ (t.pool q.val).free = (s.pool q.val).free - r.count ∧ heldBy r.holder t = heldBy r.holder s + r.count ∧ t.mem = s.mem
          ∧ (∀ info, r.port = some p.val → v.head = .waiting info →
            (t.rxPort p.val).head = .copying info q.val (lowestFree (s.pool q.val) r.count))))
    ∧ (∀ q : Fin 4, (s.pool q.val).queue = [] → Answers (.tallyGrant q) s s)
    ∧ (∀ (i : Fin 256) (seq : BitVec 16),
      (∃ t, exec (.eliminationReset i) s = .next t ∧ (eliminate i.val seq t).1 = true ∧ t.mem = s.mem
        ∧ ∀ j, j ≠ i.val → sparseGet none t.adit.elim j = sparseGet none s.adit.elim j)
      ∧ ((eliminate i.val seq s).1 = true → (eliminate i.val seq (eliminate i.val seq s).2).1 = false))

/-- R347–R349: the gPTP engine's roles and its SYNC follow what it hears; a Sync with its origin time gives the offset, a peer delay exchange the
path's delay; Sync is sent only as grandmaster; a port's link comes up. The order of identities and the slave port's choice are the model's reading
(log 29, log 43). -/
def Obligations.TheEngineFollowsTheGrandmaster : Prop :=
  ∀ (p : Fin 4) (s : State), live s = true →
    let g := pgAdt 5
    let e := s.adit.ptp
    let heard (k : Nat) (t : State) : Option Nat := sparseGet none t.adit.ptp.heard k
    let now (t : State) : W32 := t.reg g 0x044
    let master (t : State) : Prop := (∃ k < 4, ptpPort k s = true) ∧ bit (s.effReg g 0x040) 4 = true
      ∧ ∀ k < 4, ptpPort k s = true → ∀ x, heard k t = some x → ownIdentity s ≤ x
    let settled (t : State) : Prop :=
      (bit (now t) 1 = true ↔ master t) ∧ (bit (now t) 1 = true → t.adit.ptp.slave = none)
      ∧ (bit (now t) 1 = false → ∀ k < 4, ptpPort k s = true → ∀ x, heard k t = some x →
          ∃ q < 4, t.adit.ptp.slave = some q ∧ ptpPort q s = true ∧ fld (now t) 6 2 = q ∧ ∃ y, heard q t = some y ∧ y ≤ x)
      ∧ (bit (now t) 0 = true ↔ master t ∨ ∃ q, t.adit.ptp.slave = some q ∧ bit (now t) (2 + q) = true ∧ t.adit.ptp.syncRecent = true
          ∧ t.adit.ptp.offset.natAbs ≤ 1000)
      ∧ (t.adit.ptp.slave ≠ e.slave → t.adit.ptp.syncRecent = false)
      ∧ (bit (now s) 0 = true → bit (now t) 0 = false → bit (t.reg g 0x00C) 1 = true)
      ∧ (t.adit.ptp.grandmaster ≠ e.grandmaster → bit (t.reg g 0x00C) 2 = true)
      ∧ t.mem = s.mem
    let engine := ptpPort p.val s = true ∧ aditPortOn p.val s = true ∧ aditPortOn 0 s = true ∧ linkUp p.val s = true
    let receives (time : Int) (b : PtpBody) (P : State → Prop) : Prop :=
      ∃ t, exec (.ptpMessageReceive p ⟨0, time, b⟩) s = .next t ∧ settled t ∧ P t
    let ignores (time : Int) (b : PtpBody) : Prop := Answers (.ptpMessageReceive p ⟨0, time, b⟩) s s
    let v := e.port p.val
    let synced (t0 origin : Int) (t : State) : Prop := t.adit.ptp.offset = t0 - origin - v.delay ∧ t.adit.ptp.heard = e.heard
      ∧ (t.adit.ptp.slave = some p.val → t.adit.ptp.syncRecent = true)
    (∀ m, ¬engine ∨ m.domain ≠ 0 → Answers (.ptpMessageReceive p m) s s)
    ∧ (engine → ∀ (time : Int) (q : BitVec 16) (o : Int),
      (∀ x, receives time (.announce x) fun t => heard p.val t = some x ∧ (∀ k, k ≠ p.val → heard k t = heard k s)
        ∧ fld (now t) 2 4 = fld (now s) 2 4)
      ∧ (e.slave ≠ some p.val → ignores time (.sync q (some o)) ∧ ignores time (.sync q none) ∧ ignores time (.followUp q o))
      ∧ (e.slave = some p.val →
        receives time (.sync q (some o)) (synced time o)
        ∧ receives time (.sync q none) (fun t => (t.adit.ptp.port p.val).sync = some (q, time) ∧ t.adit.ptp.offset = e.offset
            ∧ (t.adit.ptp.slave = some p.val → t.adit.ptp.syncRecent = e.syncRecent))
        ∧ (∀ t0, v.sync = some (q, t0) → receives time (.followUp q o) fun t => synced t0 o t ∧ (t.adit.ptp.port p.val).sync = none)
        ∧ ((∀ t0, v.sync ≠ some (q, t0)) → ignores time (.followUp q o)))
      ∧ receives time (.pdelayReq q) (fun t => t.adit.ptp.queue = e.queue ++ [(p.val, .pdelayResp q), (p.val, .pdelayRespFollowUp q)]
        ∧ sparseGet none (t.adit.ptp.port p.val).requests q.toNat = some time)
      ∧ (∀ t1, v.asked = some (q, t1) → receives time (.pdelayResp q o) fun t => (t.adit.ptp.port p.val).answered = some (q, o, time))
      ∧ ((∀ t1, v.asked ≠ some (q, t1)) → ignores time (.pdelayResp q o) ∧ ignores time (.pdelayRespFollowUp q o))
      ∧ (∀ t1 t2 t4, v.asked = some (q, t1) → v.answered = some (q, t2, t4) → receives time (.pdelayRespFollowUp q o) fun t =>
        let d := (t.adit.ptp.port p.val).delay
        d = (t4 - t1 - (o - t2)) / 2 ∧ (bit (now t) (2 + p.val) = true ↔ d ≤ Config.propDelayThresh) ∧ t.adit.ptp.heard = e.heard))
    ∧ (∀ k, engine → (k = .sync ∨ k = .followUp → bit (now s) 1 = true) →
      Answers (.ptpMessageSend p k) s { s with adit := { s.adit with ptp := { e with queue := e.queue ++ [(p.val, k)] } } })
    ∧ (∀ k, ¬engine ∨ ((k = .sync ∨ k = .followUp) ∧ bit (now s) 1 = false) → Answers (.ptpMessageSend p k) s s)
    ∧ (aditPortOn 0 s = true →
      (∃ t, exec .ptpSyncTimeout s = .next t ∧ settled t ∧ t.adit.ptp.syncRecent = false ∧ t.adit.ptp.heard = e.heard)
      ∧ (∀ q, e.slave = some q →
          ∃ t, exec .announceReceiptTimeout s = .next t ∧ settled t ∧ heard q t = none ∧ ∀ k, k ≠ q → heard k t = heard k s))
    ∧ (aditPortOn 0 s = false → Answers .ptpSyncTimeout s s) ∧ (aditPortOn 0 s = false ∨ e.slave = none → Answers .announceReceiptTimeout s s)
    ∧ Answers (.linkUp p) s (if aditPortOn p.val s then s.setReg (pgAdt p.val) 0x050 (withField (s.reg (pgAdt p.val) 0x050) 31 1 1) else s)

/-- R345, R347, R348, R361–R364: a transmit frame is queued on the ports whose link is up and copied into a FIFO; a port begins with what stands first
by priority and credit, a gPTP message before any frame, and completes what it has begun; what the messages say. A frame that no port holds gives its
Tallies back; stale ones and those of a lost link are removed. The lengths on the wire and of gPTP messages are presumed (log 28, log 29), credit
quotients are free in their last place (log 37), and that a frame begins as soon as the commands let it is the model's reading (log 104). -/
def Obligations.TransmissionFollowsTheShapers : Prop :=
  ∀ (p : Fin 4) (s : State), live s = true →
    let quiet : Prop := (∀ q < 4, (s.pool q).queue = []) ∧ ∀ g ∈ s.adit.tx, g.eligible = true → g.queued ≠ [] ∨ g.sending ≠ []
    let gone (f : TxFrame) (t : State) : Prop := t.adit.tx = s.adit.tx.erase f
      ∧ (t.pool f.pool).free = (s.pool f.pool).free + f.tallies.length
      ∧ heldBy (256 + f.stream) t = heldBy (256 + f.stream) s - f.tallies.length
      ∧ ∀ x, sparseGet none (t.pool f.pool).tags x = if x ∈ f.tallies then none else sparseGet none (s.pool f.pool).tags x
    let earnsOn (k ns : Nat) (t : State) : Prop := ∀ c < 2,
      let v := shaperOf k c s
      let n := divFree 6 (idleSlope k c s * ns * 65536) 1000000
      shaperOf k c t = if classWaits k c s then { v with credit := v.credit + n, earned := v.earned + n }
        else if 0 < v.credit then { v with credit := 0, reset := v.reset + v.credit }
        else { v with credit := min 0 (v.credit + (n : Int)), earned := v.earned + min (n : Int) (-v.credit) }
    let earns (ns : Nat) (t : State) : Prop := earnsOn p.val ns t
    let byId (id : Nat) (g : TxFrame) : Bool := decide (g.id = id)
    let fifo := txFifo p.val s
    let on := aditPortOn p.val s = true
    let message := s.adit.ptp.queue.find? fun x => decide (x.1 = p.val)
    (∀ (i : Fin 128) (elapsed : List Nat),
      let c : Instr := .txFrameEligible ⟨i, elapsed⟩
      let waits (g : TxFrame) : Bool := decide (g.stream = i.val) && g.packed && !g.eligible
      let ports := (List.range 4).filter fun k => bit (txEff i.val 0 s) (24 + k) && linkUp k s && aditPortOn k s
      (s.adit.tx.find? waits = none → Answers c s s)
      ∧ (∀ f, s.adit.tx.find? waits = some f → ∃ t, exec c s = .next t ∧ t.mem = s.mem ∧ (∀ k < 4, earnsOn k (elapsed.getD k 0) t)
        ∧ (ports ≠ [] → { f with eligible := true, queued := ports } ∈ t.adit.tx)
        ∧ (quiet → ports ≠ [] → t.adit.tx = s.adit.tx.erase f ++ [{ f with eligible := true, queued := ports }])
        ∧ (quiet → ports = [] → f.sending = [] → gone f t)))
    ∧ (∀ ns : Nat,
      let queuedHere (c : Nat) (g : TxFrame) : Bool := g.eligible && g.queued.contains p.val && decide (txClass g.stream s = c)
      let paid := creditBoth p.val ns s
      let first (c : Nat) : Option TxFrame := if (shaperOf p.val c paid).credit < 0 then none else s.adit.tx.find? (queuedHere c)
      let next : Option TxFrame := match first 0 with | some f => some f | none => first 1
      let mayCopy := s.ons.seg ≠ .cutoff ∧ s.ons.seg ≠ .lamp ∧ streamsRun s = true
      let starts (t : State) : Prop :=
        let item (c : Nat) : Option TxItem := if streamsRun s = true ∧ 0 ≤ (shaperOf p.val c paid).credit then fifoFrame p.val c t else none
        ((txBegun p.val s).isSome = true ∨ linkUp p.val s = false → txBegun p.val t = txBegun p.val s ∧ t.adit.ptp = s.adit.ptp)
        ∧ (txBegun p.val s = none → linkUp p.val s = true →
          (∀ m, message = some m → txBegun p.val t = some (.message m.2) ∧ t.adit.ptp.queue = s.adit.ptp.queue.erase m)
          ∧ (message = none → t.adit.ptp = s.adit.ptp ∧ txBegun p.val t = (match item 0 with | some x => some x | none => item 1)))
      let after (P : State → Prop) : Prop := ∃ t, exec (.txFifoCopy p ns) s = .next t ∧ earns ns t ∧ P t
      let nothing (t : State) : Prop := t.adit.tx = s.adit.tx ∧ txFifo p.val t = fifo ∧ t.mem = s.mem
      (∀ f, on → mayCopy → next = some f →
        (fifoRoom p.val f.len s = true → portWaits p.val f.pool s = false → after fun t =>
          let r := tallyRead p.val f.pool f.tallies (f.len + 1) 0 f.len paid
          txFifo p.val t = fifo ++ [.frame f.id ⟨portBytes f.stream p.val (r.1.map (·.1)) r.2, !payloadPoison r.1⟩] ∧ starts t
          ∧ t.adit.tx = changeFirst (byId f.id) (fun g => { g with queued := g.queued.erase p.val, sending := g.sending ++ [p.val] }) s.adit.tx)
        ∧ (fifoRoom p.val f.len s = false ∨ portWaits p.val f.pool s = true → after fun t => nothing t ∧ starts t))
      ∧ (on → ¬mayCopy ∨ next = none → after fun t => nothing t ∧ starts t)
      ∧ (¬on → after fun t => nothing t ∧ txBegun p.val t = txBegun p.val s ∧ t.adit.ptp = s.adit.ptp))
    ∧ (∀ time : Int,
      let c : Instr := .txFrameDone p time
      let e := s.adit.ptp
      let v := e.port p.val
      (txBegun p.val s = none → linkUp p.val s = false ∨ ¬on → Answers c s s)
      ∧ (txBegun p.val s = none → linkUp p.val s = true → on →
        (txPick p.val s = none → ∃ b, Answers c s { s with adit := { s.adit with begun := b } } ∧ ∀ k, sparseGet none b k = txBegun k s)
        ∧ (∀ x, txPick p.val s = some x → txBegun p.val (txBegin p.val s) = some x ∧ exec c s = exec c (txBegin p.val s)))
      ∧ (∀ k, txBegun p.val s = some (.message k) → ∃ t, exec c s = .next t ∧ txFifo p.val t = fifo ∧ earns (wireTime p.val (messageLength k)) t
          ∧ t.adit.tx = s.adit.tx ∧ t.mem = s.mem
          ∧ (let u := t.adit.ptp.port p.val
            let sentOut (b : PtpBody) : Prop := t.adit.ptp.sent = some (p.val, b, time)
            (k = .sync → ∃ n, sentOut (.sync n none) ∧ u.syncSent = some (n, time))
            ∧ (∀ n t0, k = .followUp → v.syncSent = some (n, t0) → sentOut (.followUp n t0))
            ∧ (k = .announce → bit (s.reg (pgAdt 5) 0x044) 1 = true → sentOut (.announce (ownIdentity s)))
            ∧ (∀ q, k = .pdelayReq q → sentOut (.pdelayReq q) ∧ u.asked = some (q, time))
            ∧ (∀ q t2, k = .pdelayResp q → sparseGet none v.requests q.toNat = some t2 →
                sentOut (.pdelayResp q t2) ∧ sparseGet none u.responses q.toNat = some time)
            ∧ (∀ q t3, k = .pdelayRespFollowUp q → sparseGet none v.responses q.toNat = some t3 → sentOut (.pdelayRespFollowUp q t3))))
      ∧ (∀ id w, txBegun p.val s = some (.frame id w) → s.adit.tx.find? (byId id) = none →
        ∃ t, exec c s = .next t ∧ txFifo p.val t = fifo.erase (.frame id w) ∧ txBegun p.val t = none ∧ t.adit.tx = s.adit.tx ∧ t.mem = s.mem)
      ∧ (∀ id w f, txBegun p.val s = some (.frame id w) → s.adit.tx.find? (byId id) = some f →
        let k := txClass f.stream s
        ∃ t, exec c s = .next t ∧ t.mem = s.mem ∧ txFifo p.val t = fifo.erase (.frame id w) ∧ sparseGet none t.adit.wire p.val = some w
          ∧ t.reg (txsPage f.stream) (txsOff f.stream 0x20) = s.reg (txsPage f.stream) (txsOff f.stream 0x20) + 1
          ∧ fld (t.reg (txsPage f.stream) (txsOff f.stream 0x24)) 8 8
              = (let n := fld (s.reg (txsPage f.stream) (txsOff f.stream 0x24)) 8 8
                 if w.fcsOk then n else min 255 (n + 1))
          ∧ (∀ j < 2, let v := shaperOf p.val j s
            let u := shaperOf p.val j t
            u.spent - v.spent = (if j = k then (divFree 7 (wireBits f.len * 65536 * (portRate p.val - idleSlope p.val j s)) (portRate p.val) : Int) else 0)
            ∧ u.credit = v.credit + (u.earned - v.earned) - (u.spent - v.spent) - (u.reset - v.reset) ∧ v.earned ≤ u.earned)
          ∧ (quiet → f.eligible = true → f.queued = [] → f.sending = [p.val] → gone f t)))
    ∧ (let here (g : TxFrame) : Bool := g.eligible && (g.queued.contains p.val || g.sending.contains p.val) && !hasBegun p.val g.id s
      (s.adit.tx.find? here = none → Answers (.txFrameStale p) s s)
      ∧ (∀ f, s.adit.tx.find? here = some f → ∃ t, exec (.txFrameStale p) s = .next t ∧ t.mem = s.mem ∧ bit (t.reg (pgAdt 6) 0x00C) 2 = true
        ∧ fld (t.reg (txsPage f.stream) (txsOff f.stream 0x24)) 16 8 = min 255 (fld (s.reg (txsPage f.stream) (txsOff f.stream 0x24)) 16 8 + 1)
        ∧ txFifo p.val t = fifoWithout (fun id => decide (id = f.id)) fifo
        ∧ (quiet → s.adit.tx.find? (byId f.id) = some f → f.queued.erase p.val = [] → f.sending.erase p.val = [] → gone f t)
        ∧ (quiet → f.queued.erase p.val ≠ [] ∨ f.sending.erase p.val ≠ [] → s.adit.tx.find? (byId f.id) = some f → t.adit.tx = changeFirst (byId f.id)
          (fun g => { g with queued := g.queued.erase p.val, sending := g.sending.erase p.val }) s.adit.tx)))
    ∧ (bit (s.reg (pgAdt p.val) 0x050) 31 = false → Answers (.linkDown p) s s)
    ∧ (bit (s.reg (pgAdt p.val) 0x050) 31 = true → ∃ t, exec (.linkDown p) s = .next t ∧ bit (t.reg (pgAdt p.val) 0x050) 31 = false
        ∧ bit (t.reg (pgAdt p.val) 0x00C) 1 = true ∧ bit (t.reg (pgAdt 5) 0x044) (2 + p.val) = false ∧ txFifo p.val t = [] ∧ txBegun p.val t = none
        ∧ sparseGet none t.adit.ptp.heard p.val = none ∧ (∀ x ∈ t.adit.ptp.queue, x.1 ≠ p.val) ∧ t.mem = s.mem
        ∧ (s.adit.tx.all (fun g => g.queued.Nodup && g.sending.Nodup) = true → ∀ g ∈ t.adit.tx, p.val ∉ g.queued ∧ p.val ∉ g.sending))

/-! ### Energy and safety -/

/-- R375, R376, R379: a period of the Lamp room adds each domain's energy, scaled by TRIM, to its counter: its activity with the square of the supply,
and leakage; none where it is OFF; a read of the power monitor in progress ends good or bad, and the third bad one ends VALID. Whether a quotient
rounds up is open (log 37), and the statement allows both. -/
def Obligations.EnergyIsCounted : Prop :=
  ∀ s : State,
    (∀ use : List DomainUse, s.ons.runs = false ∨ halted s = true → ¬(s.life.phase = .asserted ∧ bit s.life.causes 0 = true) →
      ∃ t, exec (.lampRoomPeriod use) s = .next t ∧ t.mem = s.mem ∧ t.threads = s.threads ∧ ∀ d < 64,
        let total (u : State) : Nat :=
          ((u.reg pgLrm (0x204 + 8 * d)).toNat * 2 ^ 32 + (u.reg pgLrm (0x200 + 8 * d)).toNat) * 2 ^ 16 + sparseGet 0 u.nrg.residue d
        let u := useOf use d
        let drawsOff : Prop := s.domain d = .off ∧ sparseGet false s.emu.dom d = false
        let x := modelledEnergy d u s * fld (s.reg pgLrm 0x084) 0 16
        let unit := 20736 * 2 ^ 14
        (drawsOff → total t % 2 ^ 80 = total s % 2 ^ 80)
        ∧ (∃ r : Nat, total t % 2 ^ 80 = (total s + x / unit + r) % 2 ^ 80 ∧ (r = 0 ∨ (r = 1 ∧ x % unit ≠ 0))))
    ∧ (∀ (d : Nat) (u : DomainUse),
      let counted := ((u.counts.zipIdx).map fun x => x.1 * Config.activityCoeff d x.2).sum
      let on := s.domain d = .on ∨ sparseGet false s.emu.dom d = true
      (on → modelledEnergy d u s = counted * (120 + domainSupply d s) ^ 2 + modelledEnergy d ⟨[], u.temp⟩ s)
      ∧ (¬on → modelledEnergy d u s = modelledEnergy d ⟨[], u.temp⟩ s))
    ∧ (∀ use : List DomainUse, s.ons.runs = true → halted s = false → Answers (.lampRoomPeriod use) s s)
    ∧ (live s = true → ∀ value : Option Nat,
      let p := value.getD 0 % 2 ^ 16 * fld (s.reg pgLrm 0x080) 16 16
      let bad := value = none ∨ value.getD 0 % 2 ^ 16 = 0 ∨ 40000000 < p
      let c : Instr := .pmonRead value
      let asked := s.nrg.asked ≠ none
      (¬asked → Answers c s s)
      ∧ (asked → bad → s.nrg.bad ≠ 2 →
        Answers c s { s with nrg := { s.nrg with asked := none, good := 0, bad := min 3 (s.nrg.bad + 1) } })
      ∧ (asked → bad → s.nrg.bad = 2 →
        Answers c s ((({ s with nrg := { s.nrg with asked := none, good := 0, bad := 3 } } : State).setReg pgLrm 0x084 (withField (s.reg pgLrm 0x084) 16 1 0)).setEvt pgLrm 3))
      ∧ (asked → ¬bad →
        ∃ t, exec c s = .next t ∧ t.nrg.asked = none ∧ t.nrg.good = min 8 (s.nrg.good + 1) ∧ t.nrg.bad = 0 ∧ t.mem = s.mem
          ∧ bit (t.reg pgLrm 0x084) 16 = (decide (7 ≤ s.nrg.good) || bit (s.reg pgLrm 0x084) 16)
          ∧ 0x2000 ≤ fld (t.reg pgLrm 0x084) 0 16 ∧ fld (t.reg pgLrm 0x084) 0 16 ≤ 0x8000))

/-- R384, R387, R388, R390–R393: requests of the device state and of frequencies, wakes from DORMANT, surveys with the planner's need, wear records
that only rise, and the operating hours. -/
def Obligations.OperatingPointsArePlanned : Prop :=
  ∀ (q : Requester) (i : Fin 48) (data : W32) (s : State),
    let triad := q.master = 0x23 ∨ q.master = 0xFF
    let p := pgCrg i.val
    (Admitted q .write pgLrm 0x040 s → pageOn pgLrm s = true →
      Writes (.lrmStateWrite q data) s (if ¬triad then refuseWrite pgLrm 0x040 0x40 s
        else if fld data 0 2 = 3 ∧ s.guard.safe = true then refuseWrite pgLrm 0x040 0x41 s
        else s.setReg pgLrm 0x040 (withField (s.reg pgLrm 0x040) 0 2 (fld data 0 2))))
    ∧ (s.life.phase = .dormant →
      (bit (s.reg pgLrm 0x088) 31 = true → ∃ t, exec .wakePin s = .next t ∧ t.life.phase = .asserted ∧ bit t.life.causes 2 = true)
      ∧ (bit (s.reg pgLrm 0x088) 31 = false → Answers .wakePin s s)
      ∧ (fld (s.reg pgLrm 0x088) 0 16 ≠ 0 → ∃ t, exec .wakeTimer s = .next t ∧ t.life.phase = .asserted ∧ bit t.life.causes 2 = true)
      ∧ (fld (s.reg pgLrm 0x088) 0 16 = 0 → Answers .wakeTimer s s))
    ∧ (s.life.phase ≠ .dormant → Answers .wakePin s s ∧ Answers .wakeTimer s s)
    ∧ (Admitted q .write p 0x040 s → pageOn p s = true →
      let f := fld data 0 21
      Writes (.crgFreqWrite q i data) s (if ¬triad then refuseWrite p 0x040 0x41 s
        else if i.val = 41 ∨ 43 ≤ i.val ∨ f * 64 < islandMax i.val * 4 ∨ islandMax i.val < f then refuseWrite p 0x040 0x06 s
        else s.setReg p 0x040 (BitVec.ofNat 32 f)))
    ∧ (Admitted q .write p 0x048 s → pageOn p s = true → s.isLocked p = false →
      let runs := fld (s.reg p 0x04C) 0 2 = 1
      (runs → Writes (.surveyGo q i) s (refuseWrite p 0x048 0x40 s))
      ∧ (¬runs → islandOn i.val s = true →
        ∃ t, exec (.surveyGo q i) s = .next t ∧ fld (t.reg p 0x04C) 0 2 = 1 ∧ bit (t.reg p 0x048) 0 = true
          ∧ bit (t.reg p 0x048) 1 = bit (s.reg p 0x048) 1 ∧ t.mem = s.mem ∧ t.nrg = s.nrg)
      ∧ (¬runs → islandOn i.val s = false →
        ∃ t, exec (.surveyGo q i) s = .next t ∧ t.reg p 0x04C = s.reg p 0x04C
          ∧ sparseGet false t.nrg.surveyDue i.val = true ∧ t.mem = s.mem))
    ∧ (∀ g0 g1 g2 g3 : Int, live s = true → fld (s.reg p 0x04C) 0 2 = 1 →
      (∀ g ∈ [g0, g1, g2, g3], -512 ≤ g ∧ g ≤ 511) →
      let degr := (max 0 (max (max g0 g1) (max g2 g3))).toNat
      let step := fld (s.reg p 0x060) 0 8
      let v := fld (s.reg p 0x060) 26 6 + (degr + step - 1) / step
      let need : Nat × Nat := if v ≤ 50 then (v, 1000) else (50, max 62 (1000 - (v - 50) * step))
      ∃ t, exec (.surveyDone i [g0, g1, g2, g3]) s = .next t ∧ t.mem = s.mem
        ∧ t.reg p 0x04C = BitVec.ofNat 32 (need.1 * 2 ^ 26 + need.2 * 2 ^ 16 + degr * 64 + 2)
        ∧ bit (t.reg p 0x048) 0 = false ∧ bit (t.reg p 0x00C) 1 = true
        ∧ t.reg p 0x050 = (BitVec.ofInt 10 g0).setWidth 32 ∧ t.reg p 0x054 = (BitVec.ofInt 10 g1).setWidth 32
        ∧ t.reg p 0x058 = (BitVec.ofInt 10 g2).setWidth 32 ∧ t.reg p 0x05C = (BitVec.ofInt 10 g3).setWidth 32
        ∧ (fld (s.reg p 0x044) 26 6 < need.1 ∨ need.2 < sparseGet 1000 s.nrg.ceil i.val → bit (t.reg p 0x00C) 2 = true))
    ∧ (live s = true → fld (s.reg p 0x04C) 0 2 ≠ 1 → ∀ gs, Answers (.surveyDone i gs) s s)
    ∧ (s.nrg.hourShifts < 5400000 → Answers .ophoursTick s s)
    ∧ (5400000 ≤ s.nrg.hourShifts → (s.reg pgLrm 0x08C + 1).toNat % 24 ≠ 0 → Answers .ophoursTick s
      { s.setReg pgLrm 0x08C (s.reg pgLrm 0x08C + 1) with nrg := { s.nrg with hourShifts := s.nrg.hourShifts - 5400000 } })
    ∧ (Admitted q .write pgLrm (0x600 + 4 * i.val) s → pageOn pgLrm s = true →
      let off := 0x600 + 4 * i.val
      let v := fld data 26 6
      let c := fld data 16 10
      let old := s.reg pgLrm off
      let w : Instr := .lrmWearWrite q i data
      (¬triad → Writes w s (refuseWrite pgLrm off 0x40 s))
      ∧ (triad → v < fld old 26 6 ∨ 50 < v ∨ fld old 16 10 < c ∨ c < 62 → Writes w s (refuseWrite pgLrm off 0x06 s))
      ∧ (triad → fld old 26 6 ≤ v → v ≤ 50 → c ≤ fld old 16 10 → 62 ≤ c →
        let e := s.setReg pgLrm off (withField data 0 6 0)
        Writes w s (if c < fld old 16 10 ∧ c < 1000 then e.setEvt pgLrm 4 else e)))

/-- R403–R405, R408, R411, R412, R417, R471: a kick in its window by the Triad restarts the watchdog, any other one and a time-out are SAFE with their
record; the reset after SAFE; the heartbeat; the software events and the monitors. -/
def Obligations.TheWatchdogGuardsTheDevice : Prop :=
  ∀ (q : Requester) (data : W32) (s : State),
    let triad := q.master = 0x23 ∨ q.master = 0xFF
    let counts := bit (s.effReg pgWdg 0x004) 0 = true ∧ s.guard.safe = false
    let toSafe (c : Instr) (evt : Nat) : Prop :=
      ∃ t, exec c s = .next t ∧ t.guard.safe = true ∧ t.reg pgBel 0x074 = 0x8028000B ∧ t.reg pgBel 0x078 = shiftNo s ∧ bit (t.reg pgWdg 0x00C) evt = true
        ∧ t.tpl.out = [] ∧ t.aud.play = s.aud.play.map silenced ∧ t.mem = s.mem ∧ bit (t.reg pgRfg 0x074) 1 = true
    (∀ elapsed, Admitted q .write pgWdg 0x04C s →
      let c : Instr := .wdgKick q data elapsed
      let good := data = 0x0000C35A ∧ fld (s.reg pgWdg 0x044) 0 20 ≤ elapsed
      (¬triad → Writes c s (refuseWrite pgWdg 0x04C 0x40 s))
      ∧ (triad → ¬counts → Writes c s s)
      ∧ (triad → counts → good → Writes c s (s.setReg pgWdg 0x050 (withField (s.reg pgWdg 0x050) 0 20 0)))
      ∧ (triad → counts → ¬good → toSafe c 2))
    ∧ (live s = true → (counts → toSafe .wdgTimeout 1) ∧ (¬counts → Answers .wdgTimeout s s))
    ∧ (live s = true → s.guard.safe = true → bit (s.reg pgWdg 0x004) 16 = true →
      ∃ t, exec .wdgReset s = .next t ∧ t.life.phase = .asserted ∧ bit t.life.causes 3 = true)
    ∧ (live s = false ∨ s.guard.safe = false ∨ bit (s.reg pgWdg 0x004) 16 = false → Answers .wdgReset s s)
    ∧ (Admitted q .write pgWdg 0x054 s → pageOn pgWdg s = true →
      let alive : State := { s.setReg pgWdg 0x050 (withField (s.reg pgWdg 0x050) 29 1 1) with
        guard := { s.guard with alive := true, static := s.guard.static && s.guard.safe } }
      Writes (.wdgAlive q data) s (if ¬triad then refuseWrite pgWdg 0x054 0x40 s else if bit data 0 then alive else s))
    ∧ (Admitted q .write pgBel 0x068 s → pageOn pgBel s = true → Writes (.belSwiSet q data) s (s.setReg pgBel 0x068 (s.reg pgBel 0x068 ||| (data &&& 0xFFFF))))
    ∧ (Admitted q .write pgBel 0x06C s → pageOn pgBel s = true →
      Writes (.belSwiClr q data) s (s.setReg pgBel 0x068 (s.reg pgBel 0x068 &&& ~~~(data &&& 0xFFFF))))
    ∧ (∀ (k : Fin 8) (core : Nat),
      let codes := comparedCodes s
      let beyond := (k = 0 → core + 30 < 600 + 5 * codes.1) ∧ (k = 1 → 600 + 5 * codes.2 + 40 < core ∨ 900 < core)
      let shown := s.setReg pgBel 0x070 (withField (s.reg pgBel 0x070) k.val 1 1)
      let evt := if k.val < 6 then 1 else if k.val = 6 then 2 else 3
      (¬beyond → Answers (.monitorExcursion ⟨k, core⟩) s s)
      ∧ (beyond → s.life.phase = .asserted → Answers (.monitorExcursion ⟨k, core⟩) s shown)
      ∧ (beyond → s.life.phase ≠ .asserted → Answers (.monitorExcursion ⟨k, core⟩) s (monitorsHold shown) ∧ bit ((monitorsHold shown).reg pgBel 0x00C) evt = true
        ∧ ∃ r, monitorsHold shown = shown.setReg pgBel 0x00C r)
      ∧ Answers (.excursionEnd k) s (s.setReg pgBel 0x070 (withField (s.reg pgBel 0x070) k.val 1 0)))

/-! ### Debug and performance counters -/

/-- R420–R423: the debug wire: DREAD and DWRITE by level and reach, MREAD and MWRITE with their response codes, an access that completes late and is
polled for. R418–R421: a low is a cell, a BREAK or a reset by its length; the bits of a request spell it and have the effect of its command; a packet
cut short gets no response; a wrong CRC is answered with CRC, ahead of every other fault. That a new access discards an unreported result, and that
POLL needs no level, are the model's readings (log 51). -/
def Obligations.TheDebugWireAnswers : Prop :=
  (
    ∀ s : State,
      let level := fld (s.reg pgDbg 0x040) 0 2
      let withAccess (x : DbgAccess) (u : State) : State := { u with dbg := { u.dbg with access := x } }
      (∀ off : BitVec 12, let n := off.toNat
        let c : Instr := .dread off
        (wireReaches n = false → Answers c s (wired 3 none s))
        ∧ (wireReaches n = true → (∀ k, wireNeeds false n = some k → level < k) → Answers c s (wired 4 none s))
        ∧ (∀ k, wireReaches n = true → wireNeeds false n = some k → k ≤ level →
          (n % 0x800 = 0 → Answers c s (wired 1 (some (blkId pgDbg)) s))
          ∧ (n % 0x800 ≠ 0 → n % 0x800 ≠ 0x0B0 → ¬(0x060 ≤ n % 0x800 ∧ n % 0x800 < 0x080) → Answers c s (wired 1 (some (s.reg pgDbg (n % 0x800))) s))))
      ∧ (WireQuiet s → ∀ (off : BitVec 12) (data : W32), let n := off.toNat
        let c : Instr := .dwrite off data
        (wireReaches n = false → Answers c s (wired 3 none s))
        ∧ (wireReaches n = true → (∀ k, wireNeeds true n = some k → level < k) → Answers c s (wired 4 none s))
        ∧ (level = 2 → 0x088 ≤ n → n < 0x09C → n % 4 = 0 → Answers c s (wired 1 none (s.setReg pgDbg n data)))
        ∧ (level = 2 → n = 0x080 → fld data 0 2 = 0 →
          Answers c s (wired 1 none (s.setReg pgDbg n ((s.reg pgDbg n &&& ~~~0x70#32) ||| (data &&& 0x70))))))
      ∧ (∀ (addr : W32) (size : BitVec 2) (data : W32) (late : Bool), WireQuiet s →
        let a := addr.toNat
        let n := 2 ^ size.toNat
        let rd : Instr := .mread addr size late
        let wr : Instr := .mwrite addr size data late
        let free := ∀ w x y z, s.dbg.access ≠ .outstanding w x y z
        (size = 3 → Answers rd s (wired 3 none s) ∧ Answers wr s (wired 3 none s))
        ∧ (size ≠ 3 →
          (level < accessNeeds false a → Answers rd s (wired 4 none s)) ∧ (level < 2 → Answers wr s (wired 4 none s))
          ∧ (¬free → (accessNeeds false a ≤ level → Answers rd s (wired 2 none s)) ∧ (level = 2 → Answers wr s (wired 2 none s)))
          ∧ (free → level = 2 → a % n ≠ 0 → Answers rd s (wired 3 none s) ∧ Answers wr s (wired 3 none s))
          ∧ (free → level = 2 → a % n = 0 → late = true →
            Answers rd s (wired 2 none (withAccess (.outstanding false addr n 0) s)) ∧ Answers wr s (wired 2 none (withAccess (.outstanding true addr n data) s)))
          ∧ (free → level = 2 → a % n = 0 → late = false → wireBusUp s = true →
            (∀ p x, size = 2 → a = regAddr p x → x < 0x1000 → (pageKind p).isSome = true →
              (mpuDecide 76 debugMaster .read (mpuAddress .read a) s = none →
                Answers rd s (wired 1 (some (pageRead p x s).1) (withAccess .none (pageRead p x s).2)))
              ∧ (mpuDecide 76 debugMaster .write a s = none → x = 0x00C →
                Answers wr s (wired 1 none (withAccess .none (s.setReg p x (s.reg p x &&& ~~~data))))))
            ∧ (∀ b, bankOf a = some b → soundWord s.mem (a / 8) = true →
              (busCheck debugMaster .read a s = (none, s) →
                Answers rd s (wired (if (storedValue s.mem a n).2 then 6 else 1) (some (BitVec.ofNat 32 (storedValue s.mem a n).1)) (withAccess .none s)))
              ∧ (busCheck debugMaster .write a s = (none, s) → rosterPlace a = none →
                ∃ m, Written s.mem m a (marked n data.toNat false)
                  ∧ Answers wr s (wired 1 none (withAccess .none (breakReservations none (a / 8) (a / 8) { s with mem := m }))))))))
      ∧ ((s.dbg.access = .none → Answers .poll s (wired 3 none s))
        ∧ (∀ r, s.dbg.access = .unreported r → Answers .poll s (withAccess .none (wired r.ack r.data s)))
        ∧ (∀ w x y z, s.dbg.access = .outstanding w x y z → Answers .poll s (wired 2 none s)))
      ∧ Answers .wireBreak s s
      ∧ (WireQuiet s → ((∀ w x y z, s.dbg.access ≠ .outstanding w x y z) → Answers .debugAccessDone s s)
        ∧ ∀ p x d, s.dbg.access = .outstanding false (BitVec.ofNat 32 (regAddr p x)) 4 d → x < 0x1000 → x % 4 = 0 → (pageKind p).isSome = true →
          wireBusUp s = true → mpuDecide 76 debugMaster .read (mpuAddress .read (regAddr p x)) s = none →
          Answers .debugAccessDone s (withAccess (.unreported ⟨1, some (pageRead p x s).1⟩) (pageRead p x s).2))
  ) ∧ (
    (∀ n : Nat, (lowClass n = .reset ↔ 20000 ≤ n) ∧ (lowClass n = .brk ↔ 2000 ≤ n ∧ n < 20000))
    ∧ (∀ r : WireRequest, packetRequest (requestBits r) = some (.ok r)
      ∧ (∀ k < (requestBits r).length, packetRequest ((requestBits r).take k) = none)
      ∧ (∀ v : Byte, v ≠ crc8 (requestBytes r) → ∀ s late, packetEffect late (wireBitsOf (requestBytes r ++ [v])) s = wireReply .crc none s))
    ∧ (∀ (s : State) (late : Bool) (off : BitVec 12) (addr data : W32) (size : Fin 3),
      let runs (c : Instr) (r : WireRequest) : Prop := exec c s = commit (packetEffect late (requestBits r)) s
      runs (.dread off) (.dread off) ∧ runs (.dwrite off data) (.dwrite off data) ∧ runs (.mread addr (BitVec.ofNat 2 size.val) late) (.mread addr size)
        ∧ runs (.mwrite addr (BitVec.ofNat 2 size.val) data late) (.mwrite addr size data) ∧ runs .poll .poll)
  )

/-- R424–R427, R430, R431: the levels by challenge and response, with the lockout after three failures; halts and their end; a fed bundle. That a
request at or below the level ends a challenge is the model's reading (log 62); what a fed bundle leaves alone is log 20; the response is compared by
the function expectedResponse, whose HMAC-SHA-256 is presumed (log 45). -/
def Obligations.DebugLevelsAndHalts : Prop :=
  ∀ s : State, WireQuiet s → halted s = false → haltPending s = false →
    let v := s.reg pgDbg 0x040
    let level := fld v 0 2
    (∀ req : BitVec 2,
      let c : Instr := .dbgAuthRequest req
      let barred := bit v 26 = true ∨ (req = 2 ∧ bit v 28 = true)
      let asked := s.setReg pgDbg 0x044 (req.setWidth 32)
      (req = 3 → Answers c s (wired 3 none s))
      ∧ (req ≠ 3 → barred → ∃ t, exec c s = .next t ∧ fld (t.reg pgDbg 0x040) 4 2 = 2 ∧ fld (t.reg pgDbg 0x040) 0 2 = level ∧ t.mem = s.mem)
      ∧ (req ≠ 3 → ¬barred → req.toNat ≤ level → ∃ t, exec c s = .next t ∧ fld (t.reg pgDbg 0x040) 4 2 = 0 ∧ fld (t.reg pgDbg 0x040) 0 2 = req.toNat
        ∧ (∀ i < 4, t.reg pgDbg (0x048 + 4 * i) = 0) ∧ t.mem = s.mem)
      ∧ (req ≠ 3 → ¬barred → level < req.toNat → ∃ t, exec c s = .next t ∧ fld (t.reg pgDbg 0x040) 4 2 = 1 ∧ fld (t.reg pgDbg 0x040) 0 2 = level
        ∧ t.reg pgDbg 0x044 = asked.reg pgDbg 0x044 ∧ t.mem = s.mem))
    ∧ (∀ data : W32,
      let put : State := { s with dbg := { s.dbg with resp := sparseSet 0 s.dbg.resp 7 data } }
      let ok := ((List.range 8).flatMap fun i => bytesOf 4 (sparseGet 0 put.dbg.resp i).toNat) = expectedResponse put
      let fails := min 3 (fld v 24 2 + 1)
      (fld v 4 2 ≠ 1 → Answers (.dbgResponseCompare data) s (wired 1 none put))
      ∧ (fld v 4 2 = 1 → ∃ t, exec (.dbgResponseCompare data) s = .next t ∧ fld (t.reg pgDbg 0x040) 4 2 = 0
        ∧ (∀ i < 4, t.reg pgDbg (0x048 + 4 * i) = 0)
        ∧ fld (t.reg pgDbg 0x040) 0 2 = (if ok then fld (s.reg pgDbg 0x044) 0 2 else 0)
        ∧ fld (t.reg pgDbg 0x040) 24 2 = (if ok then 0 else fails)
        ∧ bit (t.reg pgDbg 0x040) 26 = (bit v 26 || (!decide ok && decide (fails = 3))) ∧ t.mem = s.mem ∧ t.threads = s.threads))
    ∧ (level = 2 → ∃ t, exec .haltRequest s = .next t ∧ haltPending t = true ∧ halted t = false ∧ bit (t.reg pgDbg 0x080) 0 = true
        ∧ t.mem = s.mem ∧ t.threads = s.threads)
    ∧ (level ≠ 2 → Answers .haltRequest s s)
    ∧ (∀ n, Answers (.haltComplete n) s s)
    ∧ (∀ n u, s.life.phase ≠ .asserted → u = s.setReg pgDbg 0x040 (withField v 30 1 1) → (∀ x ∈ s.threads, x.2.running = true → threadStops x.2 = true) →
      ∃ t, exec (.haltComplete n) u = .next t ∧ halted t = true ∧ haltPending t = false ∧ t.mem = s.mem ∧ t.threads = s.threads
        ∧ (watchdogCounts s = true → fld (t.reg pgWdg 0x050) 0 20 = min n (fld (s.reg pgWdg 0x040) 0 20)))
    ∧ (∀ long u, u = s.setReg pgDbg 0x040 (withField v 30 2 2) →
      (level < 2 → Answers (.resume long) u (wired 4 none u))
      ∧ (level = 2 → ∃ t, exec (.resume long) u = .next t ∧ halted t = false ∧ haltPending t = false ∧ bit (t.reg pgDbg 0x00C) 4 = true
        ∧ t.dbg.wire = some ⟨1, none⟩ ∧ t.mem = s.mem ∧ t.threads = s.threads))
    ∧ (level = 2 → Answers .feedGo s (wired 3 none s))
    ∧ (∀ (f : FDdd) (u : State), level = 2 → u = s.setReg pgDbg 0x040 (withField v 30 2 2) → f.fn = 0 → s.reg pgDbg 0x088 = sylWord true 1 0x01 (packDdd f) →
      feedSelOk (s.reg pgDbg 0x084) = true → isThread (feedHart s) = true → coreOn (feedHart s).core.val s = true →
      let h := feedHart s
      let a := (s.thread h).dReg f.ds1.toNat
      let b := (s.thread h).dReg f.ds2.toNat
      ∃ t, exec .feedGo u = .next t ∧ t.reg pgDbg 0x09C = 0x20000000 ∧ (t.thread h).dReg f.dd.toNat = ⟨a.bits + b.bits, a.poison || b.poison⟩
        ∧ (t.thread h).pc = (s.thread h).pc ∧ t.mem = s.mem ∧ ∀ h', hartKey h' ≠ hartKey h → t.thread h' = s.thread h')

/-- R433, R434, R437–R439: the terminal's two words, the trace ring, and the performance counters: writes by halves, snapshots, wraps and windows.
That a write of a low half without a held high half keeps the high half is the model's reading (log 64); that a snapshot is complete with its command,
and what a counter holds, is the model's choice (log 48). -/
def Obligations.TerminalTraceAndCounters : Prop :=
  ∀ (q : Requester) (data : W32) (s : State),
    let term := s.reg pgDbg 0x0A8
    let level := fld (s.reg pgDbg 0x040) 0 2
    (Admitted q .write pgDbg 0x0A0 s → pageOn pgDbg s = true → Writes (.txdWrite q data) s (if bit term 0 then refuseWrite pgDbg 0x0A0 0x41 s
        else (s.setReg pgDbg 0x0A0 data).setReg pgDbg 0x0A8 (withField term 0 1 1)))
    ∧ (Admitted q .write pgDbg 0x0A8 s → pageOn pgDbg s = true → Writes (.rxAck q) s (s.setReg pgDbg 0x0A8 (withField term 1 1 0)))
    ∧ (1 ≤ level → Answers .txAck s (wired 1 none (if bit term 0 then (s.setReg pgDbg 0x0A8 (withField term 0 1 0)).setEvt pgDbg 2 else s)))
    ∧ (level < 1 → Answers .txAck s (wired 4 none s))
    ∧ (level = 2 → Answers (.rxdWrite data) s (if bit term 1 then wired 3 none s
        else wired 1 none (((s.setReg pgDbg 0x0A4 data).setReg pgDbg 0x0A8 (withField term 1 1 1)).setEvt pgDbg 1)))
    ∧ (level ≠ 2 → Answers (.rxdWrite data) s (wired 4 none s))
    ∧ (Admitted q .read pgDbg 0x0B0 s → pageOn pgDbg s = true → BellAgrees s →
      (∀ v rest, s.dbg.trace = v :: rest → ∃ t, exec (.traceRead q) s = .next t ∧ t.answer = .done (some v) ∧ t.dbg.trace = rest ∧ t.mem = s.mem)
      ∧ (s.dbg.trace = [] → ∃ t, exec (.traceRead q) s = .next t ∧ t.answer = .done (some 0) ∧ t.dbg.trace = []))
    ∧ (∀ (i : Nat) (k : Fin 8), 0 < i → i < 37 → k.val < pmcK i → Admitted q .write (pgPmc i) (0x080 + 8 * k.val) s → pageOn (pgPmc i) s = true →
      ∃ t, exec (.pmcCounterWrite q i k data) s = .next t ∧ t.answer = .done none ∧ t.reg (pgPmc i) (0x080 + 8 * k.val) = data
        ∧ t.reg (pgPmc i) (0x084 + 8 * k.val) = (match sparseGet none s.pmcHeld (8 * i + k.val) with
            | some v => v &&& 0xFFFF | none => s.reg (pgPmc i) (0x084 + 8 * k.val) &&& 0xFFFF)
        ∧ sparseGet none t.pmcHeld (8 * i + k.val) = none ∧ t.mem = s.mem ∧ t.threads = s.threads)
    ∧ (Admitted q .write (pgPmc 0) 0x040 s → pageOn (pgPmc 0) s = true →
      ∃ t, exec (.pmcSnap q) s = .next t ∧ t.answer = .done none ∧ t.mem = s.mem ∧ t.threads = s.threads ∧ ∀ i, 0 < i → i < 37 →
        (pageOn (pgPmc i) s = true → t.reg (pgPmc i) 0x100 = t.reg (pgPmc i) 0x040 ∧ t.reg (pgPmc i) 0x104 = t.reg (pgPmc i) 0x044
          ∧ ∀ k < pmcK i, t.reg (pgPmc i) (0x110 + 8 * k) = t.reg (pgPmc i) (0x080 + 8 * k) ∧ t.reg (pgPmc i) (0x114 + 8 * k) = t.reg (pgPmc i) (0x084 + 8 * k))
        ∧ (pageOn (pgPmc i) s = false → t.reg (pgPmc i) 0x100 = 0 ∧ t.reg (pgPmc i) 0x104 = 0
          ∧ ∀ k < pmcK i, t.reg (pgPmc i) (0x110 + 8 * k) = 0 ∧ t.reg (pgPmc i) (0x114 + 8 * k) = 0))
    ∧ (∀ (i : Nat) (k : Fin 8), live s = true → k.val < pmcK i →
      (pmcCounts i k.val s = true → ∃ t, exec (.pmcCounterWrap i k) s = .next t ∧ bit (t.reg (pgPmc i) 0x00C) (k.val + 1) = true
        ∧ pmcValue i k.val t = 0 ∧ (bit (s.reg (pgPmc 0) 0x040) 4 = true → pmcFrozen t = true) ∧ t.mem = s.mem ∧ t.threads = s.threads)
      ∧ (pmcCounts i k.val s = false → Answers (.pmcCounterWrap i k) s s))
    ∧ (∀ (port : BwPort) (n : Fin 32) (m : Nat), live s = true → (Instr.bwWindowEnd port n).wellFormed = true →
      m = (match port with | .stope => n.val | .adit => 16 + n.val | .face => 20 + n.val) →
      let p := pgPmc 37
      let cfg := s.reg p (0x100 + 8 * m)
      let runs := bit cfg 31 = true ∧ pmcFrozen s = false ∧ halted s = false
      let last := min (2 ^ 32 - 1) (sparseGet 0 s.dbg.bytes m)
      let off := 0x040 + 4 * (m / 32)
      (¬runs → Answers (.bwWindowEnd port n) s s)
      ∧ (runs → ∃ t, exec (.bwWindowEnd port n) s = .next t ∧ t.reg p (0x104 + 8 * m) = BitVec.ofNat 32 last ∧ t.mem = s.mem
        ∧ (∀ k, sparseGet 0 t.dbg.bytes k = if k = m then 0 else sparseGet 0 s.dbg.bytes k)
        ∧ (fld cfg 16 13 ≠ 0 → fld cfg 16 13 * 2 ^ 20 < last → bit (t.reg p off) (m % 32) = true ∧ bit (t.reg p 0x00C) 1 = true)
        ∧ (fld cfg 16 13 = 0 ∨ last ≤ fld cfg 16 13 * 2 ^ 20 → t.reg p off = s.reg p off ∧ t.reg p 0x00C = s.reg p 0x00C)))

/-! ### Resets, boot, flash and host -/

/-- R442–R444, R484, R485: what a power-on reset and a warm reset leave; a reset lasts with its causes. State without a reset column takes the values
of State.reset by the model's choice (log 3, log 32, log 82); that the hour's shifts, the present excursions and the physical faults outlast a reset
is the model's reading (log 99, log 100, log 69). -/
def Obligations.ResetsLeaveWhatTheirTypeKeeps : Prop :=
  ∀ s : State,
    (∃ t, exec .powerOnResetCause s = .next t
      ∧ t = { State.reset with
          pending := s.pending, regs := t.regs, free := t.free, bell := t.bell, dbg := t.dbg, mem := { State.reset.mem with flash := s.mem.flash },
          cmp := s.cmp, flips := s.flips, delays := s.delays,
          pci := { State.reset.pci with perst := s.pci.perst },
          life := { s.life with phase := .asserted, causes := s.life.causes ||| 1, booted := false, heldBoot := none, refCount := false, supplyLow := true,
                                ioLow := t.life.ioLow } }
      ∧ ∀ p off, off % 4 = 0 → off < 0x800 → bellReg p off = false →
        t.reg p off = if p = pgBel ∧ off = 0x070 then s.reg p off else resetReg p off)
    ∧ Answers .supplyReturn s (if s.life.supplyLow then { s with life := { s.life with supplyLow := false, refCount := true } } else s)
    ∧ Answers .referenceCountDone s { s with life := { s.life with refCount := false } }
    ∧ Answers .warmResetPinEnd s { s with life := { s.life with pinLow := false } }
    ∧ (s.life.phase = .asserted → Answers .warmResetPin s { s with life := { s.life with causes := s.life.causes ||| 2, pinLow := true } })
    ∧ (s.life.phase ≠ .asserted →
      ∃ t, exec .warmResetPin s = .next t
        ∧ t = { State.reset with
            pending := s.pending, regs := t.regs, free := t.free, bell := t.bell, dbg := t.dbg, mem := t.mem,
            aud := { State.reset.aud with refugeRise := s.aud.refugeRise, refugeFall := s.aud.refugeFall, refugeReturn := s.aud.refugeReturn,
                                          refugeSegment := s.aud.refugeSegment },
            nrg := { State.reset.nrg with residue := s.nrg.residue, hourShifts := s.nrg.hourShifts },
            cmp := s.cmp, flips := s.flips, delays := s.delays,
            pci := { State.reset.pci with perst := s.pci.perst },
            life := { s.life with phase := .asserted, causes := s.life.causes ||| 2, pinLow := true, heldBoot := none } }
        ∧ (∀ p off, off % 4 = 0 → off < 0x800 → bellReg p off = false → p ≠ pgDbg → ¬(p = pgAon ∧ off = 0x044) →
          ¬(off = 0x044 ∧ ∃ i < 48, p = pgCrg i) →
          t.reg p off = if keptReg (regKey p off) then s.reg p off else resetReg p off)
        ∧ (∀ i < 48, t.reg (pgCrg i) 0x044 = withField (resetReg (pgCrg i) 0x044) 26 6 (fld (s.reg pgLrm (0x600 + 4 * i)) 26 6))
        ∧ t.dbg.access = .none ∧ t.dbg.wire = none ∧ t.dbg.resp = s.dbg.resp
        ∧ halted t = false ∧ haltPending t = false ∧ debugLevel t = debugLevel s
        ∧ fld (t.reg pgAon 0x044) 0 2 = fld (s.reg pgAon 0x044) 0 2
        ∧ fld (t.reg pgAon 0x044) 20 4 = (if s.life.phase = .booting then 1 else fld (s.reg pgAon 0x044) 20 4)
        ∧ t.mem.flash = s.mem.flash
        ∧ ∀ b < 76, ∀ w, bankOf (8 * w) = some b →
          (bankPower b s ≠ .off → t.mem.info w = s.mem.info w)
          ∧ (b < 52 → bankPower b s = .off → sparseGet false s.emu.arr b = false → t.mem.valid w = false))

/-- R426, R446, R448–R450: the release of a reset records the causes and the straps and counts the attempt; the device holds, waits for a halt, or
boots; a failed self-test, the boot timer and a RETRY bring a watchdog reset. R450, R455: the handover: the banks have their owners, the Overman's
threads start at the image's entry, and the first boundary opens shift 0. The boot that a halt holds is the model's reading (log 56). -/
def Obligations.ReleasesAndHandover : Prop :=
  (
    ∀ (inp : BootIn) (s : State),
      let por := bit s.life.causes 0
      let lasts := s.life.phase ≠ .asserted ∨ s.life.pinLow = true ∨ s.life.supplyLow = true ∨ s.life.refCount = true
      let old := fld (s.reg pgAon 0x044) 0 2
      let fresh := por = true ∨ s.life.booted = true
      let n := if fresh then 1 else min 3 (old + 1)
      let holds := (¬fresh ∧ old = 3) ∨ inp.mode = 3
      let stops := debugLevel s = 2 ∧ (haltPending s = true ∨ (bit (s.reg pgDbg 0x080) 6 = true ∧ por = false))
      let c : Instr := .resetRelease inp
      let recorded (t : State) : Prop := t.reg pgAon 0x040 = s.life.causes.setWidth 32 ∧ fld (t.reg pgAon 0x048) 0 2 = inp.mode.toNat
        ∧ bit (t.reg pgAon 0x048) 2 = inp.refsel ∧ bit (t.reg pgAon 0x048) 3 = inp.xspi1s ∧ fld (t.reg pgAon 0x044) 0 2 = n
        ∧ (¬(¬fresh ∧ old = 3) → bit (t.reg pgAon 0x044) 27 = decide (n = 2)) ∧ fld (t.reg pgAon 0x044) 28 2 = fld (s.reg pgAon 0x044) 28 2
        ∧ t.life.causes = 0 ∧ t.life.booted = false
        ∧ (inp.mode ≠ 3 → t.tri.mode = inp.mode.toNat) ∧ t.mem = s.mem
      (lasts → Answers c s s)
      ∧ (¬lasts → holds → ∃ t, exec c s = .next t ∧ recorded t ∧ t.life.phase = .bootHold ∧ bit (t.reg pgAon 0x044) 30 = true ∧ halted t = decide stops
          ∧ (inp.mode = 3 → fld (t.reg pgAon 0x044) 20 4 = 7))
      ∧ (¬lasts → ¬holds → stops → ∃ t, exec c s = .next t ∧ recorded t ∧ t.life.phase = .booting ∧ t.life.heldBoot = some inp ∧ halted t = true)
      ∧ (¬lasts → ¬holds → ¬stops → inp.badBank = none →
        ∃ e, recorded e ∧ e.life.phase = .booting ∧ (por = false → Answers c s (bootImage inp (rebuildStep (selftestBoot none e))))
          ∧ (por = true → Answers c s (bootImage inp (wearRestore 0 inp.gauges (rebuildStep (selftestBoot none e))))))
      ∧ (∀ b, ¬lasts → ¬holds → ¬stops → inp.badBank = some b →
        ∃ t, exec c s = .next t ∧ t.life.phase = .asserted ∧ t.life.causes = 8 ∧ fld (t.reg pgAon 0x044) 20 4 = 2
          ∧ fld (t.reg pgAon 0x044) 8 8 = b.1 % 76 ∧ fld (t.reg pgAon 0x044) 0 2 = n)
      ∧ (s.life.phase = .booting → halted s = false →
        ∃ t, exec .bootTimeout s = .next t ∧ t.life.phase = .asserted ∧ bit t.life.causes 3 = true ∧ fld (t.reg pgAon 0x044) 20 4 = 6
          ∧ fld (t.reg pgAon 0x044) 0 2 = old)
      ∧ (s.life.phase ≠ .booting ∨ halted s = true → Answers .bootTimeout s s)
      ∧ (s.life.phase = .bootHold → debugLevel s = 2 →
        ∃ t, exec .bootRetry s = .next t ∧ t.life.phase = .asserted ∧ bit t.life.causes 3 = true ∧ fld (t.reg pgAon 0x044) 0 2 = 0)
      ∧ (s.life.phase ≠ .bootHold ∨ debugLevel s ≠ 2 → Answers .bootRetry s s)
  ) ∧ (
    ∀ (micros : Nat) (inp : BoundaryIn) (s : State),
      let c : Instr := .bootHandover micros inp
      let ready := s.life.phase = .booting ∧ halted s = false ∧ s.life.heldBoot = none
      (¬ready → Answers c s s)
      ∧ (ready → ∃ e, Answers c s (boundary inp e) ∧ e.life.phase = .running ∧ e.life.booted = true ∧ e.ons.runs = true
        ∧ fld (e.reg pgAon 0x044) 0 2 = 0 ∧ e.reg pgAon 0x04C = BitVec.ofNat 32 micros ∧ bit (e.reg pgOns 0x004) 0 = true
        ∧ (1 < fld (s.reg pgAon 0x044) 0 2 → bit (e.reg pgAon 0x00C) 1 = true)
        ∧ (∀ b < 52, (b < 32 ∨ 48 ≤ b) → (e.bank b).owner.toNat = (if b < 32 then b else if b = 51 then 0x23 else 0x20 + (b - 48))
            ∧ fld (e.reg (pgBnk b) 0x018) 0 8 = (e.bank b).owner.toNat ∧ (e.bank b).draining = false)
        ∧ ∀ r < 3, ∀ k < 2,
          let t := e.thread (overmanThread r k)
          t.running = true ∧ t.pc = s.life.entry ∧ t.dReg 0 = ⟨BitVec.ofNat 24 k, false⟩ ∧ t.sr = BitVec.ofNat 32 ((0x20 + r) * 0x10000 + k * 0x100 + 1)
            ∧ (t.sReg 0).base.toNat = bankBase (48 + r))
  )

/-- R462, R463: the Triad's command runs when the controller is idle, polls the status byte, and ends done or with its poll's limit. That the poll's
limit also sets CMD_DONE is the model's reading (log 62). -/
def Obligations.FlashCommandsRun : Prop :=
  ∀ (q : Requester) (data : W32) (s : State),
    let stat := s.reg pgXsp 0x054
    let state := fld stat 30 2
    let cmd := s.reg pgXsp 0x048
    let busy := bit stat 0
    let ended (t : State) : Prop := fld (t.reg pgXsp 0x054) 30 2 = 0 ∧ bit (t.reg pgXsp 0x048) 31 = false ∧ bit (t.reg pgXsp 0x00C) 1 = true
      ∧ fld (t.reg pgXsp 0x054) 0 8 = fld stat 0 8
    (Admitted q .write pgXsp 0x048 s → pageOn pgXsp s = true →
      Writes (.xspCmdGo q data) s (if q.master ≠ 0x23 ∧ q.master ≠ 0xFF then refuseWrite pgXsp 0x048 0x40 s
        else if state ≠ 0 then refuseWrite pgXsp 0x048 0x41 s
        else if fld data 28 2 = 3 then refuseWrite pgXsp 0x048 0x06 s
        else (s.setReg pgXsp 0x048 ((data &&& 0x781F00FF) ||| 0x80000000)).setReg pgXsp 0x054 (withField stat 30 2 1)))
    ∧ (fabricUp s = true →
      let filled (read : List Byte) (t : State) : Prop := ∀ k < 64, ∀ b < 4, fld (t.reg pgXsp (0x100 + 4 * k)) (8 * b) 8
        = if fld cmd 28 2 = 1 ∧ 4 * k + b < fld (s.reg pgXsp 0x050) 0 9 then (read.getD (4 * k + b) 0).toNat
          else fld (s.reg pgXsp (0x100 + 4 * k)) (8 * b) 8
      let unfilled (t : State) : Prop := ∀ k < 64, t.reg pgXsp (0x100 + 4 * k) = s.reg pgXsp (0x100 + 4 * k)
      let changes (l : List (Nat × Byte)) (t : State) : Prop := t.mem = { s.mem with flash := t.mem.flash }
        ∧ ∀ a, (∀ x ∈ l, x.1 ≠ a) → sparseGet flashBlank t.mem.flash a = sparseGet flashBlank s.mem.flash a
      (∀ x : FlashStatus,
        let c : Instr := .xspStatusPoll x
        (state = 0 ∨ bit cmd 30 = false ∨ (state = 2 ∧ busy = false) → Answers c s s)
        ∧ (state ≠ 0 → bit cmd 30 = true → state = 1 ∨ (state = 2 ∧ busy = true) ∨ state = 3 →
          ∃ t, exec c s = .next t ∧ t.reg pgXsp 0x054 = withField (withField stat 30 2 2) 0 8 x.byte.toNat ∧ changes x.changed t
            ∧ if state = 2 then unfilled t else filled x.sent t))
      ∧ (state = 2 → busy = true → ∃ t, exec .xspPollTimeout s = .next t ∧ ended t ∧ bit (t.reg pgXsp 0x054) 29 = true
          ∧ bit (t.reg pgXsp 0x00C) 2 = true ∧ t.mem = s.mem)
      ∧ (state ≠ 2 ∨ busy = false → Answers .xspPollTimeout s s)
      ∧ (∀ (read : List Byte) (changed : List (Nat × Byte)),
        let c : Instr := .xspCmdDone read changed
        let waits := bit cmd 30 = true ∧ (state = 1 ∨ busy = true)
        (state = 0 ∨ waits → Answers c s s)
        ∧ (state ≠ 0 → ¬waits → ∃ t, exec c s = .next t ∧ ended t ∧ (bit cmd 30 = true → bit (t.reg pgXsp 0x054) 29 = false) ∧ changes changed t
          ∧ if bit cmd 30 = true then unfilled t else filled read t)))

/-- R342, R428, R464: the host's requests: retried until READY, held during a halt, claimed in D0 with Memory Space Enable, checked, performed. That a
halt holds requests and its release performs them is the model's reading (log 55); the capabilities' places are open (log 46). -/
def Obligations.HostRequestsAreAnswered : Prop :=
  ∀ s : State,
    let e := pciReply .none s
    let up := bit (s.reg pgPci 0x04C) 31 = true
    let ready := bit (s.reg pgPci 0x048) 0 = true
    let cfg (w : Bool) (off : BitVec 12) (data : W32) : Instr := .pcieConfigRequest w off data
    let claims := pciD3 s = false ∧ bit (s.pciCfg 0x04) 1 = true
    (∀ w off data, (¬up → Answers (cfg w off data) s e) ∧ (up → halted s = true →
      Answers (cfg w off data) s { e with pci := { e.pci with held := s.pci.held ++ [.config w off data] } }))
    ∧ (up → halted s = false →
      (∀ w off data, ¬ready → Answers (cfg w off data) s (pciReply .retry s))
      ∧ (∀ off data, ready → off.toNat < 4 → Answers (cfg false off data) s (pciReply (.success (bytesOf 4 (s.reg pgPci 0x040).toNat) false) s))
      ∧ (∀ off data, ready → off.toNat / 4 = 1 →
        Answers (cfg true off data) s (pciReply (.success [] false) (pciShow (s.setPciCfg 0x04 (data &&& 0x0546))))))
    ∧ (∀ (bar : Fin 6) (off len : Nat) (bytes : List Byte) (enabled : Bool),
      let rd : Instr := .pcieBarRead bar off len enabled
      let wr : Instr := .pcieBarWrite bar off bytes enabled
      (¬up → Answers rd s e ∧ Answers wr s e)
      ∧ (up → halted s = true → Answers rd s { e with pci := { e.pci with held := s.pci.held ++ [.read bar.val off len enabled] } }
        ∧ Answers wr s { e with pci := { e.pci with held := s.pci.held ++ [.write bar.val off bytes enabled] } })
      ∧ (up → halted s = false →
        (¬claims ∨ (bar ≠ 0 ∧ bar ≠ 2) ∨ (bar = 0 ∧ 0x1000000 ≤ off) ∨ (bar = 2 ∧ 0x4000000 ≤ off) →
          Answers rd s (pciReply .unsupported s) ∧ Answers wr s e)
        ∧ (claims → bar = 2 → off < 0x4000000 → 0x4000000 < off + len →
          ∃ t, exec rd s = .next t ∧ t.pci.reply = .abort ∧ t.mem = s.mem)
        ∧ (claims → bar = 0 → off % 4 = 0 → off < 0x1000000 →
          let p := off / 0x1000
          let x := off % 0x1000
          let a := 0x10000000 + off
          (enabled = false → len = 4 → bytes.length = 4 → Answers rd s (pciReply .abort s) ∧ Answers wr s e)
          ∧ (enabled = true → len = 4 → (pageKind p).isSome = true → mpuDecide 76 hostMaster .read (mpuAddress .read a) s = none →
            Answers rd s (pciReply (.success (bytesOf 4 (pageRead p x e).1.toNat) false) (pageRead p x e).2))
          ∧ (enabled = true → bytes.length = 4 → (pageKind p).isSome = true → mpuDecide 76 hostMaster .write a s = none →
            Answers wr s (pageWrite 0xA0 p x (BitVec.ofNat 32 (numOf bytes)) e))
          ∧ (∀ cause rgn, enabled = true → len = 4 → mpuDecide 76 hostMaster .read (mpuAddress .read a) s = some (cause, rgn) →
            Answers rd s (pciReply .abort (mpuRecord 76 hostMaster .read (mpuAddress .read a) cause rgn s)))
          ∧ (∀ cause rgn, enabled = true → bytes.length = 4 → mpuDecide 76 hostMaster .write a s = some (cause, rgn) →
            Answers wr s (mpuRecord 76 hostMaster .write a cause rgn e)))
        ∧ (claims → bar = 2 → 0 < len → off % 64 + len ≤ 64 → off < 0x4000000 → busCheck hostMaster .read off e = (none, e) →
          Answers rd s (pciReply (.success ((memRead off len e).1.map Prod.fst) (payloadPoison (memRead off len e).1)) (memRead off len e).2))
        ∧ (claims → bar = 2 → bytes ≠ [] → off % 64 + bytes.length ≤ 64 → off < 0x4000000 → busCheck hostMaster .write off e = (none, e) →
          Answers wr s (memWrite none off (cleanBytes bytes) e))))

/-- R465, R466, R481: the mailboxes with their owners and their VALID bits, the MSI vectors, the link and its reset. That an acknowledgement raises
its event only with VALID set is the model's reading (log 62). -/
def Obligations.MailboxesAndMessagesPass : Prop :=
  ∀ (q : Requester) (data : W32) (vec : Fin 32) (s : State), pageOn pgPci s = true →
    let stat := s.reg pgPci 0x04C
    let triad := q.master = 0x23 ∨ q.master = 0xFF
    let pend := s.reg pgPci 0x088
    let message (e : State) : State := { e.setReg pgPci 0x088 (withField pend vec.val 1 0) with
      pci := { e.pci with msi := some ((s.pciCfg (msiControl + 4)).toNat + (s.pciCfg (msiControl + 8)).toNat * 2 ^ 32, vec.val) } }
    let sendable := msiEnabled s = true ∧ msiMasked vec.val s = false
    (Admitted q .write pgPci 0x05C s →
      Writes (.pciH2dWrite q data) s (if q.master ≠ 0xA0 then refuseWrite pgPci 0x05C 0x40 s
        else if bit stat 1 then s.setEvt pgPci 4
        else ((s.setReg pgPci 0x05C data).setReg pgPci 0x04C (withField stat 1 1 1)).setEvt pgPci 1))
    ∧ (Admitted q .write pgPci 0x060 s →
      Writes (.pciH2dAck q) s (if ¬triad then refuseWrite pgPci 0x060 0x40 s else s.setReg pgPci 0x04C (withField stat 1 1 0)))
    ∧ (Admitted q .write pgPci 0x07C s →
      Writes (.pciD2hWrite q data) s (if ¬triad then refuseWrite pgPci 0x07C 0x40 s
        else if bit stat 0 then refuseWrite pgPci 0x07C 0x41 s
        else (s.setReg pgPci 0x07C data).setReg pgPci 0x04C (withField stat 0 1 1)))
    ∧ (Admitted q .write pgPci 0x080 s →
      Writes (.pciD2hAck q) s (if q.master ≠ 0xA0 then refuseWrite pgPci 0x080 0x40 s
        else if bit stat 0 then (s.setReg pgPci 0x04C (withField stat 0 1 0)).setEvt pgPci 2 else s))
    ∧ (Admitted q .write pgPci 0x084 s →
      let c : Instr := .pciMsiSend q (BitVec.ofFin vec)
      (¬triad → Writes c s (refuseWrite pgPci 0x084 0x40 s))
      ∧ (triad → 2 ^ msiAlloc s ≤ vec.val → Writes c s (refuseWrite pgPci 0x084 0x06 s))
      ∧ (triad → vec.val < 2 ^ msiAlloc s → sendable → Writes c s (message s))
      ∧ (triad → vec.val < 2 ^ msiAlloc s → ¬sendable → Writes c s (s.setReg pgPci 0x088 (withField pend vec.val 1 1))))
    ∧ (live s = true → Answers (.msiPendingSend vec) s (if bit pend vec.val = true ∧ sendable then message s else s))
    ∧ Answers (.pciePerst true) s { s with pci := { s.pci with perst := true } }
    ∧ (∃ t, exec (.pciePerst false) s = .next t ∧ t.pci = { s.pci with perst := false, cfg := [], reply := .none, msi := none, held := [] }
        ∧ fld (t.reg pgPci 0x04C) 23 9 = 0 ∧ t.reg pgPci 0x088 = 0 ∧ (bit stat 31 = true → bit (t.reg pgPci 0x00C) 3 = true) ∧ t.mem = s.mem)
    ∧ (∀ link : Option (BitVec 2 × BitVec 2),
      let v := match link with
        | some (w, g) => if s.pci.perst = true ∧ s.life.phase = .running then 16 + w.toNat * 4 + g.toNat else 0
        | none => 0
      let e := s.setReg pgPci 0x04C (withField stat 27 5 v)
      Answers (.pcieLinkChange link) s (if bit stat 31 = decide (16 ≤ v) then e else e.setEvt pgPci 3))

/-! ### The block as a whole -/

/-- The queue (log 1): a step takes the command at the front and runs it with the queue's rest; on an empty queue the block idles. No command stops.
The queue is the model's own (log 1). -/
def Obligations.StepsRunTheFrontCommand : Prop :=
  (∀ (c : Instr) (s : State) (rest : List Instr), step { s with pending := c :: rest } = exec c { s with pending := rest })
  ∧ (∀ s : State, s.pending = [] → step s = .next s)
  ∧ (∀ (c : Instr) (s : State), ∃ t, exec c s = .next t)

/-- R414, R37: after every step the Bell's asserted sources are exactly those that the registers assert, but in a halt, which stops the Bell (R427).
-/
def Obligations.EveryStepKeepsTheBell : Prop :=
  ∀ s t : State, BellAgrees s → step s = .next t → BellAgrees t

/-- R442, R444, R414: at reset no source of the Bell is asserted, memory lists nothing, every register has its reset value, and no command waits. The
phase that the state after reset stands in, empty flash and micro-stores, and idle threads, queues and counters are the model's choice (log 3, log 31,
log 32, log 82). -/
def Obligations.ResetIsInOrder : Prop :=
  BellAgrees State.reset ∧ State.reset.bell = [] ∧ memWf State.reset.mem = true ∧ State.reset.pending = []
    ∧ (∀ w, State.reset.mem.valid w = false) ∧ (∀ p off, State.reset.reg p off = resetReg p off)
    ∧ State.reset.life.phase = .asserted ∧ State.reset.guard.safe = false ∧ (∀ h, State.reset.thread h = idleThread)

/-- R313, R314, R298, R321: the word code delivers what was stored, corrects any single bit and detects any two; bytes written to sound words are read
back with the marks of their words, and nothing else changes. -/
def Obligations.MemoryReturnsWhatWasWritten : Prop :=
  (∀ d : W64,
    let c := checkOf d
    let flip (j : Nat) : W64 := d ^^^ (1#64 <<< j)
    let flipCheck (k : Nat) : Byte := c ^^^ (1#8 <<< k)
    classify d c = .clean ∧ classify d (c ^^^ 0x5B) = .marked
    ∧ (∀ j < 64, classify (flip j) c = .singleData j) ∧ (∀ k < 8, classify d (flipCheck k) = .singleCheck)
    ∧ (∀ i j, i < j → j < 64 → classify (flip i ^^^ (1#64 <<< j)) c = .multi)
    ∧ (∀ j < 64, ∀ k < 8, classify (flip j) (flipCheck k) = .multi)
    ∧ (∀ j k, j < k → k < 8 → classify d (flipCheck j ^^^ (1#8 <<< k)) = .multi))
  ∧ (∀ (wr : Writer) (a b : Nat) (bs : Payload) (s : State), bs ≠ [] → bankOf a = some b → bankOf (a + bs.length - 1) = some b →
    (∀ w, a / 8 ≤ w → w ≤ (a + bs.length - 1) / 8 → soundWord s.mem w = true) →
    let t := memWrite wr a bs s
    Written s.mem t.mem a bs
    ∧ memRead a bs.length t = ((List.range bs.length).map fun k => storedByte t.mem (a + k), t))
end

