-- ==== Sys2Proof/Laws/Sparse.lean ====
section
/-!
SUPPORT. Sys2Proof/Laws/Sparse.lean: what reading, setting and erasing do to a finite map, and that each keeps the canonical form.
-/

namespace Sys2Proof.Machine

variable {α : Type}

/-! ### Reading -/

@[simp] theorem sparseGet_nil (d : α) (k : Nat) : sparseGet d [] k = d := rfl

theorem sparseGet_erase_same (d : α) (m : Sparse α) (k : Nat) : sparseGet d (sparseErase m k) k = d := by
  induction m with
  | nil => rfl
  | cons x rest ih =>
    obtain ⟨j, v⟩ := x
    by_cases h : j = k
    · simpa [sparseErase, h] using ih
    · simpa [sparseErase, h, sparseGet] using ih

theorem sparseGet_erase_other (d : α) (m : Sparse α) {j k : Nat} (h : j ≠ k) :
    sparseGet d (sparseErase m k) j = sparseGet d m j := by
  induction m with
  | nil => rfl
  | cons x rest ih =>
    obtain ⟨i, v⟩ := x
    by_cases hk : i = k
    · subst hk
      simp [sparseErase, sparseGet, ih, Ne.symm h]
    · by_cases hj : i = j
      · subst hj; simp [sparseErase, hk, sparseGet]
      · simpa [sparseErase, hk, sparseGet, hj] using ih

theorem sparseGet_insert_other (d : α) (m : Sparse α) {j k : Nat} (v : α) (h : j ≠ k) :
    sparseGet d (sparseInsert m k v) j = sparseGet d m j := by
  induction m with
  | nil => simp [sparseInsert, sparseGet, Ne.symm h]
  | cons x rest ih =>
    obtain ⟨i, w⟩ := x
    by_cases hk : k < i
    · simp [sparseInsert, hk, sparseGet, Ne.symm h]
    · by_cases hj : i = j
      · subst hj
        simp [sparseInsert, hk, sparseGet]
      · simpa [sparseInsert, hk, sparseGet, hj] using ih

theorem sparseGet_insert_same (d : α) (m : Sparse α) (k : Nat) (v : α) (h : ∀ x ∈ m, x.1 ≠ k) :
    sparseGet d (sparseInsert m k v) k = v := by
  induction m with
  | nil => simp [sparseInsert, sparseGet]
  | cons x rest ih =>
    obtain ⟨i, w⟩ := x
    by_cases hk : k < i
    · simp [sparseInsert, hk, sparseGet]
    · have hi : i ≠ k := h (i, w) (by simp)
      simpa [sparseInsert, hk, sparseGet, hi] using ih (fun x hx => h x (by simp [hx]))

theorem sparseErase_ne (m : Sparse α) (k : Nat) : ∀ x ∈ sparseErase m k, x.1 ≠ k := by
  induction m with
  | nil => simp [sparseErase]
  | cons x rest ih =>
    obtain ⟨i, w⟩ := x
    by_cases hk : i = k
    · simpa [sparseErase, hk] using ih
    · intro y hy
      simp [sparseErase, hk] at hy
      rcases hy with rfl | hy
      · exact hk
      · exact ih y hy

variable [DecidableEq α]

/-- A key that has been set reads as set. -/
@[simp] theorem sparseGet_set_same (d : α) (m : Sparse α) (k : Nat) (v : α) : sparseGet d (sparseSet d m k v) k = v := by
  unfold sparseSet
  split
  · next h => rw [sparseGet_erase_same, h]
  · exact sparseGet_insert_same d _ k v (sparseErase_ne m k)

/-- Every other key reads as before, whatever the default it is read with. -/
theorem sparseGet_set_other (d e : α) (m : Sparse α) {j k : Nat} (v : α) (h : j ≠ k) :
    sparseGet e (sparseSet d m k v) j = sparseGet e m j := by
  unfold sparseSet
  split
  · exact sparseGet_erase_other e m h
  · rw [sparseGet_insert_other e _ v h, sparseGet_erase_other e m h]

theorem sparseGet_set (d : α) (m : Sparse α) (j k : Nat) (v : α) :
    sparseGet d (sparseSet d m k v) j = if j = k then v else sparseGet d m j := by
  by_cases h : j = k
  · subst h; simp
  · simp [h, sparseGet_set_other d d m v h]

/-! ### The canonical form -/

theorem sparseFrom_mono (d : α) {lo hi : Nat} (h : lo ≤ hi) (m : Sparse α) (hm : sparseFrom d hi m = true) : sparseFrom d lo m = true := by
  cases m with
  | nil => rfl
  | cons x rest =>
    obtain ⟨k, v⟩ := x
    simp [sparseFrom] at hm ⊢
    exact ⟨⟨le_trans h hm.1.1, hm.1.2⟩, hm.2⟩

theorem sparseFrom_erase (d : α) (lo k : Nat) (m : Sparse α) (hm : sparseFrom d lo m = true) : sparseFrom d lo (sparseErase m k) = true := by
  induction m generalizing lo with
  | nil => rfl
  | cons x rest ih =>
    obtain ⟨i, v⟩ := x
    simp [sparseFrom] at hm
    by_cases hk : i = k
    · simp [sparseErase, hk]
      exact ih lo (sparseFrom_mono d (by omega) rest hm.2)
    · simp [sparseErase, hk, sparseFrom, hm.1]
      exact ih _ hm.2

theorem sparseFrom_insert (d : α) (lo k : Nat) (v : α) (m : Sparse α) (hlo : lo ≤ k) (hv : v ≠ d) (hne : ∀ x ∈ m, x.1 ≠ k)
    (hm : sparseFrom d lo m = true) : sparseFrom d lo (sparseInsert m k v) = true := by
  induction m generalizing lo with
  | nil => simp [sparseInsert, sparseFrom, hlo, hv]
  | cons x rest ih =>
    obtain ⟨i, w⟩ := x
    simp [sparseFrom] at hm
    have hi : i ≠ k := hne (i, w) (by simp)
    by_cases hk : k < i
    · simp [sparseInsert, hk, sparseFrom, hlo, hv, hm.1.2, hm.2]
    · simp [sparseInsert, hk, sparseFrom, hm.1]
      exact ih (i + 1) (by omega) (fun x hx => hne x (by simp [hx])) hm.2

/-- Setting a key keeps the canonical form. -/
theorem sparseWf_set (d : α) (m : Sparse α) (k : Nat) (v : α) (hm : sparseWf d m = true) : sparseWf d (sparseSet d m k v) = true := by
  unfold sparseSet sparseWf at *
  have he := sparseFrom_erase d 0 k m hm
  split
  · exact he
  · next h => exact sparseFrom_insert d 0 k v _ (Nat.zero_le _) h (sparseErase_ne m k) he

theorem sparseFrom_drop (d : α) (p : Nat → Bool) (lo : Nat) (m : Sparse α) (hm : sparseFrom d lo m = true) :
    sparseFrom d lo (sparseDrop p m) = true := by
  induction m generalizing lo with
  | nil => rfl
  | cons x rest ih =>
    obtain ⟨k, v⟩ := x
    simp [sparseFrom] at hm
    by_cases hp : p k = true
    · simp [sparseDrop, hp]
      exact ih lo (sparseFrom_mono d (by omega) rest hm.2)
    · simp [sparseDrop, hp, sparseFrom, hm.1]
      exact ih _ hm.2

/-- Dropping keys keeps the canonical form. -/
theorem sparseWf_drop (d : α) (p : Nat → Bool) (m : Sparse α) (hm : sparseWf d m = true) : sparseWf d (sparseDrop p m) = true :=
  sparseFrom_drop d p 0 m hm

/-- Two canonical maps that read alike are one map. -/
theorem sparseFrom_get_lt (d : α) (lo : Nat) (m : Sparse α) (hm : sparseFrom d lo m = true) {k : Nat} (h : k < lo) : sparseGet d m k = d := by
  induction m generalizing lo with
  | nil => rfl
  | cons x rest ih =>
    obtain ⟨i, v⟩ := x
    simp [sparseFrom] at hm
    have : i ≠ k := by omega
    simpa [sparseGet, this] using ih (i + 1) hm.2 (by omega)

theorem sparse_ext_from (d : α) (lo : Nat) (m n : Sparse α) (hm : sparseFrom d lo m = true) (hn : sparseFrom d lo n = true)
    (h : ∀ k, sparseGet d m k = sparseGet d n k) : m = n := by
  induction m generalizing lo n with
  | nil =>
    cases n with
    | nil => rfl
    | cons y rest =>
      obtain ⟨j, w⟩ := y
      simp [sparseFrom] at hn
      have := h j
      simp [sparseGet] at this
      exact absurd this.symm hn.1.2
  | cons x rest ih =>
    obtain ⟨i, v⟩ := x
    simp [sparseFrom] at hm
    cases n with
    | nil =>
      have := h i
      simp [sparseGet] at this
      exact absurd this hm.1.2
    | cons y rest' =>
      obtain ⟨j, w⟩ := y
      simp [sparseFrom] at hn
      have hij : i = j := by
        rcases Nat.lt_trichotomy i j with hlt | heq | hgt
        · have := h i
          have hr := sparseFrom_get_lt d (j + 1) rest' hn.2 (k := i) (by omega)
          have hji : j ≠ i := by omega
          simp [sparseGet, hji, hr] at this
          exact absurd this hm.1.2
        · exact heq
        · have := h j
          have hr := sparseFrom_get_lt d (i + 1) rest hm.2 (k := j) (by omega)
          have hji : i ≠ j := by omega
          simp [sparseGet, hji, hr] at this
          exact absurd this.symm hn.1.2
      subst hij
      have hv : v = w := by have := h i; simpa [sparseGet] using this
      subst hv
      have : rest = rest' := by
        refine ih (i + 1) rest' hm.2 hn.2 (fun k => ?_)
        by_cases hk : i = k
        · subst hk
          rw [sparseFrom_get_lt d (i + 1) rest hm.2 (by omega), sparseFrom_get_lt d (i + 1) rest' hn.2 (by omega)]
        · have := h k
          simpa [sparseGet, hk] using this
      rw [this]

/-- Two maps in canonical form that read alike at every key are the same list. -/
theorem sparse_ext (d : α) {m n : Sparse α} (hm : sparseWf d m = true) (hn : sparseWf d n = true)
    (h : ∀ k, sparseGet d m k = sparseGet d n k) : m = n := sparse_ext_from d 0 m n hm hn h

end Sys2Proof.Machine
end

