-- ==== Sys2Proof/Laws/State.lean ====
section
/-!
SUPPORT. Sys2Proof/Laws/State.lean: one lemma per field, and per reader, for each update of the state, so that no proof unfolds a record
update.
-/

namespace Sys2Proof.Machine

variable (s : State)


/-! ### setReg -/

@[simp] theorem State.setReg_pending (p off : Nat) (v : W32) : (s.setReg p off v).pending = s.pending := rfl
@[simp] theorem State.setReg_free (p off : Nat) (v : W32) : (s.setReg p off v).free = s.free := rfl
@[simp] theorem State.setReg_life (p off : Nat) (v : W32) : (s.setReg p off v).life = s.life := rfl
@[simp] theorem State.setReg_eff (p off : Nat) (v : W32) : (s.setReg p off v).eff = s.eff := rfl
@[simp] theorem State.setReg_ivl (p off : Nat) (v : W32) : (s.setReg p off v).ivl = s.ivl := rfl
@[simp] theorem State.setReg_locks (p off : Nat) (v : W32) : (s.setReg p off v).locks = s.locks := rfl
@[simp] theorem State.setReg_dom (p off : Nat) (v : W32) : (s.setReg p off v).dom = s.dom := rfl
@[simp] theorem State.setReg_arr (p off : Nat) (v : W32) : (s.setReg p off v).arr = s.arr := rfl
@[simp] theorem State.setReg_arrReq (p off : Nat) (v : W32) : (s.setReg p off v).arrReq = s.arrReq := rfl
@[simp] theorem State.setReg_pwrAsked (p off : Nat) (v : W32) : (s.setReg p off v).pwrAsked = s.pwrAsked := rfl
@[simp] theorem State.setReg_mem (p off : Nat) (v : W32) : (s.setReg p off v).mem = s.mem := rfl
@[simp] theorem State.setReg_banks (p off : Nat) (v : W32) : (s.setReg p off v).banks = s.banks := rfl
@[simp] theorem State.setReg_threads (p off : Nat) (v : W32) : (s.setReg p off v).threads = s.threads := rfl
@[simp] theorem State.setReg_cores (p off : Nat) (v : W32) : (s.setReg p off v).cores = s.cores := rfl
@[simp] theorem State.setReg_ons (p off : Nat) (v : W32) : (s.setReg p off v).ons = s.ons := rfl
@[simp] theorem State.setReg_crossings (p off : Nat) (v : W32) : (s.setReg p off v).crossings = s.crossings := rfl
@[simp] theorem State.setReg_tpl (p off : Nat) (v : W32) : (s.setReg p off v).tpl = s.tpl := rfl
@[simp] theorem State.setReg_aud (p off : Nat) (v : W32) : (s.setReg p off v).aud = s.aud := rfl
@[simp] theorem State.setReg_nrg (p off : Nat) (v : W32) : (s.setReg p off v).nrg = s.nrg := rfl
@[simp] theorem State.setReg_guard (p off : Nat) (v : W32) : (s.setReg p off v).guard = s.guard := rfl
@[simp] theorem State.setReg_tri (p off : Nat) (v : W32) : (s.setReg p off v).tri = s.tri := rfl
@[simp] theorem State.setReg_can (p off : Nat) (v : W32) : (s.setReg p off v).can = s.can := rfl
@[simp] theorem State.setReg_cmp (p off : Nat) (v : W32) : (s.setReg p off v).cmp = s.cmp := rfl
@[simp] theorem State.setReg_flips (p off : Nat) (v : W32) : (s.setReg p off v).flips = s.flips := rfl
@[simp] theorem State.setReg_delays (p off : Nat) (v : W32) : (s.setReg p off v).delays = s.delays := rfl
@[simp] theorem State.setReg_dep (p off : Nat) (v : W32) : (s.setReg p off v).dep = s.dep := rfl
@[simp] theorem State.setReg_cor (p off : Nat) (v : W32) : (s.setReg p off v).cor = s.cor := rfl
@[simp] theorem State.setReg_adit (p off : Nat) (v : W32) : (s.setReg p off v).adit = s.adit := rfl
@[simp] theorem State.setReg_wnd (p off : Nat) (v : W32) : (s.setReg p off v).wnd = s.wnd := rfl
@[simp] theorem State.setReg_scrub (p off : Nat) (v : W32) : (s.setReg p off v).scrub = s.scrub := rfl
@[simp] theorem State.setReg_ustoreBad (p off : Nat) (v : W32) : (s.setReg p off v).ustoreBad = s.ustoreBad := rfl
@[simp] theorem State.setReg_decodes (p off : Nat) (v : W32) : (s.setReg p off v).decodes = s.decodes := rfl
@[simp] theorem State.setReg_panels (p off : Nat) (v : W32) : (s.setReg p off v).panels = s.panels := rfl
@[simp] theorem State.setReg_dbg (p off : Nat) (v : W32) : (s.setReg p off v).dbg = s.dbg := rfl
@[simp] theorem State.setReg_emu (p off : Nat) (v : W32) : (s.setReg p off v).emu = s.emu := rfl
@[simp] theorem State.setReg_pci (p off : Nat) (v : W32) : (s.setReg p off v).pci = s.pci := rfl
@[simp] theorem State.setReg_pmcHeld (p off : Nat) (v : W32) : (s.setReg p off v).pmcHeld = s.pmcHeld := rfl
@[simp] theorem State.setReg_answer (p off : Nat) (v : W32) : (s.setReg p off v).answer = s.answer := rfl
@[simp] theorem State.setReg_bell (p off : Nat) (v : W32) : (s.setReg p off v).bell = s.bell := rfl
@[simp] theorem State.setReg_effReg (p off : Nat) (v : W32) (q o : Nat) : (s.setReg p off v).effReg q o = s.effReg q o := rfl
@[simp] theorem State.setReg_lockOf (p off : Nat) (v : W32) (q : Nat) : (s.setReg p off v).lockOf q = s.lockOf q := rfl
@[simp] theorem State.setReg_domain (p off : Nat) (v : W32) (q : Nat) : (s.setReg p off v).domain q = s.domain q := rfl
@[simp] theorem State.setReg_array (p off : Nat) (v : W32) (q : Nat) : (s.setReg p off v).array q = s.array q := rfl
@[simp] theorem State.setReg_thread (p off : Nat) (v : W32) (g : Hart) : (s.setReg p off v).thread g = s.thread g := rfl
@[simp] theorem State.setReg_core (p off : Nat) (v : W32) (n : Nat) : (s.setReg p off v).core n = s.core n := rfl
@[simp] theorem State.setReg_bank (p off : Nat) (v : W32) (n : Nat) : (s.setReg p off v).bank n = s.bank n := rfl
@[simp] theorem State.setReg_winder (p off : Nat) (v : W32) (n : Nat) : (s.setReg p off v).winder n = s.winder n := rfl
@[simp] theorem State.setReg_deputy (p off : Nat) (v : W32) (n : Nat) : (s.setReg p off v).deputy n = s.deputy n := rfl
@[simp] theorem State.setReg_replica (p off : Nat) (v : W32) (n : Nat) : (s.setReg p off v).replica n = s.replica n := rfl
@[simp] theorem State.setReg_correlator (p off : Nat) (v : W32) (n : Nat) : (s.setReg p off v).correlator n = s.correlator n := rfl

/-! ### setFld -/

@[simp] theorem State.setFld_pending (p off lo w x : Nat) : (s.setFld p off lo w x).pending = s.pending := rfl
@[simp] theorem State.setFld_free (p off lo w x : Nat) : (s.setFld p off lo w x).free = s.free := rfl
@[simp] theorem State.setFld_life (p off lo w x : Nat) : (s.setFld p off lo w x).life = s.life := rfl
@[simp] theorem State.setFld_eff (p off lo w x : Nat) : (s.setFld p off lo w x).eff = s.eff := rfl
@[simp] theorem State.setFld_ivl (p off lo w x : Nat) : (s.setFld p off lo w x).ivl = s.ivl := rfl
@[simp] theorem State.setFld_locks (p off lo w x : Nat) : (s.setFld p off lo w x).locks = s.locks := rfl
@[simp] theorem State.setFld_dom (p off lo w x : Nat) : (s.setFld p off lo w x).dom = s.dom := rfl
@[simp] theorem State.setFld_arr (p off lo w x : Nat) : (s.setFld p off lo w x).arr = s.arr := rfl
@[simp] theorem State.setFld_arrReq (p off lo w x : Nat) : (s.setFld p off lo w x).arrReq = s.arrReq := rfl
@[simp] theorem State.setFld_pwrAsked (p off lo w x : Nat) : (s.setFld p off lo w x).pwrAsked = s.pwrAsked := rfl
@[simp] theorem State.setFld_mem (p off lo w x : Nat) : (s.setFld p off lo w x).mem = s.mem := rfl
@[simp] theorem State.setFld_banks (p off lo w x : Nat) : (s.setFld p off lo w x).banks = s.banks := rfl
@[simp] theorem State.setFld_threads (p off lo w x : Nat) : (s.setFld p off lo w x).threads = s.threads := rfl
@[simp] theorem State.setFld_cores (p off lo w x : Nat) : (s.setFld p off lo w x).cores = s.cores := rfl
@[simp] theorem State.setFld_ons (p off lo w x : Nat) : (s.setFld p off lo w x).ons = s.ons := rfl
@[simp] theorem State.setFld_crossings (p off lo w x : Nat) : (s.setFld p off lo w x).crossings = s.crossings := rfl
@[simp] theorem State.setFld_tpl (p off lo w x : Nat) : (s.setFld p off lo w x).tpl = s.tpl := rfl
@[simp] theorem State.setFld_aud (p off lo w x : Nat) : (s.setFld p off lo w x).aud = s.aud := rfl
@[simp] theorem State.setFld_nrg (p off lo w x : Nat) : (s.setFld p off lo w x).nrg = s.nrg := rfl
@[simp] theorem State.setFld_guard (p off lo w x : Nat) : (s.setFld p off lo w x).guard = s.guard := rfl
@[simp] theorem State.setFld_tri (p off lo w x : Nat) : (s.setFld p off lo w x).tri = s.tri := rfl
@[simp] theorem State.setFld_can (p off lo w x : Nat) : (s.setFld p off lo w x).can = s.can := rfl
@[simp] theorem State.setFld_cmp (p off lo w x : Nat) : (s.setFld p off lo w x).cmp = s.cmp := rfl
@[simp] theorem State.setFld_flips (p off lo w x : Nat) : (s.setFld p off lo w x).flips = s.flips := rfl
@[simp] theorem State.setFld_delays (p off lo w x : Nat) : (s.setFld p off lo w x).delays = s.delays := rfl
@[simp] theorem State.setFld_dep (p off lo w x : Nat) : (s.setFld p off lo w x).dep = s.dep := rfl
@[simp] theorem State.setFld_cor (p off lo w x : Nat) : (s.setFld p off lo w x).cor = s.cor := rfl
@[simp] theorem State.setFld_adit (p off lo w x : Nat) : (s.setFld p off lo w x).adit = s.adit := rfl
@[simp] theorem State.setFld_wnd (p off lo w x : Nat) : (s.setFld p off lo w x).wnd = s.wnd := rfl
@[simp] theorem State.setFld_scrub (p off lo w x : Nat) : (s.setFld p off lo w x).scrub = s.scrub := rfl
@[simp] theorem State.setFld_ustoreBad (p off lo w x : Nat) : (s.setFld p off lo w x).ustoreBad = s.ustoreBad := rfl
@[simp] theorem State.setFld_decodes (p off lo w x : Nat) : (s.setFld p off lo w x).decodes = s.decodes := rfl
@[simp] theorem State.setFld_panels (p off lo w x : Nat) : (s.setFld p off lo w x).panels = s.panels := rfl
@[simp] theorem State.setFld_dbg (p off lo w x : Nat) : (s.setFld p off lo w x).dbg = s.dbg := rfl
@[simp] theorem State.setFld_emu (p off lo w x : Nat) : (s.setFld p off lo w x).emu = s.emu := rfl
@[simp] theorem State.setFld_pci (p off lo w x : Nat) : (s.setFld p off lo w x).pci = s.pci := rfl
@[simp] theorem State.setFld_pmcHeld (p off lo w x : Nat) : (s.setFld p off lo w x).pmcHeld = s.pmcHeld := rfl
@[simp] theorem State.setFld_answer (p off lo w x : Nat) : (s.setFld p off lo w x).answer = s.answer := rfl
@[simp] theorem State.setFld_bell (p off lo w x : Nat) : (s.setFld p off lo w x).bell = s.bell := rfl
@[simp] theorem State.setFld_effReg (p off lo w x : Nat) (q o : Nat) : (s.setFld p off lo w x).effReg q o = s.effReg q o := rfl
@[simp] theorem State.setFld_lockOf (p off lo w x : Nat) (q : Nat) : (s.setFld p off lo w x).lockOf q = s.lockOf q := rfl
@[simp] theorem State.setFld_domain (p off lo w x : Nat) (q : Nat) : (s.setFld p off lo w x).domain q = s.domain q := rfl
@[simp] theorem State.setFld_array (p off lo w x : Nat) (q : Nat) : (s.setFld p off lo w x).array q = s.array q := rfl
@[simp] theorem State.setFld_thread (p off lo w x : Nat) (g : Hart) : (s.setFld p off lo w x).thread g = s.thread g := rfl
@[simp] theorem State.setFld_core (p off lo w x : Nat) (n : Nat) : (s.setFld p off lo w x).core n = s.core n := rfl
@[simp] theorem State.setFld_bank (p off lo w x : Nat) (n : Nat) : (s.setFld p off lo w x).bank n = s.bank n := rfl
@[simp] theorem State.setFld_winder (p off lo w x : Nat) (n : Nat) : (s.setFld p off lo w x).winder n = s.winder n := rfl
@[simp] theorem State.setFld_deputy (p off lo w x : Nat) (n : Nat) : (s.setFld p off lo w x).deputy n = s.deputy n := rfl
@[simp] theorem State.setFld_replica (p off lo w x : Nat) (n : Nat) : (s.setFld p off lo w x).replica n = s.replica n := rfl
@[simp] theorem State.setFld_correlator (p off lo w x : Nat) (n : Nat) : (s.setFld p off lo w x).correlator n = s.correlator n := rfl

/-! ### setEvt -/

@[simp] theorem State.setEvt_pending (p b : Nat) : (s.setEvt p b).pending = s.pending := rfl
@[simp] theorem State.setEvt_free (p b : Nat) : (s.setEvt p b).free = s.free := rfl
@[simp] theorem State.setEvt_life (p b : Nat) : (s.setEvt p b).life = s.life := rfl
@[simp] theorem State.setEvt_eff (p b : Nat) : (s.setEvt p b).eff = s.eff := rfl
@[simp] theorem State.setEvt_ivl (p b : Nat) : (s.setEvt p b).ivl = s.ivl := rfl
@[simp] theorem State.setEvt_locks (p b : Nat) : (s.setEvt p b).locks = s.locks := rfl
@[simp] theorem State.setEvt_dom (p b : Nat) : (s.setEvt p b).dom = s.dom := rfl
@[simp] theorem State.setEvt_arr (p b : Nat) : (s.setEvt p b).arr = s.arr := rfl
@[simp] theorem State.setEvt_arrReq (p b : Nat) : (s.setEvt p b).arrReq = s.arrReq := rfl
@[simp] theorem State.setEvt_pwrAsked (p b : Nat) : (s.setEvt p b).pwrAsked = s.pwrAsked := rfl
@[simp] theorem State.setEvt_mem (p b : Nat) : (s.setEvt p b).mem = s.mem := rfl
@[simp] theorem State.setEvt_banks (p b : Nat) : (s.setEvt p b).banks = s.banks := rfl
@[simp] theorem State.setEvt_threads (p b : Nat) : (s.setEvt p b).threads = s.threads := rfl
@[simp] theorem State.setEvt_cores (p b : Nat) : (s.setEvt p b).cores = s.cores := rfl
@[simp] theorem State.setEvt_ons (p b : Nat) : (s.setEvt p b).ons = s.ons := rfl
@[simp] theorem State.setEvt_crossings (p b : Nat) : (s.setEvt p b).crossings = s.crossings := rfl
@[simp] theorem State.setEvt_tpl (p b : Nat) : (s.setEvt p b).tpl = s.tpl := rfl
@[simp] theorem State.setEvt_aud (p b : Nat) : (s.setEvt p b).aud = s.aud := rfl
@[simp] theorem State.setEvt_nrg (p b : Nat) : (s.setEvt p b).nrg = s.nrg := rfl
@[simp] theorem State.setEvt_guard (p b : Nat) : (s.setEvt p b).guard = s.guard := rfl
@[simp] theorem State.setEvt_tri (p b : Nat) : (s.setEvt p b).tri = s.tri := rfl
@[simp] theorem State.setEvt_can (p b : Nat) : (s.setEvt p b).can = s.can := rfl
@[simp] theorem State.setEvt_cmp (p b : Nat) : (s.setEvt p b).cmp = s.cmp := rfl
@[simp] theorem State.setEvt_flips (p b : Nat) : (s.setEvt p b).flips = s.flips := rfl
@[simp] theorem State.setEvt_delays (p b : Nat) : (s.setEvt p b).delays = s.delays := rfl
@[simp] theorem State.setEvt_dep (p b : Nat) : (s.setEvt p b).dep = s.dep := rfl
@[simp] theorem State.setEvt_cor (p b : Nat) : (s.setEvt p b).cor = s.cor := rfl
@[simp] theorem State.setEvt_adit (p b : Nat) : (s.setEvt p b).adit = s.adit := rfl
@[simp] theorem State.setEvt_wnd (p b : Nat) : (s.setEvt p b).wnd = s.wnd := rfl
@[simp] theorem State.setEvt_scrub (p b : Nat) : (s.setEvt p b).scrub = s.scrub := rfl
@[simp] theorem State.setEvt_ustoreBad (p b : Nat) : (s.setEvt p b).ustoreBad = s.ustoreBad := rfl
@[simp] theorem State.setEvt_decodes (p b : Nat) : (s.setEvt p b).decodes = s.decodes := rfl
@[simp] theorem State.setEvt_panels (p b : Nat) : (s.setEvt p b).panels = s.panels := rfl
@[simp] theorem State.setEvt_dbg (p b : Nat) : (s.setEvt p b).dbg = s.dbg := rfl
@[simp] theorem State.setEvt_emu (p b : Nat) : (s.setEvt p b).emu = s.emu := rfl
@[simp] theorem State.setEvt_pci (p b : Nat) : (s.setEvt p b).pci = s.pci := rfl
@[simp] theorem State.setEvt_pmcHeld (p b : Nat) : (s.setEvt p b).pmcHeld = s.pmcHeld := rfl
@[simp] theorem State.setEvt_answer (p b : Nat) : (s.setEvt p b).answer = s.answer := rfl
@[simp] theorem State.setEvt_bell (p b : Nat) : (s.setEvt p b).bell = s.bell := rfl
@[simp] theorem State.setEvt_effReg (p b : Nat) (q o : Nat) : (s.setEvt p b).effReg q o = s.effReg q o := rfl
@[simp] theorem State.setEvt_lockOf (p b : Nat) (q : Nat) : (s.setEvt p b).lockOf q = s.lockOf q := rfl
@[simp] theorem State.setEvt_domain (p b : Nat) (q : Nat) : (s.setEvt p b).domain q = s.domain q := rfl
@[simp] theorem State.setEvt_array (p b : Nat) (q : Nat) : (s.setEvt p b).array q = s.array q := rfl
@[simp] theorem State.setEvt_thread (p b : Nat) (g : Hart) : (s.setEvt p b).thread g = s.thread g := rfl
@[simp] theorem State.setEvt_core (p b : Nat) (n : Nat) : (s.setEvt p b).core n = s.core n := rfl
@[simp] theorem State.setEvt_bank (p b : Nat) (n : Nat) : (s.setEvt p b).bank n = s.bank n := rfl
@[simp] theorem State.setEvt_winder (p b : Nat) (n : Nat) : (s.setEvt p b).winder n = s.winder n := rfl
@[simp] theorem State.setEvt_deputy (p b : Nat) (n : Nat) : (s.setEvt p b).deputy n = s.deputy n := rfl
@[simp] theorem State.setEvt_replica (p b : Nat) (n : Nat) : (s.setEvt p b).replica n = s.replica n := rfl
@[simp] theorem State.setEvt_correlator (p b : Nat) (n : Nat) : (s.setEvt p b).correlator n = s.correlator n := rfl

/-! ### setLock -/

@[simp] theorem State.setLock_pending (p : Nat) (k : PageLock) : (s.setLock p k).pending = s.pending := rfl
@[simp] theorem State.setLock_free (p : Nat) (k : PageLock) : (s.setLock p k).free = s.free := rfl
@[simp] theorem State.setLock_life (p : Nat) (k : PageLock) : (s.setLock p k).life = s.life := rfl
@[simp] theorem State.setLock_regs (p : Nat) (k : PageLock) : (s.setLock p k).regs = s.regs := rfl
@[simp] theorem State.setLock_eff (p : Nat) (k : PageLock) : (s.setLock p k).eff = s.eff := rfl
@[simp] theorem State.setLock_ivl (p : Nat) (k : PageLock) : (s.setLock p k).ivl = s.ivl := rfl
@[simp] theorem State.setLock_dom (p : Nat) (k : PageLock) : (s.setLock p k).dom = s.dom := rfl
@[simp] theorem State.setLock_arr (p : Nat) (k : PageLock) : (s.setLock p k).arr = s.arr := rfl
@[simp] theorem State.setLock_arrReq (p : Nat) (k : PageLock) : (s.setLock p k).arrReq = s.arrReq := rfl
@[simp] theorem State.setLock_pwrAsked (p : Nat) (k : PageLock) : (s.setLock p k).pwrAsked = s.pwrAsked := rfl
@[simp] theorem State.setLock_mem (p : Nat) (k : PageLock) : (s.setLock p k).mem = s.mem := rfl
@[simp] theorem State.setLock_banks (p : Nat) (k : PageLock) : (s.setLock p k).banks = s.banks := rfl
@[simp] theorem State.setLock_threads (p : Nat) (k : PageLock) : (s.setLock p k).threads = s.threads := rfl
@[simp] theorem State.setLock_cores (p : Nat) (k : PageLock) : (s.setLock p k).cores = s.cores := rfl
@[simp] theorem State.setLock_ons (p : Nat) (k : PageLock) : (s.setLock p k).ons = s.ons := rfl
@[simp] theorem State.setLock_crossings (p : Nat) (k : PageLock) : (s.setLock p k).crossings = s.crossings := rfl
@[simp] theorem State.setLock_tpl (p : Nat) (k : PageLock) : (s.setLock p k).tpl = s.tpl := rfl
@[simp] theorem State.setLock_aud (p : Nat) (k : PageLock) : (s.setLock p k).aud = s.aud := rfl
@[simp] theorem State.setLock_nrg (p : Nat) (k : PageLock) : (s.setLock p k).nrg = s.nrg := rfl
@[simp] theorem State.setLock_guard (p : Nat) (k : PageLock) : (s.setLock p k).guard = s.guard := rfl
@[simp] theorem State.setLock_tri (p : Nat) (k : PageLock) : (s.setLock p k).tri = s.tri := rfl
@[simp] theorem State.setLock_can (p : Nat) (k : PageLock) : (s.setLock p k).can = s.can := rfl
@[simp] theorem State.setLock_cmp (p : Nat) (k : PageLock) : (s.setLock p k).cmp = s.cmp := rfl
@[simp] theorem State.setLock_flips (p : Nat) (k : PageLock) : (s.setLock p k).flips = s.flips := rfl
@[simp] theorem State.setLock_delays (p : Nat) (k : PageLock) : (s.setLock p k).delays = s.delays := rfl
@[simp] theorem State.setLock_dep (p : Nat) (k : PageLock) : (s.setLock p k).dep = s.dep := rfl
@[simp] theorem State.setLock_cor (p : Nat) (k : PageLock) : (s.setLock p k).cor = s.cor := rfl
@[simp] theorem State.setLock_adit (p : Nat) (k : PageLock) : (s.setLock p k).adit = s.adit := rfl
@[simp] theorem State.setLock_wnd (p : Nat) (k : PageLock) : (s.setLock p k).wnd = s.wnd := rfl
@[simp] theorem State.setLock_scrub (p : Nat) (k : PageLock) : (s.setLock p k).scrub = s.scrub := rfl
@[simp] theorem State.setLock_ustoreBad (p : Nat) (k : PageLock) : (s.setLock p k).ustoreBad = s.ustoreBad := rfl
@[simp] theorem State.setLock_decodes (p : Nat) (k : PageLock) : (s.setLock p k).decodes = s.decodes := rfl
@[simp] theorem State.setLock_panels (p : Nat) (k : PageLock) : (s.setLock p k).panels = s.panels := rfl
@[simp] theorem State.setLock_dbg (p : Nat) (k : PageLock) : (s.setLock p k).dbg = s.dbg := rfl
@[simp] theorem State.setLock_emu (p : Nat) (k : PageLock) : (s.setLock p k).emu = s.emu := rfl
@[simp] theorem State.setLock_pci (p : Nat) (k : PageLock) : (s.setLock p k).pci = s.pci := rfl
@[simp] theorem State.setLock_pmcHeld (p : Nat) (k : PageLock) : (s.setLock p k).pmcHeld = s.pmcHeld := rfl
@[simp] theorem State.setLock_answer (p : Nat) (k : PageLock) : (s.setLock p k).answer = s.answer := rfl
@[simp] theorem State.setLock_bell (p : Nat) (k : PageLock) : (s.setLock p k).bell = s.bell := rfl
@[simp] theorem State.setLock_reg (p : Nat) (k : PageLock) (q o : Nat) : (s.setLock p k).reg q o = s.reg q o := rfl
@[simp] theorem State.setLock_effReg (p : Nat) (k : PageLock) (q o : Nat) : (s.setLock p k).effReg q o = s.effReg q o := rfl
@[simp] theorem State.setLock_getFld (p : Nat) (k : PageLock) (q o l n : Nat) : (s.setLock p k).getFld q o l n = s.getFld q o l n := rfl
@[simp] theorem State.setLock_domain (p : Nat) (k : PageLock) (q : Nat) : (s.setLock p k).domain q = s.domain q := rfl
@[simp] theorem State.setLock_array (p : Nat) (k : PageLock) (q : Nat) : (s.setLock p k).array q = s.array q := rfl
@[simp] theorem State.setLock_thread (p : Nat) (k : PageLock) (g : Hart) : (s.setLock p k).thread g = s.thread g := rfl
@[simp] theorem State.setLock_core (p : Nat) (k : PageLock) (n : Nat) : (s.setLock p k).core n = s.core n := rfl
@[simp] theorem State.setLock_bank (p : Nat) (k : PageLock) (n : Nat) : (s.setLock p k).bank n = s.bank n := rfl
@[simp] theorem State.setLock_winder (p : Nat) (k : PageLock) (n : Nat) : (s.setLock p k).winder n = s.winder n := rfl
@[simp] theorem State.setLock_deputy (p : Nat) (k : PageLock) (n : Nat) : (s.setLock p k).deputy n = s.deputy n := rfl
@[simp] theorem State.setLock_replica (p : Nat) (k : PageLock) (n : Nat) : (s.setLock p k).replica n = s.replica n := rfl
@[simp] theorem State.setLock_correlator (p : Nat) (k : PageLock) (n : Nat) : (s.setLock p k).correlator n = s.correlator n := rfl

/-! ### setDomain -/

@[simp] theorem State.setDomain_pending (d : Nat) (v : Power) : (s.setDomain d v).pending = s.pending := rfl
@[simp] theorem State.setDomain_free (d : Nat) (v : Power) : (s.setDomain d v).free = s.free := rfl
@[simp] theorem State.setDomain_life (d : Nat) (v : Power) : (s.setDomain d v).life = s.life := rfl
@[simp] theorem State.setDomain_regs (d : Nat) (v : Power) : (s.setDomain d v).regs = s.regs := rfl
@[simp] theorem State.setDomain_eff (d : Nat) (v : Power) : (s.setDomain d v).eff = s.eff := rfl
@[simp] theorem State.setDomain_ivl (d : Nat) (v : Power) : (s.setDomain d v).ivl = s.ivl := rfl
@[simp] theorem State.setDomain_locks (d : Nat) (v : Power) : (s.setDomain d v).locks = s.locks := rfl
@[simp] theorem State.setDomain_arr (d : Nat) (v : Power) : (s.setDomain d v).arr = s.arr := rfl
@[simp] theorem State.setDomain_arrReq (d : Nat) (v : Power) : (s.setDomain d v).arrReq = s.arrReq := rfl
@[simp] theorem State.setDomain_pwrAsked (d : Nat) (v : Power) : (s.setDomain d v).pwrAsked = s.pwrAsked := rfl
@[simp] theorem State.setDomain_mem (d : Nat) (v : Power) : (s.setDomain d v).mem = s.mem := rfl
@[simp] theorem State.setDomain_banks (d : Nat) (v : Power) : (s.setDomain d v).banks = s.banks := rfl
@[simp] theorem State.setDomain_threads (d : Nat) (v : Power) : (s.setDomain d v).threads = s.threads := rfl
@[simp] theorem State.setDomain_cores (d : Nat) (v : Power) : (s.setDomain d v).cores = s.cores := rfl
@[simp] theorem State.setDomain_ons (d : Nat) (v : Power) : (s.setDomain d v).ons = s.ons := rfl
@[simp] theorem State.setDomain_crossings (d : Nat) (v : Power) : (s.setDomain d v).crossings = s.crossings := rfl
@[simp] theorem State.setDomain_tpl (d : Nat) (v : Power) : (s.setDomain d v).tpl = s.tpl := rfl
@[simp] theorem State.setDomain_aud (d : Nat) (v : Power) : (s.setDomain d v).aud = s.aud := rfl
@[simp] theorem State.setDomain_nrg (d : Nat) (v : Power) : (s.setDomain d v).nrg = s.nrg := rfl
@[simp] theorem State.setDomain_guard (d : Nat) (v : Power) : (s.setDomain d v).guard = s.guard := rfl
@[simp] theorem State.setDomain_tri (d : Nat) (v : Power) : (s.setDomain d v).tri = s.tri := rfl
@[simp] theorem State.setDomain_can (d : Nat) (v : Power) : (s.setDomain d v).can = s.can := rfl
@[simp] theorem State.setDomain_cmp (d : Nat) (v : Power) : (s.setDomain d v).cmp = s.cmp := rfl
@[simp] theorem State.setDomain_flips (d : Nat) (v : Power) : (s.setDomain d v).flips = s.flips := rfl
@[simp] theorem State.setDomain_delays (d : Nat) (v : Power) : (s.setDomain d v).delays = s.delays := rfl
@[simp] theorem State.setDomain_dep (d : Nat) (v : Power) : (s.setDomain d v).dep = s.dep := rfl
@[simp] theorem State.setDomain_cor (d : Nat) (v : Power) : (s.setDomain d v).cor = s.cor := rfl
@[simp] theorem State.setDomain_adit (d : Nat) (v : Power) : (s.setDomain d v).adit = s.adit := rfl
@[simp] theorem State.setDomain_wnd (d : Nat) (v : Power) : (s.setDomain d v).wnd = s.wnd := rfl
@[simp] theorem State.setDomain_scrub (d : Nat) (v : Power) : (s.setDomain d v).scrub = s.scrub := rfl
@[simp] theorem State.setDomain_ustoreBad (d : Nat) (v : Power) : (s.setDomain d v).ustoreBad = s.ustoreBad := rfl
@[simp] theorem State.setDomain_decodes (d : Nat) (v : Power) : (s.setDomain d v).decodes = s.decodes := rfl
@[simp] theorem State.setDomain_panels (d : Nat) (v : Power) : (s.setDomain d v).panels = s.panels := rfl
@[simp] theorem State.setDomain_dbg (d : Nat) (v : Power) : (s.setDomain d v).dbg = s.dbg := rfl
@[simp] theorem State.setDomain_emu (d : Nat) (v : Power) : (s.setDomain d v).emu = s.emu := rfl
@[simp] theorem State.setDomain_pci (d : Nat) (v : Power) : (s.setDomain d v).pci = s.pci := rfl
@[simp] theorem State.setDomain_pmcHeld (d : Nat) (v : Power) : (s.setDomain d v).pmcHeld = s.pmcHeld := rfl
@[simp] theorem State.setDomain_answer (d : Nat) (v : Power) : (s.setDomain d v).answer = s.answer := rfl
@[simp] theorem State.setDomain_bell (d : Nat) (v : Power) : (s.setDomain d v).bell = s.bell := rfl
@[simp] theorem State.setDomain_reg (d : Nat) (v : Power) (q o : Nat) : (s.setDomain d v).reg q o = s.reg q o := rfl
@[simp] theorem State.setDomain_effReg (d : Nat) (v : Power) (q o : Nat) : (s.setDomain d v).effReg q o = s.effReg q o := rfl
@[simp] theorem State.setDomain_getFld (d : Nat) (v : Power) (q o l n : Nat) : (s.setDomain d v).getFld q o l n = s.getFld q o l n := rfl
@[simp] theorem State.setDomain_lockOf (d : Nat) (v : Power) (q : Nat) : (s.setDomain d v).lockOf q = s.lockOf q := rfl
@[simp] theorem State.setDomain_array (d : Nat) (v : Power) (q : Nat) : (s.setDomain d v).array q = s.array q := rfl
@[simp] theorem State.setDomain_thread (d : Nat) (v : Power) (g : Hart) : (s.setDomain d v).thread g = s.thread g := rfl
@[simp] theorem State.setDomain_core (d : Nat) (v : Power) (n : Nat) : (s.setDomain d v).core n = s.core n := rfl
@[simp] theorem State.setDomain_bank (d : Nat) (v : Power) (n : Nat) : (s.setDomain d v).bank n = s.bank n := rfl
@[simp] theorem State.setDomain_winder (d : Nat) (v : Power) (n : Nat) : (s.setDomain d v).winder n = s.winder n := rfl
@[simp] theorem State.setDomain_deputy (d : Nat) (v : Power) (n : Nat) : (s.setDomain d v).deputy n = s.deputy n := rfl
@[simp] theorem State.setDomain_replica (d : Nat) (v : Power) (n : Nat) : (s.setDomain d v).replica n = s.replica n := rfl
@[simp] theorem State.setDomain_correlator (d : Nat) (v : Power) (n : Nat) : (s.setDomain d v).correlator n = s.correlator n := rfl

/-! ### setArray -/

@[simp] theorem State.setArray_pending (b : Nat) (v : Power) : (s.setArray b v).pending = s.pending := rfl
@[simp] theorem State.setArray_free (b : Nat) (v : Power) : (s.setArray b v).free = s.free := rfl
@[simp] theorem State.setArray_life (b : Nat) (v : Power) : (s.setArray b v).life = s.life := rfl
@[simp] theorem State.setArray_regs (b : Nat) (v : Power) : (s.setArray b v).regs = s.regs := rfl
@[simp] theorem State.setArray_eff (b : Nat) (v : Power) : (s.setArray b v).eff = s.eff := rfl
@[simp] theorem State.setArray_ivl (b : Nat) (v : Power) : (s.setArray b v).ivl = s.ivl := rfl
@[simp] theorem State.setArray_locks (b : Nat) (v : Power) : (s.setArray b v).locks = s.locks := rfl
@[simp] theorem State.setArray_dom (b : Nat) (v : Power) : (s.setArray b v).dom = s.dom := rfl
@[simp] theorem State.setArray_arrReq (b : Nat) (v : Power) : (s.setArray b v).arrReq = s.arrReq := rfl
@[simp] theorem State.setArray_pwrAsked (b : Nat) (v : Power) : (s.setArray b v).pwrAsked = s.pwrAsked := rfl
@[simp] theorem State.setArray_mem (b : Nat) (v : Power) : (s.setArray b v).mem = s.mem := rfl
@[simp] theorem State.setArray_banks (b : Nat) (v : Power) : (s.setArray b v).banks = s.banks := rfl
@[simp] theorem State.setArray_threads (b : Nat) (v : Power) : (s.setArray b v).threads = s.threads := rfl
@[simp] theorem State.setArray_cores (b : Nat) (v : Power) : (s.setArray b v).cores = s.cores := rfl
@[simp] theorem State.setArray_ons (b : Nat) (v : Power) : (s.setArray b v).ons = s.ons := rfl
@[simp] theorem State.setArray_crossings (b : Nat) (v : Power) : (s.setArray b v).crossings = s.crossings := rfl
@[simp] theorem State.setArray_tpl (b : Nat) (v : Power) : (s.setArray b v).tpl = s.tpl := rfl
@[simp] theorem State.setArray_aud (b : Nat) (v : Power) : (s.setArray b v).aud = s.aud := rfl
@[simp] theorem State.setArray_nrg (b : Nat) (v : Power) : (s.setArray b v).nrg = s.nrg := rfl
@[simp] theorem State.setArray_guard (b : Nat) (v : Power) : (s.setArray b v).guard = s.guard := rfl
@[simp] theorem State.setArray_tri (b : Nat) (v : Power) : (s.setArray b v).tri = s.tri := rfl
@[simp] theorem State.setArray_can (b : Nat) (v : Power) : (s.setArray b v).can = s.can := rfl
@[simp] theorem State.setArray_cmp (b : Nat) (v : Power) : (s.setArray b v).cmp = s.cmp := rfl
@[simp] theorem State.setArray_flips (b : Nat) (v : Power) : (s.setArray b v).flips = s.flips := rfl
@[simp] theorem State.setArray_delays (b : Nat) (v : Power) : (s.setArray b v).delays = s.delays := rfl
@[simp] theorem State.setArray_dep (b : Nat) (v : Power) : (s.setArray b v).dep = s.dep := rfl
@[simp] theorem State.setArray_cor (b : Nat) (v : Power) : (s.setArray b v).cor = s.cor := rfl
@[simp] theorem State.setArray_adit (b : Nat) (v : Power) : (s.setArray b v).adit = s.adit := rfl
@[simp] theorem State.setArray_wnd (b : Nat) (v : Power) : (s.setArray b v).wnd = s.wnd := rfl
@[simp] theorem State.setArray_scrub (b : Nat) (v : Power) : (s.setArray b v).scrub = s.scrub := rfl
@[simp] theorem State.setArray_ustoreBad (b : Nat) (v : Power) : (s.setArray b v).ustoreBad = s.ustoreBad := rfl
@[simp] theorem State.setArray_decodes (b : Nat) (v : Power) : (s.setArray b v).decodes = s.decodes := rfl
@[simp] theorem State.setArray_panels (b : Nat) (v : Power) : (s.setArray b v).panels = s.panels := rfl
@[simp] theorem State.setArray_dbg (b : Nat) (v : Power) : (s.setArray b v).dbg = s.dbg := rfl
@[simp] theorem State.setArray_emu (b : Nat) (v : Power) : (s.setArray b v).emu = s.emu := rfl
@[simp] theorem State.setArray_pci (b : Nat) (v : Power) : (s.setArray b v).pci = s.pci := rfl
@[simp] theorem State.setArray_pmcHeld (b : Nat) (v : Power) : (s.setArray b v).pmcHeld = s.pmcHeld := rfl
@[simp] theorem State.setArray_answer (b : Nat) (v : Power) : (s.setArray b v).answer = s.answer := rfl
@[simp] theorem State.setArray_bell (b : Nat) (v : Power) : (s.setArray b v).bell = s.bell := rfl
@[simp] theorem State.setArray_reg (b : Nat) (v : Power) (q o : Nat) : (s.setArray b v).reg q o = s.reg q o := rfl
@[simp] theorem State.setArray_effReg (b : Nat) (v : Power) (q o : Nat) : (s.setArray b v).effReg q o = s.effReg q o := rfl
@[simp] theorem State.setArray_getFld (b : Nat) (v : Power) (q o l n : Nat) : (s.setArray b v).getFld q o l n = s.getFld q o l n := rfl
@[simp] theorem State.setArray_lockOf (b : Nat) (v : Power) (q : Nat) : (s.setArray b v).lockOf q = s.lockOf q := rfl
@[simp] theorem State.setArray_domain (b : Nat) (v : Power) (q : Nat) : (s.setArray b v).domain q = s.domain q := rfl
@[simp] theorem State.setArray_thread (b : Nat) (v : Power) (g : Hart) : (s.setArray b v).thread g = s.thread g := rfl
@[simp] theorem State.setArray_core (b : Nat) (v : Power) (n : Nat) : (s.setArray b v).core n = s.core n := rfl
@[simp] theorem State.setArray_bank (b : Nat) (v : Power) (n : Nat) : (s.setArray b v).bank n = s.bank n := rfl
@[simp] theorem State.setArray_winder (b : Nat) (v : Power) (n : Nat) : (s.setArray b v).winder n = s.winder n := rfl
@[simp] theorem State.setArray_deputy (b : Nat) (v : Power) (n : Nat) : (s.setArray b v).deputy n = s.deputy n := rfl
@[simp] theorem State.setArray_replica (b : Nat) (v : Power) (n : Nat) : (s.setArray b v).replica n = s.replica n := rfl
@[simp] theorem State.setArray_correlator (b : Nat) (v : Power) (n : Nat) : (s.setArray b v).correlator n = s.correlator n := rfl

/-! ### setThread -/

@[simp] theorem State.setThread_pending (h : Hart) (t : Thread) : (s.setThread h t).pending = s.pending := rfl
@[simp] theorem State.setThread_free (h : Hart) (t : Thread) : (s.setThread h t).free = s.free := rfl
@[simp] theorem State.setThread_life (h : Hart) (t : Thread) : (s.setThread h t).life = s.life := rfl
@[simp] theorem State.setThread_regs (h : Hart) (t : Thread) : (s.setThread h t).regs = s.regs := rfl
@[simp] theorem State.setThread_eff (h : Hart) (t : Thread) : (s.setThread h t).eff = s.eff := rfl
@[simp] theorem State.setThread_ivl (h : Hart) (t : Thread) : (s.setThread h t).ivl = s.ivl := rfl
@[simp] theorem State.setThread_locks (h : Hart) (t : Thread) : (s.setThread h t).locks = s.locks := rfl
@[simp] theorem State.setThread_dom (h : Hart) (t : Thread) : (s.setThread h t).dom = s.dom := rfl
@[simp] theorem State.setThread_arr (h : Hart) (t : Thread) : (s.setThread h t).arr = s.arr := rfl
@[simp] theorem State.setThread_arrReq (h : Hart) (t : Thread) : (s.setThread h t).arrReq = s.arrReq := rfl
@[simp] theorem State.setThread_pwrAsked (h : Hart) (t : Thread) : (s.setThread h t).pwrAsked = s.pwrAsked := rfl
@[simp] theorem State.setThread_mem (h : Hart) (t : Thread) : (s.setThread h t).mem = s.mem := rfl
@[simp] theorem State.setThread_banks (h : Hart) (t : Thread) : (s.setThread h t).banks = s.banks := rfl
@[simp] theorem State.setThread_cores (h : Hart) (t : Thread) : (s.setThread h t).cores = s.cores := rfl
@[simp] theorem State.setThread_ons (h : Hart) (t : Thread) : (s.setThread h t).ons = s.ons := rfl
@[simp] theorem State.setThread_crossings (h : Hart) (t : Thread) : (s.setThread h t).crossings = s.crossings := rfl
@[simp] theorem State.setThread_tpl (h : Hart) (t : Thread) : (s.setThread h t).tpl = s.tpl := rfl
@[simp] theorem State.setThread_aud (h : Hart) (t : Thread) : (s.setThread h t).aud = s.aud := rfl
@[simp] theorem State.setThread_nrg (h : Hart) (t : Thread) : (s.setThread h t).nrg = s.nrg := rfl
@[simp] theorem State.setThread_guard (h : Hart) (t : Thread) : (s.setThread h t).guard = s.guard := rfl
@[simp] theorem State.setThread_tri (h : Hart) (t : Thread) : (s.setThread h t).tri = s.tri := rfl
@[simp] theorem State.setThread_can (h : Hart) (t : Thread) : (s.setThread h t).can = s.can := rfl
@[simp] theorem State.setThread_cmp (h : Hart) (t : Thread) : (s.setThread h t).cmp = s.cmp := rfl
@[simp] theorem State.setThread_flips (h : Hart) (t : Thread) : (s.setThread h t).flips = s.flips := rfl
@[simp] theorem State.setThread_delays (h : Hart) (t : Thread) : (s.setThread h t).delays = s.delays := rfl
@[simp] theorem State.setThread_dep (h : Hart) (t : Thread) : (s.setThread h t).dep = s.dep := rfl
@[simp] theorem State.setThread_cor (h : Hart) (t : Thread) : (s.setThread h t).cor = s.cor := rfl
@[simp] theorem State.setThread_adit (h : Hart) (t : Thread) : (s.setThread h t).adit = s.adit := rfl
@[simp] theorem State.setThread_wnd (h : Hart) (t : Thread) : (s.setThread h t).wnd = s.wnd := rfl
@[simp] theorem State.setThread_scrub (h : Hart) (t : Thread) : (s.setThread h t).scrub = s.scrub := rfl
@[simp] theorem State.setThread_ustoreBad (h : Hart) (t : Thread) : (s.setThread h t).ustoreBad = s.ustoreBad := rfl
@[simp] theorem State.setThread_decodes (h : Hart) (t : Thread) : (s.setThread h t).decodes = s.decodes := rfl
@[simp] theorem State.setThread_panels (h : Hart) (t : Thread) : (s.setThread h t).panels = s.panels := rfl
@[simp] theorem State.setThread_dbg (h : Hart) (t : Thread) : (s.setThread h t).dbg = s.dbg := rfl
@[simp] theorem State.setThread_emu (h : Hart) (t : Thread) : (s.setThread h t).emu = s.emu := rfl
@[simp] theorem State.setThread_pci (h : Hart) (t : Thread) : (s.setThread h t).pci = s.pci := rfl
@[simp] theorem State.setThread_pmcHeld (h : Hart) (t : Thread) : (s.setThread h t).pmcHeld = s.pmcHeld := rfl
@[simp] theorem State.setThread_answer (h : Hart) (t : Thread) : (s.setThread h t).answer = s.answer := rfl
@[simp] theorem State.setThread_bell (h : Hart) (t : Thread) : (s.setThread h t).bell = s.bell := rfl
@[simp] theorem State.setThread_reg (h : Hart) (t : Thread) (q o : Nat) : (s.setThread h t).reg q o = s.reg q o := rfl
@[simp] theorem State.setThread_effReg (h : Hart) (t : Thread) (q o : Nat) : (s.setThread h t).effReg q o = s.effReg q o := rfl
@[simp] theorem State.setThread_getFld (h : Hart) (t : Thread) (q o l n : Nat) : (s.setThread h t).getFld q o l n = s.getFld q o l n := rfl
@[simp] theorem State.setThread_lockOf (h : Hart) (t : Thread) (q : Nat) : (s.setThread h t).lockOf q = s.lockOf q := rfl
@[simp] theorem State.setThread_domain (h : Hart) (t : Thread) (q : Nat) : (s.setThread h t).domain q = s.domain q := rfl
@[simp] theorem State.setThread_array (h : Hart) (t : Thread) (q : Nat) : (s.setThread h t).array q = s.array q := rfl
@[simp] theorem State.setThread_core (h : Hart) (t : Thread) (n : Nat) : (s.setThread h t).core n = s.core n := rfl
@[simp] theorem State.setThread_bank (h : Hart) (t : Thread) (n : Nat) : (s.setThread h t).bank n = s.bank n := rfl
@[simp] theorem State.setThread_winder (h : Hart) (t : Thread) (n : Nat) : (s.setThread h t).winder n = s.winder n := rfl
@[simp] theorem State.setThread_deputy (h : Hart) (t : Thread) (n : Nat) : (s.setThread h t).deputy n = s.deputy n := rfl
@[simp] theorem State.setThread_replica (h : Hart) (t : Thread) (n : Nat) : (s.setThread h t).replica n = s.replica n := rfl
@[simp] theorem State.setThread_correlator (h : Hart) (t : Thread) (n : Nat) : (s.setThread h t).correlator n = s.correlator n := rfl

/-! ### setCore -/

@[simp] theorem State.setCore_pending (c : Nat) (v : Core) : (s.setCore c v).pending = s.pending := rfl
@[simp] theorem State.setCore_free (c : Nat) (v : Core) : (s.setCore c v).free = s.free := rfl
@[simp] theorem State.setCore_life (c : Nat) (v : Core) : (s.setCore c v).life = s.life := rfl
@[simp] theorem State.setCore_regs (c : Nat) (v : Core) : (s.setCore c v).regs = s.regs := rfl
@[simp] theorem State.setCore_eff (c : Nat) (v : Core) : (s.setCore c v).eff = s.eff := rfl
@[simp] theorem State.setCore_ivl (c : Nat) (v : Core) : (s.setCore c v).ivl = s.ivl := rfl
@[simp] theorem State.setCore_locks (c : Nat) (v : Core) : (s.setCore c v).locks = s.locks := rfl
@[simp] theorem State.setCore_dom (c : Nat) (v : Core) : (s.setCore c v).dom = s.dom := rfl
@[simp] theorem State.setCore_arr (c : Nat) (v : Core) : (s.setCore c v).arr = s.arr := rfl
@[simp] theorem State.setCore_arrReq (c : Nat) (v : Core) : (s.setCore c v).arrReq = s.arrReq := rfl
@[simp] theorem State.setCore_pwrAsked (c : Nat) (v : Core) : (s.setCore c v).pwrAsked = s.pwrAsked := rfl
@[simp] theorem State.setCore_mem (c : Nat) (v : Core) : (s.setCore c v).mem = s.mem := rfl
@[simp] theorem State.setCore_banks (c : Nat) (v : Core) : (s.setCore c v).banks = s.banks := rfl
@[simp] theorem State.setCore_threads (c : Nat) (v : Core) : (s.setCore c v).threads = s.threads := rfl
@[simp] theorem State.setCore_ons (c : Nat) (v : Core) : (s.setCore c v).ons = s.ons := rfl
@[simp] theorem State.setCore_crossings (c : Nat) (v : Core) : (s.setCore c v).crossings = s.crossings := rfl
@[simp] theorem State.setCore_tpl (c : Nat) (v : Core) : (s.setCore c v).tpl = s.tpl := rfl
@[simp] theorem State.setCore_aud (c : Nat) (v : Core) : (s.setCore c v).aud = s.aud := rfl
@[simp] theorem State.setCore_nrg (c : Nat) (v : Core) : (s.setCore c v).nrg = s.nrg := rfl
@[simp] theorem State.setCore_guard (c : Nat) (v : Core) : (s.setCore c v).guard = s.guard := rfl
@[simp] theorem State.setCore_tri (c : Nat) (v : Core) : (s.setCore c v).tri = s.tri := rfl
@[simp] theorem State.setCore_can (c : Nat) (v : Core) : (s.setCore c v).can = s.can := rfl
@[simp] theorem State.setCore_cmp (c : Nat) (v : Core) : (s.setCore c v).cmp = s.cmp := rfl
@[simp] theorem State.setCore_flips (c : Nat) (v : Core) : (s.setCore c v).flips = s.flips := rfl
@[simp] theorem State.setCore_delays (c : Nat) (v : Core) : (s.setCore c v).delays = s.delays := rfl
@[simp] theorem State.setCore_dep (c : Nat) (v : Core) : (s.setCore c v).dep = s.dep := rfl
@[simp] theorem State.setCore_cor (c : Nat) (v : Core) : (s.setCore c v).cor = s.cor := rfl
@[simp] theorem State.setCore_adit (c : Nat) (v : Core) : (s.setCore c v).adit = s.adit := rfl
@[simp] theorem State.setCore_wnd (c : Nat) (v : Core) : (s.setCore c v).wnd = s.wnd := rfl
@[simp] theorem State.setCore_scrub (c : Nat) (v : Core) : (s.setCore c v).scrub = s.scrub := rfl
@[simp] theorem State.setCore_ustoreBad (c : Nat) (v : Core) : (s.setCore c v).ustoreBad = s.ustoreBad := rfl
@[simp] theorem State.setCore_decodes (c : Nat) (v : Core) : (s.setCore c v).decodes = s.decodes := rfl
@[simp] theorem State.setCore_panels (c : Nat) (v : Core) : (s.setCore c v).panels = s.panels := rfl
@[simp] theorem State.setCore_dbg (c : Nat) (v : Core) : (s.setCore c v).dbg = s.dbg := rfl
@[simp] theorem State.setCore_emu (c : Nat) (v : Core) : (s.setCore c v).emu = s.emu := rfl
@[simp] theorem State.setCore_pci (c : Nat) (v : Core) : (s.setCore c v).pci = s.pci := rfl
@[simp] theorem State.setCore_pmcHeld (c : Nat) (v : Core) : (s.setCore c v).pmcHeld = s.pmcHeld := rfl
@[simp] theorem State.setCore_answer (c : Nat) (v : Core) : (s.setCore c v).answer = s.answer := rfl
@[simp] theorem State.setCore_bell (c : Nat) (v : Core) : (s.setCore c v).bell = s.bell := rfl
@[simp] theorem State.setCore_reg (c : Nat) (v : Core) (q o : Nat) : (s.setCore c v).reg q o = s.reg q o := rfl
@[simp] theorem State.setCore_effReg (c : Nat) (v : Core) (q o : Nat) : (s.setCore c v).effReg q o = s.effReg q o := rfl
@[simp] theorem State.setCore_getFld (c : Nat) (v : Core) (q o l n : Nat) : (s.setCore c v).getFld q o l n = s.getFld q o l n := rfl
@[simp] theorem State.setCore_lockOf (c : Nat) (v : Core) (q : Nat) : (s.setCore c v).lockOf q = s.lockOf q := rfl
@[simp] theorem State.setCore_domain (c : Nat) (v : Core) (q : Nat) : (s.setCore c v).domain q = s.domain q := rfl
@[simp] theorem State.setCore_array (c : Nat) (v : Core) (q : Nat) : (s.setCore c v).array q = s.array q := rfl
@[simp] theorem State.setCore_thread (c : Nat) (v : Core) (g : Hart) : (s.setCore c v).thread g = s.thread g := rfl
@[simp] theorem State.setCore_bank (c : Nat) (v : Core) (n : Nat) : (s.setCore c v).bank n = s.bank n := rfl
@[simp] theorem State.setCore_winder (c : Nat) (v : Core) (n : Nat) : (s.setCore c v).winder n = s.winder n := rfl
@[simp] theorem State.setCore_deputy (c : Nat) (v : Core) (n : Nat) : (s.setCore c v).deputy n = s.deputy n := rfl
@[simp] theorem State.setCore_replica (c : Nat) (v : Core) (n : Nat) : (s.setCore c v).replica n = s.replica n := rfl
@[simp] theorem State.setCore_correlator (c : Nat) (v : Core) (n : Nat) : (s.setCore c v).correlator n = s.correlator n := rfl

/-! ### setBank -/

@[simp] theorem State.setBank_pending (b : Nat) (v : Bank) : (s.setBank b v).pending = s.pending := rfl
@[simp] theorem State.setBank_free (b : Nat) (v : Bank) : (s.setBank b v).free = s.free := rfl
@[simp] theorem State.setBank_life (b : Nat) (v : Bank) : (s.setBank b v).life = s.life := rfl
@[simp] theorem State.setBank_regs (b : Nat) (v : Bank) : (s.setBank b v).regs = s.regs := rfl
@[simp] theorem State.setBank_eff (b : Nat) (v : Bank) : (s.setBank b v).eff = s.eff := rfl
@[simp] theorem State.setBank_ivl (b : Nat) (v : Bank) : (s.setBank b v).ivl = s.ivl := rfl
@[simp] theorem State.setBank_locks (b : Nat) (v : Bank) : (s.setBank b v).locks = s.locks := rfl
@[simp] theorem State.setBank_dom (b : Nat) (v : Bank) : (s.setBank b v).dom = s.dom := rfl
@[simp] theorem State.setBank_arr (b : Nat) (v : Bank) : (s.setBank b v).arr = s.arr := rfl
@[simp] theorem State.setBank_arrReq (b : Nat) (v : Bank) : (s.setBank b v).arrReq = s.arrReq := rfl
@[simp] theorem State.setBank_pwrAsked (b : Nat) (v : Bank) : (s.setBank b v).pwrAsked = s.pwrAsked := rfl
@[simp] theorem State.setBank_mem (b : Nat) (v : Bank) : (s.setBank b v).mem = s.mem := rfl
@[simp] theorem State.setBank_threads (b : Nat) (v : Bank) : (s.setBank b v).threads = s.threads := rfl
@[simp] theorem State.setBank_cores (b : Nat) (v : Bank) : (s.setBank b v).cores = s.cores := rfl
@[simp] theorem State.setBank_ons (b : Nat) (v : Bank) : (s.setBank b v).ons = s.ons := rfl
@[simp] theorem State.setBank_crossings (b : Nat) (v : Bank) : (s.setBank b v).crossings = s.crossings := rfl
@[simp] theorem State.setBank_tpl (b : Nat) (v : Bank) : (s.setBank b v).tpl = s.tpl := rfl
@[simp] theorem State.setBank_aud (b : Nat) (v : Bank) : (s.setBank b v).aud = s.aud := rfl
@[simp] theorem State.setBank_nrg (b : Nat) (v : Bank) : (s.setBank b v).nrg = s.nrg := rfl
@[simp] theorem State.setBank_guard (b : Nat) (v : Bank) : (s.setBank b v).guard = s.guard := rfl
@[simp] theorem State.setBank_tri (b : Nat) (v : Bank) : (s.setBank b v).tri = s.tri := rfl
@[simp] theorem State.setBank_can (b : Nat) (v : Bank) : (s.setBank b v).can = s.can := rfl
@[simp] theorem State.setBank_cmp (b : Nat) (v : Bank) : (s.setBank b v).cmp = s.cmp := rfl
@[simp] theorem State.setBank_flips (b : Nat) (v : Bank) : (s.setBank b v).flips = s.flips := rfl
@[simp] theorem State.setBank_delays (b : Nat) (v : Bank) : (s.setBank b v).delays = s.delays := rfl
@[simp] theorem State.setBank_dep (b : Nat) (v : Bank) : (s.setBank b v).dep = s.dep := rfl
@[simp] theorem State.setBank_cor (b : Nat) (v : Bank) : (s.setBank b v).cor = s.cor := rfl
@[simp] theorem State.setBank_adit (b : Nat) (v : Bank) : (s.setBank b v).adit = s.adit := rfl
@[simp] theorem State.setBank_wnd (b : Nat) (v : Bank) : (s.setBank b v).wnd = s.wnd := rfl
@[simp] theorem State.setBank_scrub (b : Nat) (v : Bank) : (s.setBank b v).scrub = s.scrub := rfl
@[simp] theorem State.setBank_ustoreBad (b : Nat) (v : Bank) : (s.setBank b v).ustoreBad = s.ustoreBad := rfl
@[simp] theorem State.setBank_decodes (b : Nat) (v : Bank) : (s.setBank b v).decodes = s.decodes := rfl
@[simp] theorem State.setBank_panels (b : Nat) (v : Bank) : (s.setBank b v).panels = s.panels := rfl
@[simp] theorem State.setBank_dbg (b : Nat) (v : Bank) : (s.setBank b v).dbg = s.dbg := rfl
@[simp] theorem State.setBank_emu (b : Nat) (v : Bank) : (s.setBank b v).emu = s.emu := rfl
@[simp] theorem State.setBank_pci (b : Nat) (v : Bank) : (s.setBank b v).pci = s.pci := rfl
@[simp] theorem State.setBank_pmcHeld (b : Nat) (v : Bank) : (s.setBank b v).pmcHeld = s.pmcHeld := rfl
@[simp] theorem State.setBank_answer (b : Nat) (v : Bank) : (s.setBank b v).answer = s.answer := rfl
@[simp] theorem State.setBank_bell (b : Nat) (v : Bank) : (s.setBank b v).bell = s.bell := rfl
@[simp] theorem State.setBank_reg (b : Nat) (v : Bank) (q o : Nat) : (s.setBank b v).reg q o = s.reg q o := rfl
@[simp] theorem State.setBank_effReg (b : Nat) (v : Bank) (q o : Nat) : (s.setBank b v).effReg q o = s.effReg q o := rfl
@[simp] theorem State.setBank_getFld (b : Nat) (v : Bank) (q o l n : Nat) : (s.setBank b v).getFld q o l n = s.getFld q o l n := rfl
@[simp] theorem State.setBank_lockOf (b : Nat) (v : Bank) (q : Nat) : (s.setBank b v).lockOf q = s.lockOf q := rfl
@[simp] theorem State.setBank_domain (b : Nat) (v : Bank) (q : Nat) : (s.setBank b v).domain q = s.domain q := rfl
@[simp] theorem State.setBank_array (b : Nat) (v : Bank) (q : Nat) : (s.setBank b v).array q = s.array q := rfl
@[simp] theorem State.setBank_thread (b : Nat) (v : Bank) (g : Hart) : (s.setBank b v).thread g = s.thread g := rfl
@[simp] theorem State.setBank_core (b : Nat) (v : Bank) (n : Nat) : (s.setBank b v).core n = s.core n := rfl
@[simp] theorem State.setBank_winder (b : Nat) (v : Bank) (n : Nat) : (s.setBank b v).winder n = s.winder n := rfl
@[simp] theorem State.setBank_deputy (b : Nat) (v : Bank) (n : Nat) : (s.setBank b v).deputy n = s.deputy n := rfl
@[simp] theorem State.setBank_replica (b : Nat) (v : Bank) (n : Nat) : (s.setBank b v).replica n = s.replica n := rfl
@[simp] theorem State.setBank_correlator (b : Nat) (v : Bank) (n : Nat) : (s.setBank b v).correlator n = s.correlator n := rfl

/-! ### setWinder -/

@[simp] theorem State.setWinder_pending (i : Nat) (v : Winder) : (s.setWinder i v).pending = s.pending := rfl
@[simp] theorem State.setWinder_free (i : Nat) (v : Winder) : (s.setWinder i v).free = s.free := rfl
@[simp] theorem State.setWinder_life (i : Nat) (v : Winder) : (s.setWinder i v).life = s.life := rfl
@[simp] theorem State.setWinder_regs (i : Nat) (v : Winder) : (s.setWinder i v).regs = s.regs := rfl
@[simp] theorem State.setWinder_eff (i : Nat) (v : Winder) : (s.setWinder i v).eff = s.eff := rfl
@[simp] theorem State.setWinder_ivl (i : Nat) (v : Winder) : (s.setWinder i v).ivl = s.ivl := rfl
@[simp] theorem State.setWinder_locks (i : Nat) (v : Winder) : (s.setWinder i v).locks = s.locks := rfl
@[simp] theorem State.setWinder_dom (i : Nat) (v : Winder) : (s.setWinder i v).dom = s.dom := rfl
@[simp] theorem State.setWinder_arr (i : Nat) (v : Winder) : (s.setWinder i v).arr = s.arr := rfl
@[simp] theorem State.setWinder_arrReq (i : Nat) (v : Winder) : (s.setWinder i v).arrReq = s.arrReq := rfl
@[simp] theorem State.setWinder_pwrAsked (i : Nat) (v : Winder) : (s.setWinder i v).pwrAsked = s.pwrAsked := rfl
@[simp] theorem State.setWinder_mem (i : Nat) (v : Winder) : (s.setWinder i v).mem = s.mem := rfl
@[simp] theorem State.setWinder_banks (i : Nat) (v : Winder) : (s.setWinder i v).banks = s.banks := rfl
@[simp] theorem State.setWinder_threads (i : Nat) (v : Winder) : (s.setWinder i v).threads = s.threads := rfl
@[simp] theorem State.setWinder_cores (i : Nat) (v : Winder) : (s.setWinder i v).cores = s.cores := rfl
@[simp] theorem State.setWinder_ons (i : Nat) (v : Winder) : (s.setWinder i v).ons = s.ons := rfl
@[simp] theorem State.setWinder_crossings (i : Nat) (v : Winder) : (s.setWinder i v).crossings = s.crossings := rfl
@[simp] theorem State.setWinder_tpl (i : Nat) (v : Winder) : (s.setWinder i v).tpl = s.tpl := rfl
@[simp] theorem State.setWinder_aud (i : Nat) (v : Winder) : (s.setWinder i v).aud = s.aud := rfl
@[simp] theorem State.setWinder_nrg (i : Nat) (v : Winder) : (s.setWinder i v).nrg = s.nrg := rfl
@[simp] theorem State.setWinder_guard (i : Nat) (v : Winder) : (s.setWinder i v).guard = s.guard := rfl
@[simp] theorem State.setWinder_tri (i : Nat) (v : Winder) : (s.setWinder i v).tri = s.tri := rfl
@[simp] theorem State.setWinder_can (i : Nat) (v : Winder) : (s.setWinder i v).can = s.can := rfl
@[simp] theorem State.setWinder_cmp (i : Nat) (v : Winder) : (s.setWinder i v).cmp = s.cmp := rfl
@[simp] theorem State.setWinder_flips (i : Nat) (v : Winder) : (s.setWinder i v).flips = s.flips := rfl
@[simp] theorem State.setWinder_delays (i : Nat) (v : Winder) : (s.setWinder i v).delays = s.delays := rfl
@[simp] theorem State.setWinder_dep (i : Nat) (v : Winder) : (s.setWinder i v).dep = s.dep := rfl
@[simp] theorem State.setWinder_cor (i : Nat) (v : Winder) : (s.setWinder i v).cor = s.cor := rfl
@[simp] theorem State.setWinder_adit (i : Nat) (v : Winder) : (s.setWinder i v).adit = s.adit := rfl
@[simp] theorem State.setWinder_scrub (i : Nat) (v : Winder) : (s.setWinder i v).scrub = s.scrub := rfl
@[simp] theorem State.setWinder_ustoreBad (i : Nat) (v : Winder) : (s.setWinder i v).ustoreBad = s.ustoreBad := rfl
@[simp] theorem State.setWinder_decodes (i : Nat) (v : Winder) : (s.setWinder i v).decodes = s.decodes := rfl
@[simp] theorem State.setWinder_panels (i : Nat) (v : Winder) : (s.setWinder i v).panels = s.panels := rfl
@[simp] theorem State.setWinder_dbg (i : Nat) (v : Winder) : (s.setWinder i v).dbg = s.dbg := rfl
@[simp] theorem State.setWinder_emu (i : Nat) (v : Winder) : (s.setWinder i v).emu = s.emu := rfl
@[simp] theorem State.setWinder_pci (i : Nat) (v : Winder) : (s.setWinder i v).pci = s.pci := rfl
@[simp] theorem State.setWinder_pmcHeld (i : Nat) (v : Winder) : (s.setWinder i v).pmcHeld = s.pmcHeld := rfl
@[simp] theorem State.setWinder_answer (i : Nat) (v : Winder) : (s.setWinder i v).answer = s.answer := rfl
@[simp] theorem State.setWinder_bell (i : Nat) (v : Winder) : (s.setWinder i v).bell = s.bell := rfl
@[simp] theorem State.setWinder_reg (i : Nat) (v : Winder) (q o : Nat) : (s.setWinder i v).reg q o = s.reg q o := rfl
@[simp] theorem State.setWinder_effReg (i : Nat) (v : Winder) (q o : Nat) : (s.setWinder i v).effReg q o = s.effReg q o := rfl
@[simp] theorem State.setWinder_getFld (i : Nat) (v : Winder) (q o l n : Nat) : (s.setWinder i v).getFld q o l n = s.getFld q o l n := rfl
@[simp] theorem State.setWinder_lockOf (i : Nat) (v : Winder) (q : Nat) : (s.setWinder i v).lockOf q = s.lockOf q := rfl
@[simp] theorem State.setWinder_domain (i : Nat) (v : Winder) (q : Nat) : (s.setWinder i v).domain q = s.domain q := rfl
@[simp] theorem State.setWinder_array (i : Nat) (v : Winder) (q : Nat) : (s.setWinder i v).array q = s.array q := rfl
@[simp] theorem State.setWinder_thread (i : Nat) (v : Winder) (g : Hart) : (s.setWinder i v).thread g = s.thread g := rfl
@[simp] theorem State.setWinder_core (i : Nat) (v : Winder) (n : Nat) : (s.setWinder i v).core n = s.core n := rfl
@[simp] theorem State.setWinder_bank (i : Nat) (v : Winder) (n : Nat) : (s.setWinder i v).bank n = s.bank n := rfl
@[simp] theorem State.setWinder_deputy (i : Nat) (v : Winder) (n : Nat) : (s.setWinder i v).deputy n = s.deputy n := rfl
@[simp] theorem State.setWinder_replica (i : Nat) (v : Winder) (n : Nat) : (s.setWinder i v).replica n = s.replica n := rfl
@[simp] theorem State.setWinder_correlator (i : Nat) (v : Winder) (n : Nat) : (s.setWinder i v).correlator n = s.correlator n := rfl

/-! ### setMem -/

@[simp] theorem State.setMem_pending (m : Mem) : (s.setMem m).pending = s.pending := rfl
@[simp] theorem State.setMem_free (m : Mem) : (s.setMem m).free = s.free := rfl
@[simp] theorem State.setMem_life (m : Mem) : (s.setMem m).life = s.life := rfl
@[simp] theorem State.setMem_regs (m : Mem) : (s.setMem m).regs = s.regs := rfl
@[simp] theorem State.setMem_eff (m : Mem) : (s.setMem m).eff = s.eff := rfl
@[simp] theorem State.setMem_ivl (m : Mem) : (s.setMem m).ivl = s.ivl := rfl
@[simp] theorem State.setMem_locks (m : Mem) : (s.setMem m).locks = s.locks := rfl
@[simp] theorem State.setMem_dom (m : Mem) : (s.setMem m).dom = s.dom := rfl
@[simp] theorem State.setMem_arr (m : Mem) : (s.setMem m).arr = s.arr := rfl
@[simp] theorem State.setMem_arrReq (m : Mem) : (s.setMem m).arrReq = s.arrReq := rfl
@[simp] theorem State.setMem_pwrAsked (m : Mem) : (s.setMem m).pwrAsked = s.pwrAsked := rfl
@[simp] theorem State.setMem_banks (m : Mem) : (s.setMem m).banks = s.banks := rfl
@[simp] theorem State.setMem_threads (m : Mem) : (s.setMem m).threads = s.threads := rfl
@[simp] theorem State.setMem_cores (m : Mem) : (s.setMem m).cores = s.cores := rfl
@[simp] theorem State.setMem_ons (m : Mem) : (s.setMem m).ons = s.ons := rfl
@[simp] theorem State.setMem_crossings (m : Mem) : (s.setMem m).crossings = s.crossings := rfl
@[simp] theorem State.setMem_tpl (m : Mem) : (s.setMem m).tpl = s.tpl := rfl
@[simp] theorem State.setMem_aud (m : Mem) : (s.setMem m).aud = s.aud := rfl
@[simp] theorem State.setMem_nrg (m : Mem) : (s.setMem m).nrg = s.nrg := rfl
@[simp] theorem State.setMem_guard (m : Mem) : (s.setMem m).guard = s.guard := rfl
@[simp] theorem State.setMem_tri (m : Mem) : (s.setMem m).tri = s.tri := rfl
@[simp] theorem State.setMem_can (m : Mem) : (s.setMem m).can = s.can := rfl
@[simp] theorem State.setMem_cmp (m : Mem) : (s.setMem m).cmp = s.cmp := rfl
@[simp] theorem State.setMem_flips (m : Mem) : (s.setMem m).flips = s.flips := rfl
@[simp] theorem State.setMem_delays (m : Mem) : (s.setMem m).delays = s.delays := rfl
@[simp] theorem State.setMem_dep (m : Mem) : (s.setMem m).dep = s.dep := rfl
@[simp] theorem State.setMem_cor (m : Mem) : (s.setMem m).cor = s.cor := rfl
@[simp] theorem State.setMem_adit (m : Mem) : (s.setMem m).adit = s.adit := rfl
@[simp] theorem State.setMem_wnd (m : Mem) : (s.setMem m).wnd = s.wnd := rfl
@[simp] theorem State.setMem_scrub (m : Mem) : (s.setMem m).scrub = s.scrub := rfl
@[simp] theorem State.setMem_ustoreBad (m : Mem) : (s.setMem m).ustoreBad = s.ustoreBad := rfl
@[simp] theorem State.setMem_decodes (m : Mem) : (s.setMem m).decodes = s.decodes := rfl
@[simp] theorem State.setMem_panels (m : Mem) : (s.setMem m).panels = s.panels := rfl
@[simp] theorem State.setMem_dbg (m : Mem) : (s.setMem m).dbg = s.dbg := rfl
@[simp] theorem State.setMem_emu (m : Mem) : (s.setMem m).emu = s.emu := rfl
@[simp] theorem State.setMem_pci (m : Mem) : (s.setMem m).pci = s.pci := rfl
@[simp] theorem State.setMem_pmcHeld (m : Mem) : (s.setMem m).pmcHeld = s.pmcHeld := rfl
@[simp] theorem State.setMem_answer (m : Mem) : (s.setMem m).answer = s.answer := rfl
@[simp] theorem State.setMem_bell (m : Mem) : (s.setMem m).bell = s.bell := rfl
@[simp] theorem State.setMem_reg (m : Mem) (q o : Nat) : (s.setMem m).reg q o = s.reg q o := rfl
@[simp] theorem State.setMem_effReg (m : Mem) (q o : Nat) : (s.setMem m).effReg q o = s.effReg q o := rfl
@[simp] theorem State.setMem_getFld (m : Mem) (q o l n : Nat) : (s.setMem m).getFld q o l n = s.getFld q o l n := rfl
@[simp] theorem State.setMem_lockOf (m : Mem) (q : Nat) : (s.setMem m).lockOf q = s.lockOf q := rfl
@[simp] theorem State.setMem_domain (m : Mem) (q : Nat) : (s.setMem m).domain q = s.domain q := rfl
@[simp] theorem State.setMem_array (m : Mem) (q : Nat) : (s.setMem m).array q = s.array q := rfl
@[simp] theorem State.setMem_thread (m : Mem) (g : Hart) : (s.setMem m).thread g = s.thread g := rfl
@[simp] theorem State.setMem_core (m : Mem) (n : Nat) : (s.setMem m).core n = s.core n := rfl
@[simp] theorem State.setMem_bank (m : Mem) (n : Nat) : (s.setMem m).bank n = s.bank n := rfl
@[simp] theorem State.setMem_winder (m : Mem) (n : Nat) : (s.setMem m).winder n = s.winder n := rfl
@[simp] theorem State.setMem_deputy (m : Mem) (n : Nat) : (s.setMem m).deputy n = s.deputy n := rfl
@[simp] theorem State.setMem_replica (m : Mem) (n : Nat) : (s.setMem m).replica n = s.replica n := rfl
@[simp] theorem State.setMem_correlator (m : Mem) (n : Nat) : (s.setMem m).correlator n = s.correlator n := rfl

/-! ### setAnswer -/

@[simp] theorem State.setAnswer_pending (a : BusAnswer) : (s.setAnswer a).pending = s.pending := rfl
@[simp] theorem State.setAnswer_free (a : BusAnswer) : (s.setAnswer a).free = s.free := rfl
@[simp] theorem State.setAnswer_life (a : BusAnswer) : (s.setAnswer a).life = s.life := rfl
@[simp] theorem State.setAnswer_regs (a : BusAnswer) : (s.setAnswer a).regs = s.regs := rfl
@[simp] theorem State.setAnswer_eff (a : BusAnswer) : (s.setAnswer a).eff = s.eff := rfl
@[simp] theorem State.setAnswer_ivl (a : BusAnswer) : (s.setAnswer a).ivl = s.ivl := rfl
@[simp] theorem State.setAnswer_locks (a : BusAnswer) : (s.setAnswer a).locks = s.locks := rfl
@[simp] theorem State.setAnswer_dom (a : BusAnswer) : (s.setAnswer a).dom = s.dom := rfl
@[simp] theorem State.setAnswer_arr (a : BusAnswer) : (s.setAnswer a).arr = s.arr := rfl
@[simp] theorem State.setAnswer_arrReq (a : BusAnswer) : (s.setAnswer a).arrReq = s.arrReq := rfl
@[simp] theorem State.setAnswer_pwrAsked (a : BusAnswer) : (s.setAnswer a).pwrAsked = s.pwrAsked := rfl
@[simp] theorem State.setAnswer_mem (a : BusAnswer) : (s.setAnswer a).mem = s.mem := rfl
@[simp] theorem State.setAnswer_banks (a : BusAnswer) : (s.setAnswer a).banks = s.banks := rfl
@[simp] theorem State.setAnswer_threads (a : BusAnswer) : (s.setAnswer a).threads = s.threads := rfl
@[simp] theorem State.setAnswer_cores (a : BusAnswer) : (s.setAnswer a).cores = s.cores := rfl
@[simp] theorem State.setAnswer_ons (a : BusAnswer) : (s.setAnswer a).ons = s.ons := rfl
@[simp] theorem State.setAnswer_crossings (a : BusAnswer) : (s.setAnswer a).crossings = s.crossings := rfl
@[simp] theorem State.setAnswer_tpl (a : BusAnswer) : (s.setAnswer a).tpl = s.tpl := rfl
@[simp] theorem State.setAnswer_aud (a : BusAnswer) : (s.setAnswer a).aud = s.aud := rfl
@[simp] theorem State.setAnswer_nrg (a : BusAnswer) : (s.setAnswer a).nrg = s.nrg := rfl
@[simp] theorem State.setAnswer_guard (a : BusAnswer) : (s.setAnswer a).guard = s.guard := rfl
@[simp] theorem State.setAnswer_tri (a : BusAnswer) : (s.setAnswer a).tri = s.tri := rfl
@[simp] theorem State.setAnswer_can (a : BusAnswer) : (s.setAnswer a).can = s.can := rfl
@[simp] theorem State.setAnswer_cmp (a : BusAnswer) : (s.setAnswer a).cmp = s.cmp := rfl
@[simp] theorem State.setAnswer_flips (a : BusAnswer) : (s.setAnswer a).flips = s.flips := rfl
@[simp] theorem State.setAnswer_delays (a : BusAnswer) : (s.setAnswer a).delays = s.delays := rfl
@[simp] theorem State.setAnswer_dep (a : BusAnswer) : (s.setAnswer a).dep = s.dep := rfl
@[simp] theorem State.setAnswer_cor (a : BusAnswer) : (s.setAnswer a).cor = s.cor := rfl
@[simp] theorem State.setAnswer_adit (a : BusAnswer) : (s.setAnswer a).adit = s.adit := rfl
@[simp] theorem State.setAnswer_wnd (a : BusAnswer) : (s.setAnswer a).wnd = s.wnd := rfl
@[simp] theorem State.setAnswer_scrub (a : BusAnswer) : (s.setAnswer a).scrub = s.scrub := rfl
@[simp] theorem State.setAnswer_ustoreBad (a : BusAnswer) : (s.setAnswer a).ustoreBad = s.ustoreBad := rfl
@[simp] theorem State.setAnswer_decodes (a : BusAnswer) : (s.setAnswer a).decodes = s.decodes := rfl
@[simp] theorem State.setAnswer_panels (a : BusAnswer) : (s.setAnswer a).panels = s.panels := rfl
@[simp] theorem State.setAnswer_dbg (a : BusAnswer) : (s.setAnswer a).dbg = s.dbg := rfl
@[simp] theorem State.setAnswer_emu (a : BusAnswer) : (s.setAnswer a).emu = s.emu := rfl
@[simp] theorem State.setAnswer_pci (a : BusAnswer) : (s.setAnswer a).pci = s.pci := rfl
@[simp] theorem State.setAnswer_pmcHeld (a : BusAnswer) : (s.setAnswer a).pmcHeld = s.pmcHeld := rfl
@[simp] theorem State.setAnswer_bell (a : BusAnswer) : (s.setAnswer a).bell = s.bell := rfl
@[simp] theorem State.setAnswer_reg (a : BusAnswer) (q o : Nat) : (s.setAnswer a).reg q o = s.reg q o := rfl
@[simp] theorem State.setAnswer_effReg (a : BusAnswer) (q o : Nat) : (s.setAnswer a).effReg q o = s.effReg q o := rfl
@[simp] theorem State.setAnswer_getFld (a : BusAnswer) (q o l n : Nat) : (s.setAnswer a).getFld q o l n = s.getFld q o l n := rfl
@[simp] theorem State.setAnswer_lockOf (a : BusAnswer) (q : Nat) : (s.setAnswer a).lockOf q = s.lockOf q := rfl
@[simp] theorem State.setAnswer_domain (a : BusAnswer) (q : Nat) : (s.setAnswer a).domain q = s.domain q := rfl
@[simp] theorem State.setAnswer_array (a : BusAnswer) (q : Nat) : (s.setAnswer a).array q = s.array q := rfl
@[simp] theorem State.setAnswer_thread (a : BusAnswer) (g : Hart) : (s.setAnswer a).thread g = s.thread g := rfl
@[simp] theorem State.setAnswer_core (a : BusAnswer) (n : Nat) : (s.setAnswer a).core n = s.core n := rfl
@[simp] theorem State.setAnswer_bank (a : BusAnswer) (n : Nat) : (s.setAnswer a).bank n = s.bank n := rfl
@[simp] theorem State.setAnswer_winder (a : BusAnswer) (n : Nat) : (s.setAnswer a).winder n = s.winder n := rfl
@[simp] theorem State.setAnswer_deputy (a : BusAnswer) (n : Nat) : (s.setAnswer a).deputy n = s.deputy n := rfl
@[simp] theorem State.setAnswer_replica (a : BusAnswer) (n : Nat) : (s.setAnswer a).replica n = s.replica n := rfl
@[simp] theorem State.setAnswer_correlator (a : BusAnswer) (n : Nat) : (s.setAnswer a).correlator n = s.correlator n := rfl

/-! ### setDeputy -/

@[simp] theorem State.setDeputy_pending (p : Nat) (d : Deputy) : (s.setDeputy p d).pending = s.pending := rfl
@[simp] theorem State.setDeputy_free (p : Nat) (d : Deputy) : (s.setDeputy p d).free = s.free := rfl
@[simp] theorem State.setDeputy_life (p : Nat) (d : Deputy) : (s.setDeputy p d).life = s.life := rfl
@[simp] theorem State.setDeputy_regs (p : Nat) (d : Deputy) : (s.setDeputy p d).regs = s.regs := rfl
@[simp] theorem State.setDeputy_eff (p : Nat) (d : Deputy) : (s.setDeputy p d).eff = s.eff := rfl
@[simp] theorem State.setDeputy_ivl (p : Nat) (d : Deputy) : (s.setDeputy p d).ivl = s.ivl := rfl
@[simp] theorem State.setDeputy_locks (p : Nat) (d : Deputy) : (s.setDeputy p d).locks = s.locks := rfl
@[simp] theorem State.setDeputy_dom (p : Nat) (d : Deputy) : (s.setDeputy p d).dom = s.dom := rfl
@[simp] theorem State.setDeputy_arr (p : Nat) (d : Deputy) : (s.setDeputy p d).arr = s.arr := rfl
@[simp] theorem State.setDeputy_arrReq (p : Nat) (d : Deputy) : (s.setDeputy p d).arrReq = s.arrReq := rfl
@[simp] theorem State.setDeputy_pwrAsked (p : Nat) (d : Deputy) : (s.setDeputy p d).pwrAsked = s.pwrAsked := rfl
@[simp] theorem State.setDeputy_mem (p : Nat) (d : Deputy) : (s.setDeputy p d).mem = s.mem := rfl
@[simp] theorem State.setDeputy_banks (p : Nat) (d : Deputy) : (s.setDeputy p d).banks = s.banks := rfl
@[simp] theorem State.setDeputy_threads (p : Nat) (d : Deputy) : (s.setDeputy p d).threads = s.threads := rfl
@[simp] theorem State.setDeputy_cores (p : Nat) (d : Deputy) : (s.setDeputy p d).cores = s.cores := rfl
@[simp] theorem State.setDeputy_ons (p : Nat) (d : Deputy) : (s.setDeputy p d).ons = s.ons := rfl
@[simp] theorem State.setDeputy_crossings (p : Nat) (d : Deputy) : (s.setDeputy p d).crossings = s.crossings := rfl
@[simp] theorem State.setDeputy_tpl (p : Nat) (d : Deputy) : (s.setDeputy p d).tpl = s.tpl := rfl
@[simp] theorem State.setDeputy_aud (p : Nat) (d : Deputy) : (s.setDeputy p d).aud = s.aud := rfl
@[simp] theorem State.setDeputy_nrg (p : Nat) (d : Deputy) : (s.setDeputy p d).nrg = s.nrg := rfl
@[simp] theorem State.setDeputy_guard (p : Nat) (d : Deputy) : (s.setDeputy p d).guard = s.guard := rfl
@[simp] theorem State.setDeputy_tri (p : Nat) (d : Deputy) : (s.setDeputy p d).tri = s.tri := rfl
@[simp] theorem State.setDeputy_can (p : Nat) (d : Deputy) : (s.setDeputy p d).can = s.can := rfl
@[simp] theorem State.setDeputy_cmp (p : Nat) (d : Deputy) : (s.setDeputy p d).cmp = s.cmp := rfl
@[simp] theorem State.setDeputy_flips (p : Nat) (d : Deputy) : (s.setDeputy p d).flips = s.flips := rfl
@[simp] theorem State.setDeputy_delays (p : Nat) (d : Deputy) : (s.setDeputy p d).delays = s.delays := rfl
@[simp] theorem State.setDeputy_cor (p : Nat) (d : Deputy) : (s.setDeputy p d).cor = s.cor := rfl
@[simp] theorem State.setDeputy_adit (p : Nat) (d : Deputy) : (s.setDeputy p d).adit = s.adit := rfl
@[simp] theorem State.setDeputy_wnd (p : Nat) (d : Deputy) : (s.setDeputy p d).wnd = s.wnd := rfl
@[simp] theorem State.setDeputy_scrub (p : Nat) (d : Deputy) : (s.setDeputy p d).scrub = s.scrub := rfl
@[simp] theorem State.setDeputy_ustoreBad (p : Nat) (d : Deputy) : (s.setDeputy p d).ustoreBad = s.ustoreBad := rfl
@[simp] theorem State.setDeputy_decodes (p : Nat) (d : Deputy) : (s.setDeputy p d).decodes = s.decodes := rfl
@[simp] theorem State.setDeputy_panels (p : Nat) (d : Deputy) : (s.setDeputy p d).panels = s.panels := rfl
@[simp] theorem State.setDeputy_dbg (p : Nat) (d : Deputy) : (s.setDeputy p d).dbg = s.dbg := rfl
@[simp] theorem State.setDeputy_emu (p : Nat) (d : Deputy) : (s.setDeputy p d).emu = s.emu := rfl
@[simp] theorem State.setDeputy_pci (p : Nat) (d : Deputy) : (s.setDeputy p d).pci = s.pci := rfl
@[simp] theorem State.setDeputy_pmcHeld (p : Nat) (d : Deputy) : (s.setDeputy p d).pmcHeld = s.pmcHeld := rfl
@[simp] theorem State.setDeputy_answer (p : Nat) (d : Deputy) : (s.setDeputy p d).answer = s.answer := rfl
@[simp] theorem State.setDeputy_bell (p : Nat) (d : Deputy) : (s.setDeputy p d).bell = s.bell := rfl
@[simp] theorem State.setDeputy_reg (p : Nat) (d : Deputy) (q o : Nat) : (s.setDeputy p d).reg q o = s.reg q o := rfl
@[simp] theorem State.setDeputy_effReg (p : Nat) (d : Deputy) (q o : Nat) : (s.setDeputy p d).effReg q o = s.effReg q o := rfl
@[simp] theorem State.setDeputy_getFld (p : Nat) (d : Deputy) (q o l n : Nat) : (s.setDeputy p d).getFld q o l n = s.getFld q o l n := rfl
@[simp] theorem State.setDeputy_lockOf (p : Nat) (d : Deputy) (q : Nat) : (s.setDeputy p d).lockOf q = s.lockOf q := rfl
@[simp] theorem State.setDeputy_domain (p : Nat) (d : Deputy) (q : Nat) : (s.setDeputy p d).domain q = s.domain q := rfl
@[simp] theorem State.setDeputy_array (p : Nat) (d : Deputy) (q : Nat) : (s.setDeputy p d).array q = s.array q := rfl
@[simp] theorem State.setDeputy_thread (p : Nat) (d : Deputy) (g : Hart) : (s.setDeputy p d).thread g = s.thread g := rfl
@[simp] theorem State.setDeputy_core (p : Nat) (d : Deputy) (n : Nat) : (s.setDeputy p d).core n = s.core n := rfl
@[simp] theorem State.setDeputy_bank (p : Nat) (d : Deputy) (n : Nat) : (s.setDeputy p d).bank n = s.bank n := rfl
@[simp] theorem State.setDeputy_winder (p : Nat) (d : Deputy) (n : Nat) : (s.setDeputy p d).winder n = s.winder n := rfl
@[simp] theorem State.setDeputy_replica (p : Nat) (d : Deputy) (n : Nat) : (s.setDeputy p d).replica n = s.replica n := rfl
@[simp] theorem State.setDeputy_correlator (p : Nat) (d : Deputy) (n : Nat) : (s.setDeputy p d).correlator n = s.correlator n := rfl

/-! ### setReplica -/

@[simp] theorem State.setReplica_pending (r : Nat) (v : Replica) : (s.setReplica r v).pending = s.pending := rfl
@[simp] theorem State.setReplica_free (r : Nat) (v : Replica) : (s.setReplica r v).free = s.free := rfl
@[simp] theorem State.setReplica_life (r : Nat) (v : Replica) : (s.setReplica r v).life = s.life := rfl
@[simp] theorem State.setReplica_regs (r : Nat) (v : Replica) : (s.setReplica r v).regs = s.regs := rfl
@[simp] theorem State.setReplica_eff (r : Nat) (v : Replica) : (s.setReplica r v).eff = s.eff := rfl
@[simp] theorem State.setReplica_ivl (r : Nat) (v : Replica) : (s.setReplica r v).ivl = s.ivl := rfl
@[simp] theorem State.setReplica_locks (r : Nat) (v : Replica) : (s.setReplica r v).locks = s.locks := rfl
@[simp] theorem State.setReplica_dom (r : Nat) (v : Replica) : (s.setReplica r v).dom = s.dom := rfl
@[simp] theorem State.setReplica_arr (r : Nat) (v : Replica) : (s.setReplica r v).arr = s.arr := rfl
@[simp] theorem State.setReplica_arrReq (r : Nat) (v : Replica) : (s.setReplica r v).arrReq = s.arrReq := rfl
@[simp] theorem State.setReplica_pwrAsked (r : Nat) (v : Replica) : (s.setReplica r v).pwrAsked = s.pwrAsked := rfl
@[simp] theorem State.setReplica_mem (r : Nat) (v : Replica) : (s.setReplica r v).mem = s.mem := rfl
@[simp] theorem State.setReplica_banks (r : Nat) (v : Replica) : (s.setReplica r v).banks = s.banks := rfl
@[simp] theorem State.setReplica_threads (r : Nat) (v : Replica) : (s.setReplica r v).threads = s.threads := rfl
@[simp] theorem State.setReplica_cores (r : Nat) (v : Replica) : (s.setReplica r v).cores = s.cores := rfl
@[simp] theorem State.setReplica_ons (r : Nat) (v : Replica) : (s.setReplica r v).ons = s.ons := rfl
@[simp] theorem State.setReplica_crossings (r : Nat) (v : Replica) : (s.setReplica r v).crossings = s.crossings := rfl
@[simp] theorem State.setReplica_tpl (r : Nat) (v : Replica) : (s.setReplica r v).tpl = s.tpl := rfl
@[simp] theorem State.setReplica_aud (r : Nat) (v : Replica) : (s.setReplica r v).aud = s.aud := rfl
@[simp] theorem State.setReplica_nrg (r : Nat) (v : Replica) : (s.setReplica r v).nrg = s.nrg := rfl
@[simp] theorem State.setReplica_guard (r : Nat) (v : Replica) : (s.setReplica r v).guard = s.guard := rfl
@[simp] theorem State.setReplica_can (r : Nat) (v : Replica) : (s.setReplica r v).can = s.can := rfl
@[simp] theorem State.setReplica_cmp (r : Nat) (v : Replica) : (s.setReplica r v).cmp = s.cmp := rfl
@[simp] theorem State.setReplica_flips (r : Nat) (v : Replica) : (s.setReplica r v).flips = s.flips := rfl
@[simp] theorem State.setReplica_delays (r : Nat) (v : Replica) : (s.setReplica r v).delays = s.delays := rfl
@[simp] theorem State.setReplica_dep (r : Nat) (v : Replica) : (s.setReplica r v).dep = s.dep := rfl
@[simp] theorem State.setReplica_cor (r : Nat) (v : Replica) : (s.setReplica r v).cor = s.cor := rfl
@[simp] theorem State.setReplica_adit (r : Nat) (v : Replica) : (s.setReplica r v).adit = s.adit := rfl
@[simp] theorem State.setReplica_wnd (r : Nat) (v : Replica) : (s.setReplica r v).wnd = s.wnd := rfl
@[simp] theorem State.setReplica_scrub (r : Nat) (v : Replica) : (s.setReplica r v).scrub = s.scrub := rfl
@[simp] theorem State.setReplica_ustoreBad (r : Nat) (v : Replica) : (s.setReplica r v).ustoreBad = s.ustoreBad := rfl
@[simp] theorem State.setReplica_decodes (r : Nat) (v : Replica) : (s.setReplica r v).decodes = s.decodes := rfl
@[simp] theorem State.setReplica_panels (r : Nat) (v : Replica) : (s.setReplica r v).panels = s.panels := rfl
@[simp] theorem State.setReplica_dbg (r : Nat) (v : Replica) : (s.setReplica r v).dbg = s.dbg := rfl
@[simp] theorem State.setReplica_emu (r : Nat) (v : Replica) : (s.setReplica r v).emu = s.emu := rfl
@[simp] theorem State.setReplica_pci (r : Nat) (v : Replica) : (s.setReplica r v).pci = s.pci := rfl
@[simp] theorem State.setReplica_pmcHeld (r : Nat) (v : Replica) : (s.setReplica r v).pmcHeld = s.pmcHeld := rfl
@[simp] theorem State.setReplica_answer (r : Nat) (v : Replica) : (s.setReplica r v).answer = s.answer := rfl
@[simp] theorem State.setReplica_bell (r : Nat) (v : Replica) : (s.setReplica r v).bell = s.bell := rfl
@[simp] theorem State.setReplica_reg (r : Nat) (v : Replica) (q o : Nat) : (s.setReplica r v).reg q o = s.reg q o := rfl
@[simp] theorem State.setReplica_effReg (r : Nat) (v : Replica) (q o : Nat) : (s.setReplica r v).effReg q o = s.effReg q o := rfl
@[simp] theorem State.setReplica_getFld (r : Nat) (v : Replica) (q o l n : Nat) : (s.setReplica r v).getFld q o l n = s.getFld q o l n := rfl
@[simp] theorem State.setReplica_lockOf (r : Nat) (v : Replica) (q : Nat) : (s.setReplica r v).lockOf q = s.lockOf q := rfl
@[simp] theorem State.setReplica_domain (r : Nat) (v : Replica) (q : Nat) : (s.setReplica r v).domain q = s.domain q := rfl
@[simp] theorem State.setReplica_array (r : Nat) (v : Replica) (q : Nat) : (s.setReplica r v).array q = s.array q := rfl
@[simp] theorem State.setReplica_thread (r : Nat) (v : Replica) (g : Hart) : (s.setReplica r v).thread g = s.thread g := rfl
@[simp] theorem State.setReplica_core (r : Nat) (v : Replica) (n : Nat) : (s.setReplica r v).core n = s.core n := rfl
@[simp] theorem State.setReplica_bank (r : Nat) (v : Replica) (n : Nat) : (s.setReplica r v).bank n = s.bank n := rfl
@[simp] theorem State.setReplica_winder (r : Nat) (v : Replica) (n : Nat) : (s.setReplica r v).winder n = s.winder n := rfl
@[simp] theorem State.setReplica_deputy (r : Nat) (v : Replica) (n : Nat) : (s.setReplica r v).deputy n = s.deputy n := rfl
@[simp] theorem State.setReplica_correlator (r : Nat) (v : Replica) (n : Nat) : (s.setReplica r v).correlator n = s.correlator n := rfl

/-! ### Reading what was set -/

theorem hartKey_inj {g h : Hart} (e : hartKey g = hartKey h) : g = h := by
  obtain ⟨c, t⟩ := g
  obtain ⟨d, u⟩ := h
  simp only [hartKey] at e
  have h1 : c = d := Fin.ext (by omega)
  have h2 : t = u := Fin.ext (by omega)
  rw [h1, h2]

@[simp] theorem State.thread_setThread_same (h : Hart) (t : Thread) : (s.setThread h t).thread h = t := by
  simp [State.thread, State.setThread]

theorem State.thread_setThread_other {g h : Hart} (t : Thread) (n : g ≠ h) : (s.setThread h t).thread g = s.thread g :=
  sparseGet_set_other _ _ _ _ fun e => n (hartKey_inj e)

@[simp] theorem State.core_setCore_same (c : Nat) (v : Core) : (s.setCore c v).core c = v := by simp [State.core, State.setCore]

theorem State.core_setCore_other {b c : Nat} (v : Core) (n : b ≠ c) : (s.setCore c v).core b = s.core b :=
  sparseGet_set_other _ _ _ _ n

@[simp] theorem State.bank_setBank_same (b : Nat) (v : Bank) : (s.setBank b v).bank b = v := by simp [State.bank, State.setBank]

theorem State.bank_setBank_other {a b : Nat} (v : Bank) (n : a ≠ b) : (s.setBank b v).bank a = s.bank a :=
  sparseGet_set_other _ _ _ _ n

@[simp] theorem State.winder_setWinder_same (i : Nat) (v : Winder) : (s.setWinder i v).winder i = v := by
  simp [State.winder, State.setWinder]

theorem State.winder_setWinder_other {i j : Nat} (v : Winder) (n : i ≠ j) : (s.setWinder j v).winder i = s.winder i :=
  sparseGet_set_other _ _ _ _ n

@[simp] theorem State.deputy_setDeputy_same (p : Nat) (d : Deputy) : (s.setDeputy p d).deputy p = d := by
  simp [State.deputy, State.setDeputy]

theorem State.deputy_setDeputy_other {p q : Nat} (d : Deputy) (n : p ≠ q) : (s.setDeputy q d).deputy p = s.deputy p :=
  sparseGet_set_other _ _ _ _ n

@[simp] theorem State.replica_setReplica_same (r : Nat) (v : Replica) : (s.setReplica r v).replica r = v := by
  simp [State.replica, State.setReplica]

theorem State.replica_setReplica_other {q r : Nat} (v : Replica) (n : q ≠ r) : (s.setReplica r v).replica q = s.replica q :=
  sparseGet_set_other _ _ _ _ n

@[simp] theorem State.lockOf_setLock_same (p : Nat) (l : PageLock) : (s.setLock p l).lockOf p = l := by simp [State.lockOf, State.setLock]

theorem State.lockOf_setLock_other {p q : Nat} (l : PageLock) (n : p ≠ q) : (s.setLock q l).lockOf p = s.lockOf p :=
  sparseGet_set_other _ _ _ _ n

/-! ### Registers -/

theorem regKey_inj {p off q o : Nat} (h1 : off % 4 = 0) (h2 : off < 0x800) (h3 : o % 4 = 0) (h4 : o < 0x800)
    (e : regKey p off = regKey q o) : p = q ∧ off = o := by
  simp only [regKey] at e
  omega

@[simp] theorem State.reg_setReg_same (p off : Nat) (v : W32) : (s.setReg p off v).reg p off = v := by simp [State.reg, State.setReg]

theorem State.reg_setReg_key {p off q o : Nat} (v : W32) (n : regKey p off ≠ regKey q o) : (s.setReg q o v).reg p off = s.reg p off :=
  sparseGet_set_other _ _ _ _ n

theorem State.reg_setReg_other {p off q o : Nat} (v : W32) (h1 : off % 4 = 0) (h2 : off < 0x800) (h3 : o % 4 = 0) (h4 : o < 0x800)
    (n : ¬(p = q ∧ off = o)) : (s.setReg q o v).reg p off = s.reg p off :=
  s.reg_setReg_key v fun e => n (regKey_inj h1 h2 h3 h4 e)

end Sys2Proof.Machine
end

