-- ==== Sys2Proof/Laws/Settle.lean ====
section
/-!
SUPPORT. Sys2Proof/Laws/Settle.lean: what follows a command changes: the Bell, the trace and free values, registers of the pairs, and on
SAFE or a lockup the counters and a halt request; nothing else (`SameBut`).
-/

namespace Sys2Proof.Safety

open Sys2Proof.Machine

/-! ### SameBut as a relation -/

theorem SameBut.refl (x : Nat → Nat → Bool) (s : State) : SameBut x s s := ⟨rfl, fun _ _ _ _ _ => rfl⟩

theorem SameBut.trans {x : Nat → Nat → Bool} {a b c : State} (h : SameBut x a b) (k : SameBut x b c) : SameBut x a c := by
  refine ⟨?_, fun p off h1 h2 h3 => (k.2 p off h1 h2 h3).trans (h.2 p off h1 h2 h3)⟩
  have h1 := h.1
  have k1 := k.1
  rw [k1, h1]

theorem SameBut.weaken {a b : State} (h : SameBut bellReg a b) : SameBut sideReg a b :=
  ⟨h.1, fun p off h1 h2 h3 => h.2 p off h1 h2 (by simp [sideReg] at h3; exact h3.1.1)⟩

theorem SameBut.setReg {x : Nat → Nat → Bool} (s : State) (p off : Nat) (v : W32) (h1 : off % 4 = 0) (h2 : off < 0x800)
    (h : x p off = true) : SameBut x s (s.setReg p off v) := by
  refine ⟨rfl, fun q o k1 k2 k3 => s.reg_setReg_other v k1 k2 h1 h2 ?_⟩
  rintro ⟨rfl, rfl⟩
  simp [h] at k3

theorem SameBut.setFld {x : Nat → Nat → Bool} (s : State) (p off lo w v : Nat) (h1 : off % 4 = 0) (h2 : off < 0x800)
    (h : x p off = true) : SameBut x s (s.setFld p off lo w v) := SameBut.setReg s p off _ h1 h2 h

theorem SameBut.free (x : Nat → Nat → Bool) (s : State) (n : Nat) : SameBut x s { s with free := n } := ⟨rfl, fun _ _ _ _ _ => rfl⟩

theorem SameBut.bell (x : Nat → Nat → Bool) (s : State) (n : List Nat) : SameBut x s { s with bell := n } := ⟨rfl, fun _ _ _ _ _ => rfl⟩

theorem SameBut.foldl {α : Type} {x : Nat → Nat → Bool} (f : State → α → State) (h : ∀ s a, SameBut x s (f s a)) (l : List α) (s : State) :
    SameBut x s (l.foldl f s) := by
  induction l generalizing s with
  | nil => exact SameBut.refl x s
  | cons a rest ih => exact (h s a).trans (ih (f s a))

/-! ### The counters -/

theorem side_pmc {p off : Nat} (h : 0x360 ≤ p ∧ p < 0x386) : sideReg p off = true := by simp [sideReg, h]

theorem pmcSet_same (i k v : Nat) (hi : i < 38) (hk : k < 8) (s : State) : SameBut sideReg s (pmcSet i k v s) := by
  refine (SameBut.setReg s _ _ _ (by omega) (by omega) (side_pmc ?_)).trans
    (SameBut.setReg _ _ _ _ (by omega) (by omega) (side_pmc ?_)) <;> simp [pgPmc] <;> omega

theorem pmcAdvance_same (i k : Nat) (hi : i < 38) (hk : k < 8) (s : State) : SameBut sideReg s (pmcAdvance i k s) := by
  unfold pmcAdvance
  split
  · exact (SameBut.free _ s _).trans (pmcSet_same i k _ hi hk _)
  · exact SameBut.refl _ s

theorem pmcCycle_same (i : Nat) (hi : i < 38) (s : State) : SameBut sideReg s (pmcCycle i s) := by
  unfold pmcCycle
  split
  · refine (SameBut.free _ s _).trans ((SameBut.setReg _ _ _ _ (by omega) (by omega) (side_pmc ?_)).trans
      (SameBut.setReg _ _ _ _ (by omega) (by omega) (side_pmc ?_))) <;> simp [pgPmc] <;> omega
  · exact SameBut.refl _ s

theorem pmcK_le (i : Nat) : pmcK i ≤ 8 := by unfold pmcK; split <;> [omega; (split <;> omega)]

theorem SameBut.range {x : Nat → Nat → Bool} (n : Nat) (f : State → Nat → State) (h : ∀ s k, k < n → SameBut x s (f s k)) (s : State) :
    SameBut x s ((List.range n).foldl f s) := by
  have : ∀ (l : List Nat) (s : State), (∀ k ∈ l, k < n) → SameBut x s (l.foldl f s) := by
    intro l
    induction l with
    | nil => intro s _; exact SameBut.refl x s
    | cons a rest ih =>
      intro s hl
      exact (h s a (hl a (by simp))).trans (ih _ fun k hk => hl k (by simp [hk]))
  exact this _ s fun k hk => by simpa using hk

theorem pmcAdvanceAll_same (s : State) : SameBut sideReg s (pmcAdvanceAll s) := by
  refine SameBut.range 36 _ (fun s i hi => ?_) s
  refine (pmcCycle_same (i + 1) (by omega) s).trans (SameBut.range _ _ (fun s k hk => ?_) _)
  exact pmcAdvance_same (i + 1) k (by omega) (by have := pmcK_le (i + 1); omega) s

theorem pmcFreeze_same (s : State) : SameBut sideReg s (pmcFreeze s) := by
  unfold pmcFreeze
  split
  · exact SameBut.refl _ s
  · exact (pmcAdvanceAll_same s).trans ((SameBut.setFld _ _ _ _ _ _ (by omega) (by omega) (side_pmc (by simp [pgPmc]))).trans
      (SameBut.setFld _ _ _ _ _ _ (by omega) (by omega) (side_pmc (by simp [pgPmc]))))

theorem pmcOverflow_same (i k : Nat) (hi : i < 38) (s : State) : SameBut sideReg s (pmcOverflow i k s) := by
  have h : SameBut sideReg s (s.setEvt (pgPmc i) (k + 1)) :=
    SameBut.setFld s _ _ _ _ _ (by omega) (by omega) (side_pmc (by simp [pgPmc]; omega))
  unfold pmcOverflow
  dsimp only
  split
  · exact h.trans (pmcFreeze_same _)
  · exact h

/-- Counting an event changes the counters' pages and free values only. -/
theorem pmcEvent_same (i code n t : Nat) (hi : i < 38) (s : State) : SameBut sideReg s (pmcEvent i code n t s) := by
  refine SameBut.range _ _ (fun s k hk => ?_) s
  have h8 : k < 8 := by have := pmcK_le i; omega
  dsimp only
  split
  · split
    · exact (pmcSet_same i k _ hi h8 s).trans (pmcOverflow_same i k hi _)
    · exact pmcSet_same i k _ hi h8 s
  · exact SameBut.refl _ s

/-! ### The trace, the pairs and a halt -/

theorem traceOne_same (step e : Nat) (level : Bool) (s : State) : SameBut bellReg s (traceOne step e level s) := by
  unfold traceOne
  dsimp only
  split
  · exact SameBut.refl _ s
  · split
    · exact SameBut.setFld s _ _ _ _ _ (by omega) (by omega) (by simp [bellReg])
    · exact ⟨rfl, fun _ _ _ _ _ => rfl⟩

theorem stepNow_same (x : Nat → Nat → Bool) (s : State) : SameBut x s (stepNow s).2 := by
  unfold stepNow
  split
  · exact SameBut.free _ s _
  · exact SameBut.refl _ s

theorem traceChanges_same (a b : List Nat) (s : State) : SameBut bellReg s (traceChanges a b s) := by
  unfold traceChanges
  dsimp only
  split
  · exact SameBut.refl _ s
  · exact (stepNow_same _ s).trans (SameBut.foldl _ (fun s e => traceOne_same _ e _ s) _ _)

theorem haltRequest_same (s : State) : SameBut sideReg s (haltRequest s) := by
  unfold haltRequest
  split
  · unfold haltAsk
    split
    · exact SameBut.refl _ s
    · exact (SameBut.setFld s _ _ _ _ _ (by omega) (by omega) (by simp [sideReg])).trans
        (SameBut.setFld _ _ _ _ _ _ (by omega) (by omega) (by simp [sideReg]))
  · exact SameBut.refl _ s

theorem safeEntered_same (s : State) : SameBut sideReg s (safeEntered s) := by
  have h : SameBut sideReg s (if bit (s.reg (pgPmc 0) 0x040) 5 then pmcFreeze s else s) := by
    split
    · exact pmcFreeze_same s
    · exact SameBut.refl _ s
  have k (u : State) : SameBut sideReg u (if bit (u.reg pgDbg 0x080) 4 then haltRequest u else u) := by
    split
    · exact haltRequest_same u
    · exact SameBut.refl _ u
  exact h.trans (k _)

theorem bell_dep {p off : Nat} (h : p < 128) (k : off = 0x060 ∨ off = 0x064) : bellReg (pgDep p) off = true := by
  have : 0x180 ≤ pgDep p ∧ pgDep p < 0x200 := by simp [pgDep]; omega
  simp [bellReg, this, k]

theorem ringPair_same (p : Nat) (hp : p < 128) (s : State) : SameBut bellReg s (ringPair p s) := by
  unfold ringPair
  split
  · exact SameBut.refl _ s
  · split
    · exact SameBut.refl _ s
    · have h := SameBut.setReg (x := bellReg) s (pgDep p) 0x064 (w32 ‹Nat›) (by omega) (by omega) (bell_dep hp (.inr rfl))
      refine h.trans ?_
      unfold depPend
      split
      · exact SameBut.refl _ _
      · exact SameBut.setFld _ _ _ _ _ _ (by omega) (by omega) (bell_dep hp (.inl rfl))

theorem mem_insertRising {x y : Nat} {l : List Nat} : y ∈ insertRising x l ↔ y = x ∨ y ∈ l := by
  induction l with
  | nil => simp [insertRising]
  | cons z rest ih =>
    unfold insertRising
    split
    · simp
    · split
      · next h => subst h; simp
      · simp only [List.mem_cons, ih]; tauto

theorem fld_lt {n : Nat} (v : BitVec n) (lo w : Nat) : fld v lo w < 2 ^ w := Nat.mod_lt _ (Nat.two_pow_pos w)

theorem routeTarget_pair {e p : Nat} {s : State} (h : routeTarget e s = some (.pair p)) : p < 128 := by
  unfold routeTarget at h
  dsimp only at h
  split at h
  · cases h
  · split at h
    · cases h
    · cases h
    · injection h with h
      injection h with h
      rw [← h]
      exact fld_lt _ 0 7
    · cases h

theorem rungPairs_lt (s : State) : ∀ p ∈ rungPairs s, p < 128 := by
  have : ∀ (l acc : List Nat), (∀ p ∈ acc, p < 128) →
      ∀ p ∈ l.foldl (fun acc e => match routeTarget e s with
        | some (.pair p) => insertRising p acc
        | _ => acc) acc, p < 128 := by
    intro l
    induction l with
    | nil => intro acc h; exact h
    | cons e rest ih =>
      intro acc h
      refine ih _ ?_
      dsimp only
      split
      · next q hq =>
        intro p hp
        rcases mem_insertRising.mp hp with rfl | hp
        · exact routeTarget_pair hq
        · exact h p hp
      · exact h
  exact this _ _ (by simp)

theorem ringPairs_same (s : State) (l : List Nat) (hl : ∀ p ∈ l, p < 128) :
    SameBut bellReg s (l.foldl (fun s p => ringPair p s) s) := by
  induction l generalizing s with
  | nil => exact SameBut.refl _ s
  | cons p rest ih => exact (ringPair_same p (hl p (by simp)) s).trans (ih _ fun q hq => hl q (by simp [hq]))

/-- The part of `settle` that every command runs but in a halt. -/
theorem settleBell_same (old now : List Nat) (s : State) :
    SameBut bellReg s
      (if halted s then s
       else
       let s := { traceChanges old now s with bell := now }
       let s := (rungPairs s).foldl (fun s p => ringPair p s) s
       { s with bell := bellLevels s }) := by
  split
  · exact SameBut.refl _ s
  · exact ((traceChanges_same old now s).trans (SameBut.bell _ _ now)).trans
      ((ringPairs_same _ _ (rungPairs_lt _)).trans (SameBut.bell _ _ _))

/-- What follows a command changes only what `SameBut sideReg` leaves open. -/
theorem settle_same (old s : State) : SameBut sideReg s (settle old s) := by
  have h1 : SameBut sideReg s (if !old.guard.safe && s.guard.safe then safeEntered s else s) := by
    split
    · exact safeEntered_same s
    · exact SameBut.refl _ s
  refine h1.trans ?_
  have h2 (u : State) : SameBut sideReg u
      (if (lockups u).any (fun c => !(old.core c).lockup) && bit (u.reg pgDbg 0x080) 5 then haltRequest u else u) := by
    split
    · exact haltRequest_same u
    · exact SameBut.refl _ u
  exact (h2 _).trans (settleBell_same _ _ _).weaken

/-- Where a command neither enters SAFE nor brings a core into lockup, only the Bell and the trace follow it. -/
theorem settle_quiet (old s : State) (h : s.guard.safe = old.guard.safe) (k : ∀ c, (s.core c).lockup = true → (old.core c).lockup = true) :
    SameBut bellReg s (settle old s) := by
  have h1 : (!old.guard.safe && s.guard.safe) = false := by rw [h]; cases old.guard.safe <;> rfl
  have h2 : (lockups s).any (fun c => !(old.core c).lockup) = false := by
    rw [List.any_eq_false]
    intro c hc
    simp [lockups] at hc
    simp [k c hc.2]
  unfold settle
  simp only [h1, h2, Bool.false_and, Bool.false_eq_true, if_false]
  exact settleBell_same _ _ _

theorem commit_reaches (f : State → State) (s : State) : ∃ t, commit f s = .next t ∧ SameBut sideReg (f s) t :=
  ⟨_, rfl, settle_same _ _⟩

theorem commit_answers (f : State → State) (s : State) (h : (f s).guard.safe = s.guard.safe)
    (k : ∀ c, ((f s).core c).lockup = true → (s.core c).lockup = true) : ∃ t, commit f s = .next t ∧ SameBut bellReg (f s) t :=
  ⟨_, rfl, settle_quiet _ _ h k⟩

end Sys2Proof.Safety
end

