-- ==== Sys2Proof/Laws/Bundle.lean ====
section
/-!
SUPPORT. Sys2Proof/Laws/Bundle.lean: what issuing one syllable as a bundle does.
-/

namespace Sys2Proof.Safety

open Sys2Proof.Machine

/-! ### Words -/

theorem sylWord_toNat (stop : Bool) {slot opc opnd : Nat} (h1 : slot < 4) (h2 : opc < 128) (h3 : opnd < 0x400000) :
    (sylWord stop slot opc opnd).toNat = b2n stop * 0x80000000 + slot * 0x20000000 + opc * 0x400000 + opnd := by
  have : b2n stop ≤ 1 := by cases stop <;> simp [b2n]
  simp only [sylWord, w32, BitVec.toNat_ofNat]
  omega

theorem fld_eq {n : Nat} (v : BitVec n) (lo w : Nat) : fld v lo w = v.toNat / 2 ^ lo % 2 ^ w := by
  simp [fld, Nat.shiftRight_eq_div_pow]

/-- The fields of a syllable's word (R97). -/
theorem sylWord_fields (stop : Bool) {slot opc opnd : Nat} (h1 : slot < 4) (h2 : opc < 128) (h3 : opnd < 0x400000) :
    fld (sylWord stop slot opc opnd) 29 2 = slot ∧ fld (sylWord stop slot opc opnd) 22 7 = opc
      ∧ fld (sylWord stop slot opc opnd) 0 22 = opnd ∧ (sylWord stop slot opc opnd).truncate 22 = BitVec.ofNat 22 opnd
      ∧ bit (sylWord stop slot opc opnd) 31 = stop := by
  have h := sylWord_toNat stop h1 h2 h3
  have hb : b2n stop ≤ 1 := by cases stop <;> simp [b2n]
  generalize sylWord stop slot opc opnd = v at *
  refine ⟨?_, ?_, ?_, ?_, ?_⟩
  · rw [fld_eq]; omega
  · rw [fld_eq]; omega
  · rw [fld_eq]; omega
  · apply BitVec.eq_of_toNat_eq
    simp only [BitVec.truncate_eq_setWidth, BitVec.toNat_setWidth, BitVec.toNat_ofNat]
    omega
  · have k : v.toNat / 2 ^ 31 = b2n stop := by omega
    rw [bit, BitVec.getLsbD, Nat.testBit_eq_decide_div_mod_eq, k]
    cases stop <;> simp [b2n]

/-- The syllable of a command (R97, R106). -/
def sylOf (i : Issue) (slot opc opnd : Nat) : Syl := ⟨slot, opc, BitVec.ofNat 22 opnd, i.ext.map BitVec.toNat⟩

theorem isExt_sylWord {slot opc opnd : Nat} (h1 : slot < 4) (h2 : opc < 128) (h3 : opnd < 0x400000) (ne : ¬(slot = 3 ∧ opc = 0x7F))
    (b : Bool) : isExt (sylWord b slot opc opnd) = false := by
  simp only [isExt, (sylWord_fields b h1 h2 h3).1, (sylWord_fields b h1 h2 h3).2.1]
  simpa using ne

theorem scanWord_first {slot opc opnd : Nat} (h1 : slot < 4) (h2 : opc < 128) (h3 : opnd < 0x400000) (ne : ¬(slot = 3 ∧ opc = 0x7F))
    (ht : twice (writesOf ⟨slot, opc, BitVec.ofNat 22 opnd, none⟩) [] = false) (b : Bool) :
    scanWord ⟨[], false, false⟩ (sylWord b slot opc opnd) = .ok ⟨[⟨slot, opc, BitVec.ofNat 22 opnd, none⟩], false, false⟩ := by
  have nx := isExt_sylWord h1 h2 h3 ne b
  have f := sylWord_fields b h1 h2 h3
  simp only [scanWord, nx, f.1, f.2.1, f.2.2.2.1]
  simp [ht]

theorem scanWord_ext {slot opc opnd : Nat} (l : BitVec 22) (e : extendable ⟨slot, opc, BitVec.ofNat 22 opnd, none⟩ = true) :
    scanWord ⟨[⟨slot, opc, BitVec.ofNat 22 opnd, none⟩], false, false⟩ (sylWord true 3 0x7F l.toNat)
      = .ok ⟨[⟨slot, opc, BitVec.ofNat 22 opnd, some l.toNat⟩], true, true⟩ := by
  have f := sylWord_fields true (by omega : 3 < 4) (by omega : 0x7F < 128) (by have := l.isLt; omega : l.toNat < 0x400000)
  have e1 : isExt (sylWord true 3 0x7F l.toNat) = true := by simp [isExt, f.1, f.2.1]
  simp only [scanWord, e1, e, f.2.2.1]
  rfl

/-- The words of a command that ends its bundle decode to its syllable alone (R97, R105, R106). -/
theorem bundleSyls_one (i : Issue) {slot opc opnd : Nat} (hs : i.stop = true) (h1 : slot < 4) (h2 : opc < 128) (h3 : opnd < 0x400000)
    (ne : ¬(slot = 3 ∧ opc = 0x7F)) (he : i.ext.isSome = true → extendable ⟨slot, opc, BitVec.ofNat 22 opnd, none⟩ = true)
    (ht : twice (writesOf ⟨slot, opc, BitVec.ofNat 22 opnd, none⟩) [] = false) :
    bundleSyls (issueWords i slot opc opnd) = .ok [sylOf i slot opc opnd] := by
  cases hx : i.ext with
  | none =>
    have f := sylWord_fields true h1 h2 h3
    have one := scanWord_first h1 h2 h3 ne ht true
    simp only [bundleSyls, issueWords, sylOf, hx, hs, List.any_cons, List.any_nil, f.2.2.2.2, scanWords, one]
    rfl
  | some l =>
    have f := sylWord_fields true (by omega : 3 < 4) (by omega : 0x7F < 128) (by have := l.isLt; omega : l.toNat < 0x400000)
    have one := scanWord_first h1 h2 h3 ne ht false
    have two := scanWord_ext l (he (by simp [hx]))
    simp only [bundleSyls, issueWords, sylOf, hx, hs, List.any_cons, List.any_nil, f.2.2.2.2, scanWords, one, two, Bool.or_true, Bool.true_or,
      if_true]
    rfl

theorem issueWords_length (i : Issue) (slot opc opnd : Nat) : (issueWords i slot opc opnd).length = 1 + b2n i.ext.isSome := by
  unfold issueWords
  cases i.ext <;> simp [b2n]

/-! ### The thread at work -/

theorem sparseErase_absent {α : Type} (m : Sparse α) (k : Nat) (h : ∀ x ∈ m, x.1 ≠ k) : sparseErase m k = m := by
  induction m with
  | nil => rfl
  | cons x rest ih =>
    obtain ⟨i, v⟩ := x
    have : i ≠ k := h (i, v) (by simp)
    simp [sparseErase, this, ih fun x hx => h x (by simp [hx])]

theorem sparseErase_insert {α : Type} (m : Sparse α) (k : Nat) (v : α) (h : ∀ x ∈ m, x.1 ≠ k) : sparseErase (sparseInsert m k v) k = m := by
  induction m with
  | nil => simp [sparseInsert, sparseErase]
  | cons x rest ih =>
    obtain ⟨i, w⟩ := x
    have hi : i ≠ k := h (i, w) (by simp)
    have hr : ∀ x ∈ rest, x.1 ≠ k := fun x hx => h x (by simp [hx])
    by_cases hk : k < i
    · simp [sparseInsert, hk, sparseErase, hi, sparseErase_absent rest k hr]
    · simp [sparseInsert, hk, sparseErase, hi, ih hr]

theorem sparseSet_set {α : Type} [DecidableEq α] (d : α) (m : Sparse α) (k : Nat) (v w : α) :
    sparseSet d (sparseSet d m k v) k w = sparseSet d m k w := by
  have e : sparseErase (sparseSet d m k v) k = sparseErase m k := by
    unfold sparseSet
    split
    · exact sparseErase_absent _ k (sparseErase_ne m k)
    · exact sparseErase_insert _ k v (sparseErase_ne m k)
  simp only [sparseSet] at e ⊢
  rw [e]

@[simp] theorem setThread_setThread (s : State) (h : Hart) (t u : Thread) : (s.setThread h t).setThread h u = s.setThread h u := by
  simp only [State.setThread, sparseSet_set]

@[simp] theorem setCore_setCore (s : State) (c : Nat) (v w : Core) : (s.setCore c v).setCore c w = s.setCore c w := by
  simp only [State.setCore, sparseSet_set]

/-- The thread of a bundle whose `n` words are in the buffer and whose lines are `l`. -/
def atWork (t : Thread) (ws : List W32) (l : List (Nat × Byte)) : Thread :=
  { t with buf := ws, lineBuf := l, entering := none, hold := .none }

theorem live_setThread (s : State) (h : Hart) (t : Thread) : live (s.setThread h t) = live s := rfl

theorem checkpointHolds_setThread (s : State) (h g : Hart) (t : Thread) (er : t.retired = (s.thread h).retired)
    (eb : t.block.isSome = (s.thread h).block.isSome) (eh : t.hold = (s.thread h).hold) :
    checkpointHolds g (s.setThread h t) = checkpointHolds g s := by
  have r (g' : Hart) : ((s.setThread h t).thread g').retired = (s.thread g').retired
      ∧ ((s.setThread h t).thread g').block.isSome = (s.thread g').block.isSome
      ∧ ((s.setThread h t).thread g').hold = (s.thread g').hold := by
    by_cases n : g' = h
    · subst n; simp [er, eb, eh]
    · rw [s.thread_setThread_other t n]; exact ⟨rfl, rfl, rfl⟩
  simp only [checkpointHolds, atTarget, atCheck, midBlock, reportedCount, retiredCount, (r _).1, (r _).2.1, (r _).2.2]
  rfl

theorem fetchSyl_congr (h : Hart) (t u : Thread) (off : Nat) (s s' : State) (h1 : u.s = t.s) (h2 : u.lineBuf = t.lineBuf)
    (h3 : s'.cores = s.cores) : fetchSyl h u off s' = fetchSyl h t off s := by
  unfold fetchSyl fetchLine lineAt cacheLine fetchExc Thread.sReg State.core
  rw [h1, h2, h3]

theorem fetchFrom_congr (h : Hart) (t u : Thread) (n off : Nat) (s s' : State) (h1 : u.s = t.s) (h2 : u.lineBuf = t.lineBuf)
    (h3 : s'.cores = s.cores) : fetchFrom h u n off s' = fetchFrom h t n off s := by
  induction n generalizing off with
  | zero => rfl
  | succ n ih => simp only [fetchFrom, fetchSyl_congr h t u off s s' h1 h2 h3, ih]

/-- The lines that a thread holds while it runs a bundle whose lines are `l`: these, and the next one if it held it. -/
def heldLines (t : Thread) (l : List (Nat × Byte)) : List (Nat × Byte) :=
  (l ++ t.lineBuf.filter fun x => decide (x.1 = segAddr (t.sReg 0) (bundlePc t).toNat / 64 + 1)).eraseDups

/-- A thread that wants no next line wants none beside the bundle's own lines. -/
theorem wantsNext_held (t : Thread) (l : List (Nat × Byte)) (u : Thread) (hs : u.s = t.s) (hb : u.lineBuf = heldLines t l)
    (hw : wantsNext t (segAddr (t.sReg 0) (bundlePc t).toNat / 64) = false) :
    wantsNext u (segAddr (t.sReg 0) (bundlePc t).toNat / 64) = false := by
  have g : u.sReg = t.sReg := by unfold Thread.sReg; rw [hs]
  cases c : t.lineBuf.all (fun x => decide (x.1 ≠ segAddr (t.sReg 0) (bundlePc t).toNat / 64 + 1)) with
  | false =>
    have : u.lineBuf.all (fun x => decide (x.1 ≠ segAddr (t.sReg 0) (bundlePc t).toNat / 64 + 1)) = false := by
      rw [List.all_eq_false] at c ⊢
      obtain ⟨x, hx, e⟩ := c
      refine ⟨x, ?_, e⟩
      rw [hb, heldLines, List.mem_eraseDups]
      simp at e
      simp [hx, e]
    simp only [wantsNext, this, Bool.false_and]
  | true =>
    simp only [wantsNext, c, Bool.true_and] at hw
    simp only [wantsNext, g, Bool.and_assoc] at hw ⊢
    rw [hw, Bool.and_false]

theorem runBundle_fetched (s : State) (h : Hart) (t : Thread) (l : List (Nat × Byte)) (b : Bool)
    (hc : checkpointHolds h (s.setThread h t) = false) (hf : fetchBundle h t (s.setThread h t) = .ok l)
    (hw : wantsNext t (segAddr (t.sReg 0) (bundlePc t).toNat / 64) = false) :
    runBundle h b (s.setThread h t)
      = decodeBundle h b (s.setThread h { t with lineBuf := heldLines t l, entering := none, hold := .none }) := by
  have k := wantsNext_held t l { t with lineBuf := heldLines t l, entering := none, hold := .none } rfl rfl hw
  simp only [heldLines] at k
  simp only [runBundle, State.thread_setThread_same, hc, hf, setThread_setThread, Bool.false_eq_true, if_false, requestNext, k, heldLines]

theorem decodeBundle_decoded (s : State) (h : Hart) (t : Thread) (ys : List Syl) (b : Bool) (hr : t.rep = none)
    (dec : bundleSyls t.buf = .ok ys) : decodeBundle h b (s.setThread h t) = executeBundle h ys b (s.setThread h t) := by
  simp only [decodeBundle, State.thread_setThread_same, hr, dec]

/-- What a bundle comes to, as a state. -/
def Ran.state (h : Hart) : Ran → State
  | .held s => s
  | .raised c s => takeException h c s
  | .retired s => s

theorem executeBundle_plain (s : State) (h : Hart) (t : Thread) (y : Syl) (b : Bool) (hr : t.rep = none) (hv : t.resume = none)
    (np : isPrefix y = false) (nb : isBlock y = false) :
    executeBundle h [y] b (s.setThread h t) = Ran.state h (runPlain (ctxOf h t) [y] b false (s.setThread h t)) := by
  simp only [executeBundle, State.thread_setThread_same, applyResume, hv, setThread_setThread, emptyRepeat, hr, Option.isSome_none,
    Bool.false_eq_true, if_false, List.find?_cons, np, nb, List.find?_nil]
  generalize runPlain _ _ _ _ _ = r
  cases r <;> rfl

/-- The bundle of a thread that is ready executes: with its lines at hand, nothing but its own syllable decides (R82, R148). -/
theorem issueSyl_ready {i : Issue} {s : State} (R : Ready i s) {slot opc opnd : Nat} {y : Syl}
    (dec : bundleSyls (issueWords i slot opc opnd) = .ok [y]) (np : isPrefix y = false) (nb : isBlock y = false) :
    ∃ l, issueSyl i slot opc opnd s = Ran.state i.hart
      (runPlain (ctxOf i.hart (atWork (s.thread i.hart) (issueWords i slot opc opnd) l)) [y] false false
        (s.setThread i.hart (atWork (s.thread i.hart) (issueWords i slot opc opnd) l))) := by
  obtain ⟨l, hl⟩ := R.fetch
  refine ⟨heldLines { s.thread i.hart with buf := issueWords i slot opc opnd } l, ?_⟩
  have len := issueWords_length i slot opc opnd
  have hb : b2n i.ext.isSome ≤ 1 := by cases i.ext.isSome <;> simp [b2n]
  have buf : ((s.thread i.hart).buf ++ issueWords i slot opc opnd).take 5 = issueWords i slot opc opnd := by
    rw [R.buf, List.nil_append, List.take_of_length_le (by omega)]
  have hold : checkpointHolds i.hart s = false := by
    have := R.issue
    simp only [mayIssue, Bool.and_eq_true] at this
    simpa using this.1.2
  simp only [issueSyl, R.issue, buf, R.stop, Bool.not_true, Bool.false_eq_true, if_false, Bool.true_or, if_true]
  rw [runBundle_fetched s i.hart _ l false ?_ ?_ ?_, decodeBundle_decoded s i.hart _ [y] false ?_ dec, executeBundle_plain s i.hart _ y false ?_ ?_ np nb]
  · rfl
  · exact R.rep
  · exact R.resume
  · exact R.rep
  · rw [checkpointHolds_setThread s i.hart i.hart]
    · exact hold
    · rfl
    · rfl
    · rfl
  · simp only [fetchBundle, bundlePc, R.rep, len]
    refine Eq.trans ?_ hl
    apply fetchFrom_congr <;> rfl
  · simp only [bundlePc, R.rep]
    exact R.next

/-! ### Retirement -/

/-- Fields of a thread that no write of a bundle reads or changes. -/
def dress (t : Thread) (pc : W24) (buf : List W32) (hold : Hold) (block : Option BlockRun) (agreed : Option W24) (entering : Option Entering)
    (resume : Option W32) (after : Bool) (n : Nat) (l : List (Nat × Byte)) (lock : LockSeq) : Thread :=
  { t with pc := pc, buf := buf, hold := hold, block := block, agreed := agreed, entering := entering, resume := resume,
           afterRetx := after, retired := n, lineBuf := l, lock := lock }

theorem write_dress (t : Thread) (w : RegWrite) (pc buf hold block agreed entering resume after n l lock) :
    (dress t pc buf hold block agreed entering resume after n l lock).write w
      = dress (t.write w) pc buf hold block agreed entering resume after n l lock := by
  unfold Thread.write
  split <;> [rfl; skip]
  split <;> [rfl; skip]
  split <;> [rfl; skip]
  split <;> [rfl; skip]
  split <;> [rfl; skip]
  unfold Thread.writeSpecial
  split <;> try rfl
  unfold Thread.writeRc
  simp only [dress]
  cases t.rep with
  | none => rfl
  | some r => by_cases k : r.kind = .rep <;> simp [k]

theorem writeAll_dress (t : Thread) (ws : List RegWrite) (pc buf hold block agreed entering resume after n l lock) :
    (dress t pc buf hold block agreed entering resume after n l lock).writeAll ws
      = dress (t.writeAll ws) pc buf hold block agreed entering resume after n l lock := by
  unfold Thread.writeAll
  induction ws generalizing t with
  | nil => rfl
  | cons w rest ih => rw [List.foldl_cons, List.foldl_cons, write_dress, ih]

theorem write_keeps (t : Thread) (w : RegWrite) (hr : t.rep = none) :
    (t.write w).rep = none ∧ (t.write w).lock = t.lock ∧ (t.write w).retired = t.retired ∧ (t.write w).p = t.p
      ∧ (t.write w).latch = t.latch ∧ (t.write w).sig = t.sig ∧ (t.write w).running = t.running := by
  unfold Thread.write
  split <;> [simp [hr]; skip]
  split <;> [simp [hr]; skip]
  split <;> [simp [hr]; skip]
  split <;> [simp [hr]; skip]
  split <;> [simp [hr]; skip]
  unfold Thread.writeSpecial
  split <;> simp [hr, Thread.writeRc]

theorem writeAll_keeps (t : Thread) (ws : List RegWrite) (hr : t.rep = none) :
    (t.writeAll ws).rep = none ∧ (t.writeAll ws).lock = t.lock ∧ (t.writeAll ws).retired = t.retired ∧ (t.writeAll ws).p = t.p
      ∧ (t.writeAll ws).latch = t.latch ∧ (t.writeAll ws).sig = t.sig ∧ (t.writeAll ws).running = t.running := by
  unfold Thread.writeAll
  induction ws generalizing t with
  | nil => simp [hr]
  | cons w rest ih =>
    have h := write_keeps t w hr
    have k := ih (t.write w) h.1
    rw [List.foldl_cons]
    refine ⟨k.1, k.2.1.trans h.2.1, k.2.2.1.trans h.2.2.1, k.2.2.2.1.trans h.2.2.2.1, k.2.2.2.2.1.trans h.2.2.2.2.1,
      k.2.2.2.2.2.1.trans h.2.2.2.2.2.1, k.2.2.2.2.2.2.trans h.2.2.2.2.2.2⟩

/-- The thread after its bundle has retired (R80–R82, R147). -/
theorem retireThread_retired (x : Ctx) (ys : List Syl) (e : Effect) (ws : List RegWrite) (t : Thread) (ww : List W32) (l : List (Nat × Byte))
    (ht : x.t = atWork t ww l) (hl : t.locked = false) (hr : t.rep = none) :
    Retired t (retireThread x ys e ws (atWork t ww l)) (e.target.getD x.next) e.product (e.writes ++ ws) := by
  refine ⟨l, ?_⟩
  have lock : lockAccess x.t ys (atWork t ww l) = atWork t ww l := by
    have : x.t.locked = false := by rw [ht]; exact hl
    simp only [lockAccess, this, Bool.not_false, if_true]
  have shape : { flushLatch (atWork t ww l) with latch := e.product.toList }
      = dress { flushLatch t with latch := e.product.toList } t.pc ww .none t.block t.agreed none t.resume t.afterRetx t.retired l t.lock := rfl
  have hr' : ({ flushLatch t with latch := e.product.toList } : Thread).rep = none := hr
  have keep := writeAll_keeps _ (e.writes ++ ws) hr'
  simp only [retireThread, lock, shape, writeAll_dress]
  have n : nextIteration (dress (Thread.writeAll { flushLatch t with latch := e.product.toList } (e.writes ++ ws)) t.pc ww .none t.block
      t.agreed none t.resume t.afterRetx t.retired l t.lock) = (true, dress (Thread.writeAll { flushLatch t with latch := e.product.toList }
      (e.writes ++ ws)) t.pc ww .none t.block t.agreed none t.resume t.afterRetx t.retired l t.lock) := by
    simp only [nextIteration, dress, keep.1]
  rw [n]
  have k := keep.2.1
  simp only [dress, if_true]
  rw [show t.lock = (Thread.writeAll { flushLatch t with latch := e.product.toList } (e.writes ++ ws)).lock from k.symm]

/-- A bundle of one slot A or slot X syllable that raises nothing retires with its writes and product. -/
theorem runPlain_value (x : Ctx) (y : Syl) (s : State) (ws : List RegWrite) (prod : Option Product) (hs : y.slot = 1 ∨ y.slot = 2)
    (hf : decodeFaults x s [y] = []) (he : evalSyl x s y = ⟨[], ws, prod, none⟩) (hl : x.t.locked = false) :
    runPlain x [y] false false s = .retired (retire x [y] ⟨[], ws, prod, none⟩ [] s) := by
  have s0 : ¬ y.slot = 0 := by omega
  have s3 : ¬ y.slot = 3 := by omega
  have e : evalBundle x s [y] = ⟨[], ws, prod, none⟩ := by
    simp [evalBundle, hf, he, Effect.add, noEffect, lockFaults, hl, isLock, s3]
  have aw : agreeWaits x [y] s = none := by
    unfold agreeWaits
    split
    · rfl
    · simp [s3]
  simp [runPlain, e, firstExc, aw, unlockWaits, isUnlock, s0, s3]

/-- Counting the access of a retired bundle changes the counters' pages and free values only. -/
theorem countBundle_same (x : Ctx) (ys : List Syl) (s : State) : SameBut sideReg s (countBundle x ys s) := by
  have hc : x.h.core.val < 35 := x.h.core.isLt
  have p (code n t : Nat) (u : State) : SameBut sideReg u (pmcEvent (pmcOfHart x.h) code n t u) :=
    pmcEvent_same _ _ _ _ (by simp [pmcOfHart]; omega) _
  have places (locs : List Nat) (load store : Bool) (u : State) : SameBut sideReg u (countPlaces x.h locs load store u) := by
    have q (b : Bool) (code : Nat) (u : State) : SameBut sideReg u (if b then pmcEvent (pmcOfHart x.h) code 1 0 u else u) := by
      split
      · exact p _ _ _ _
      · exact SameBut.refl _ u
    unfold countPlaces
    generalize (locs.all _) = own
    cases own <;> simp only [Bool.false_eq_true, if_true, if_false] <;> split
    · exact p _ _ _ _
    · exact SameBut.refl _ u
    · exact (q load 0x07 u).trans (q store 0x08 _)
    · exact SameBut.refl _ u
  unfold countBundle
  split
  · split
    · exact SameBut.refl _ s
    · exact places _ _ _ _
  · exact SameBut.refl _ s

theorem retire_value (x : Ctx) (y : Syl) (e : Effect) (s : State) (h3 : y.slot ≠ 3) :
    SameBut sideReg (s.setThread x.h (retireThread x [y] e [] (s.thread x.h))) (retire x [y] e [] s) := by
  have aw : agreeWrites x [y] = [] := by simp [agreeWrites, h3]
  have hc : x.h.core.val < 35 := x.h.core.isLt
  simp only [retire, aw, List.append_nil, List.foldl_cons, List.foldl_nil, retireOp, ne_eq, h3, not_false_eq_true, if_true]
  have p (code n t : Nat) (u : State) : SameBut sideReg u (pmcEvent (pmcOfHart x.h) code n t u) := pmcEvent_same _ _ _ _ (by simp [pmcOfHart]; omega) _
  have m (c : Prop) [Decidable c] (n : Nat) (u : State) : SameBut sideReg u (if c then u else pmcEvent (pmcOfHart x.h) 0x03 n 0 u) := by
    split
    · exact SameBut.refl _ u
    · exact p _ _ _ _
  exact (SameBut.foldl _ (fun _ _ => p _ _ _ _) _ _).trans ((m _ _ _).trans
    ((countBundle_same x [y] _).trans ((p _ _ _ _).trans (p _ _ _ _))))

/-- The offset after the bundle of a syllable. -/
theorem ctxOf_next (i : Issue) (t : Thread) (slot opc opnd : Nat) (l : List (Nat × Byte)) :
    (ctxOf i.hart (atWork t (issueWords i slot opc opnd) l)).next = nextPc i t := by
  simp [ctxOf, atWork, nextPc, issueWords_length]

/-- Issuing one syllable of slot A or X that raises nothing: it retires, and nothing beside its thread changes. -/
theorem issue_value {i : Issue} {s : State} (R : Ready i s) {slot opc opnd : Nat} (ws : List RegWrite) (prod : Option Product)
    (hs : slot = 1 ∨ slot = 2) (h2 : opc < 128) (h3 : opnd < 0x400000)
    (he : i.ext.isSome = true → extendable ⟨slot, opc, BitVec.ofNat 22 opnd, none⟩ = true)
    (ht : twice (writesOf ⟨slot, opc, BitVec.ofNat 22 opnd, none⟩) [] = false)
    (hf : ∀ ww l, decodeFaults (ctxOf i.hart (atWork (s.thread i.hart) ww l)) (s.setThread i.hart (atWork (s.thread i.hart) ww l))
      [sylOf i slot opc opnd] = [])
    (ev : ∀ ww l, evalSyl (ctxOf i.hart (atWork (s.thread i.hart) ww l)) (s.setThread i.hart (atWork (s.thread i.hart) ww l))
      (sylOf i slot opc opnd) = ⟨[], ws, prod, none⟩) :
    ∃ u, Retired (s.thread i.hart) u (nextPc i (s.thread i.hart)) prod ws
      ∧ SameBut sideReg (s.setThread i.hart u) (issueSyl i slot opc opnd s) := by
  have h1 : slot < 4 := by omega
  have n3 : slot ≠ 3 := by omega
  have dec := bundleSyls_one i R.stop h1 h2 h3 (by omega) he ht
  have np : isPrefix (sylOf i slot opc opnd) = false := by simp [isPrefix, sylOf, n3]
  have nb : isBlock (sylOf i slot opc opnd) = false := by simp [isBlock, sylOf, n3]
  obtain ⟨l, hl⟩ := issueSyl_ready R dec np nb
  have k := runPlain_value _ (sylOf i slot opc opnd) _ ws prod hs (hf (issueWords i slot opc opnd) l) (ev (issueWords i slot opc opnd) l)
    R.unlocked
  rw [hl, k]
  have r := retire_value (ctxOf i.hart (atWork (s.thread i.hart) (issueWords i slot opc opnd) l)) (sylOf i slot opc opnd)
    ⟨[], ws, prod, none⟩ (s.setThread i.hart (atWork (s.thread i.hart) (issueWords i slot opc opnd) l)) (by simp [sylOf]; omega)
  have q := retireThread_retired (ctxOf i.hart (atWork (s.thread i.hart) (issueWords i slot opc opnd) l)) [sylOf i slot opc opnd]
    ⟨[], ws, prod, none⟩ [] (s.thread i.hart) (issueWords i slot opc opnd) l rfl R.unlocked R.rep
  simp only [List.append_nil, Option.getD_none, ctxOf_next] at q
  refine ⟨_, q, ?_⟩
  have hh : (ctxOf i.hart (atWork (s.thread i.hart) (issueWords i slot opc opnd) l)).h = i.hart := rfl
  simpa only [hh, State.thread_setThread_same, setThread_setThread, Ran.state] using r

/-! ### Exceptions -/

theorem enteredThread_segments (xc : W32) (vec : W24) (t : Thread) : (enteredThread xc vec t).s = t.s := by
  unfold enteredThread parkRecords
  cases t.block <;> rfl

theorem servingPin_congr (c : Nat) (int : Bool) {t u : Thread} {s s' : State} (ht : u.s = t.s) (hs : s'.cores = s.cores) :
    servingPin c int u s' = servingPin c int t s := by
  unfold servingPin Thread.sReg State.core
  rw [ht, hs]

/-- A thread of which an exception has been taken while its bundle was at work. -/
theorem enteredThread_entered (t : Thread) (ww : List W32) (l : List (Nat × Byte)) (xc : W32) (vec : W24) (b : Bool) (en : Option Entering)
    (lb : List (Nat × Byte)) :
    Entered t { enteredThread xc vec (if b then { atWork t ww l with sig := { t.sig with poison := true } } else atWork t ww l) with
      entering := en, lineBuf := lb } xc vec := by
  cases hb : t.block <;> cases b <;>
    exact
    { xpc := by simp [enteredThread, parkRecords, flushLatch, atWork, hb]
      xsr := by simp [enteredThread, parkRecords, flushLatch, atWork, hb, Thread.priv]
      xcause := rfl
      sr := by simp [enteredThread, parkRecords, flushLatch, atWork, hb]
      pc := rfl
      xinfo := by intro h k; simp [enteredThread, entryInfo, atWork, h, k]
      regs := by simp [enteredThread, parkRecords, flushLatch, atWork, hb]
      fresh := ⟨rfl, rfl, rfl, rfl, rfl, rfl, rfl⟩
      parked := by simp [enteredThread, parkRecords, flushLatch, atWork, hb]
      same := by simp [enteredThread, parkRecords, flushLatch, atWork, hb]
      sig := by simp [enteredThread, parkRecords, flushLatch, atWork, hb] }

/-- The state after the record of an exception's address. -/
def recorded (h : Hart) (a : Option W32) (s : State) : State :=
  match a with
  | some x => s.setReg (corePage h.core.val) (0x050 + 4 * h.thread.val) x
  | none => s

/-- Taking an exception of a bundle at work (R157–R160). -/
theorem takeException_traps (s : State) (h : Hart) (e : Exc) (ww : List W32) (l : List (Nat × Byte)) (hp : vectorReady h s) :
    ∃ u, Entered (s.thread h) u (w32 (e.detail * 0x10000 + e.slot * 0x4000 + e.cause)) (vector h s)
      ∧ SameBut sideReg (vectorFetched h false (recorded h e.addr (s.setThread h u))) (takeException h e (s.setThread h (atWork (s.thread h) ww l))) := by
  have hc : h.core.val < 35 := h.core.isLt
  let b := decide (e.cause = 0x06 ∨ e.cause = 0x0D)
  let t := if b then { atWork (s.thread h) ww l with sig := { (s.thread h).sig with poison := true } } else atWork (s.thread h) ww l
  let xc := w32 (e.detail * 0x10000 + e.slot * 0x4000 + e.cause)
  let pin := servingPin h.core.val false (s.thread h) s
  let u : Thread := { enteredThread xc (vector h s) t with
    entering := some ⟨fld xc 0 8, pin.isSome⟩
    lineBuf := match pin with | some p => [(p.line, p.poison)] | none => [] }
  refine ⟨u, enteredThread_entered (s.thread h) ww l xc (vector h s) b _ _, ?_⟩
  have st : (if e.cause = 0x06 ∨ e.cause = 0x0D then
      { (s.setThread h (atWork (s.thread h) ww l)).thread h with sig := { ((s.setThread h (atWork (s.thread h) ww l)).thread h).sig with poison := true } }
      else (s.setThread h (atWork (s.thread h) ww l)).thread h) = t := by
    by_cases k : e.cause = 0x06 ∨ e.cause = 0x0D <;> simp [t, b, k, atWork]
  have pt (s' : State) (hs : s'.cores = s.cores) : servingPin h.core.val false t s' = pin := by
    exact servingPin_congr _ _ (by by_cases k : b = true <;> simp [t, k, atWork]) hs
  have fin (s' : State) (hs : s'.cores = s.cores) (hv : vectorOffset h.core.val false s' = vectorOffset h.core.val false s)
      (ht : s'.thread h = t) (hset : s'.setThread h u = recorded h e.addr (s.setThread h u)) :
      SameBut sideReg (vectorFetched h false (recorded h e.addr (s.setThread h u))) (enter h false xc s') := by
    have k := pt s' hs
    have same := pmcEvent_same (1 + h.core.val) 0x0A 1 h.thread.val (by omega) (vectorFetched h false (recorded h e.addr (s.setThread h u)))
    have at_ : vectorFetched h false (s'.setThread h u) = match (motive := Option Pin → State) pin with
        | some p => requestNext h p.line (s'.setThread h u)
        | none => s'.setThread h u := by
      have us : u.s = (s.thread h).s :=
        (enteredThread_segments xc (vector h s) t).trans (by by_cases q : b = true <;> simp [t, q, atWork])
      have q : servingPin h.core.val false ((s'.setThread h u).thread h) (s'.setThread h u) = pin := by
        rw [State.thread_setThread_same]
        exact servingPin_congr _ _ us hs
      cases hpin : pin <;> simp only [vectorFetched, q, hpin]
    have lhs : enter h false xc s' = pmcEvent (1 + h.core.val) 0x0A 1 h.thread.val (vectorFetched h false (recorded h e.addr (s.setThread h u))) := by
      rw [← hset, at_]
      simp only [enter, ht, k, hv, Bool.false_eq_true, if_false]
      cases hpin : pin with
      | none => simp only [u, hpin]; rfl
      | some p =>
        have := hp p hpin
        simp only [u, hpin, Option.bind_some, this, Option.isNone_none, if_true]; rfl
    rw [lhs]
    exact same
  unfold takeException
  dsimp only
  rw [st]
  cases ha : e.addr with
  | none =>
    rw [ha] at fin
    refine fin _ rfl rfl (by simp) (by simp [recorded])
  | some a =>
    rw [ha] at fin
    refine fin _ rfl rfl (by simp) ?_
    simp only [recorded, State.setReg, State.setThread, sparseSet_set]

/-- Issuing one syllable whose bundle raises an exception. -/
theorem issue_raises {i : Issue} {s : State} (R : Ready i s) (hp : vectorReady i.hart s) {slot opc opnd : Nat} (e : Exc) (h1 : slot < 4)
    (h2 : opc < 128) (h3 : opnd < 0x400000) (ne : ¬(slot = 3 ∧ opc = 0x7F))
    (he : i.ext.isSome = true → extendable ⟨slot, opc, BitVec.ofNat 22 opnd, none⟩ = true)
    (ht : twice (writesOf ⟨slot, opc, BitVec.ofNat 22 opnd, none⟩) [] = false)
    (np : isPrefix (sylOf i slot opc opnd) = false) (nb : isBlock (sylOf i slot opc opnd) = false)
    (hr : ∀ ww l, runPlain (ctxOf i.hart (atWork (s.thread i.hart) ww l)) [sylOf i slot opc opnd] false false
      (s.setThread i.hart (atWork (s.thread i.hart) ww l)) = .raised e (s.setThread i.hart (atWork (s.thread i.hart) ww l))) :
    ∃ u, Entered (s.thread i.hart) u (w32 (e.detail * 0x10000 + e.slot * 0x4000 + e.cause)) (vector i.hart s)
      ∧ SameBut sideReg (vectorFetched i.hart false (recorded i.hart e.addr (s.setThread i.hart u))) (issueSyl i slot opc opnd s) := by
  have dec := bundleSyls_one i R.stop h1 h2 h3 ne he ht
  obtain ⟨l, hl⟩ := issueSyl_ready R dec np nb
  rw [hl, hr]
  exact takeException_traps s i.hart e _ l hp

/-- A cause of rank below 9 of a bundle of one syllable is raised before anything is done. -/
theorem runPlain_raised (x : Ctx) (y : Syl) (s : State) (e : Exc) (rest : List Exc) (ws : List RegWrite) (prod : Option Product)
    (tgt : Option W24) (he : evalBundle x s [y] = ⟨e :: rest, ws, prod, tgt⟩) (_h9 : e.rank < 9)
    (first : firstExc ((e :: rest).filter fun c => decide (c.rank < 9)) = some e) :
    runPlain x [y] false false s = .raised e s := by
  simp only [runPlain, he, first]

end Sys2Proof.Safety
end

