-- ==== Sys2Proof/Laws/Alu.lean ====
section
/-!
SUPPORT. Sys2Proof/Laws/Alu.lean: the operand fields of syllables, and what a slot A operation on D registers does as a bundle.
-/

namespace Sys2Proof.Safety

open Sys2Proof.Machine

/-! ### Operand fields -/

theorem packDdd_lt (f : FDdd) : packDdd f < 0x400000 := by
  have := f.dd.isLt; have := f.ds1.isLt; have := f.ds2.isLt; have := f.fn.isLt
  unfold packDdd; omega

theorem packDdi_lt (f : FDdi) : packDdi f < 0x400000 := by
  have := f.dd.isLt; have := f.ds1.isLt; have := f.imm.isLt
  unfold packDdi; omega

theorem packMem_lt (f : FMem) : packMem f < 0x400000 := by
  have := f.dt.isLt; have := f.sg.isLt; have := f.ab.isLt; have := f.am.isLt; have := f.disp.isLt
  unfold packMem; omega

theorem packMul_lt (f : FMul) : packMul f < 0x400000 := by
  have := f.dst.isLt; have := f.rsv.isLt; have := f.ds1.isLt; have := f.ds2.isLt; have := f.fn.isLt
  unfold packMul; omega

theorem packVec_lt (f : FVec) : packVec f < 0x400000 := by
  have := f.g1.isLt; have := f.g2.isLt; have := f.ds.isLt; have := f.fn.isLt
  unfold packVec; omega

theorem packBr_lt (f : FBr) : packBr f < 0x400000 := by
  have := f.dc.isLt; have := f.disp.isLt
  unfold packBr; omega

/-- The fields of a DDD syllable (R100). -/
theorem fields_ddd (f : FDdd) (slot opc : Nat) (ext : Option Nat) :
    (⟨slot, opc, BitVec.ofNat 22 (packDdd f), ext⟩ : Syl).dd = f.dd.toNat ∧ (⟨slot, opc, BitVec.ofNat 22 (packDdd f), ext⟩ : Syl).ds1 = f.ds1.toNat
      ∧ (⟨slot, opc, BitVec.ofNat 22 (packDdd f), ext⟩ : Syl).ds2 = f.ds2.toNat
      ∧ (⟨slot, opc, BitVec.ofNat 22 (packDdd f), ext⟩ : Syl).fn = f.fn.toNat := by
  have h := packDdd_lt f
  have := f.dd.isLt; have := f.ds1.isLt; have := f.ds2.isLt; have := f.fn.isLt
  simp only [Syl.dd, Syl.ds1, Syl.ds2, Syl.fn, fld_eq, BitVec.toNat_ofNat, Nat.mod_eq_of_lt h]
  unfold packDdd
  refine ⟨?_, ?_, ?_, ?_⟩ <;> omega

/-- The fields of a DDI syllable (R100). -/
theorem fields_ddi (f : FDdi) (slot opc : Nat) (ext : Option Nat) :
    (⟨slot, opc, BitVec.ofNat 22 (packDdi f), ext⟩ : Syl).dd = f.dd.toNat ∧ (⟨slot, opc, BitVec.ofNat 22 (packDdi f), ext⟩ : Syl).ds1 = f.ds1.toNat
      ∧ fld (BitVec.ofNat 22 (packDdi f)) 0 12 = f.imm.toNat ∧ fld (BitVec.ofNat 22 (packDdi f)) 2 10 = f.imm.toNat / 4 := by
  have h := packDdi_lt f
  have := f.dd.isLt; have := f.ds1.isLt; have := f.imm.isLt
  simp only [Syl.dd, Syl.ds1, fld_eq, BitVec.toNat_ofNat, Nat.mod_eq_of_lt h]
  unfold packDdi
  refine ⟨?_, ?_, ?_, ?_⟩ <;> omega

theorem sgn_eq_toInt {n : Nat} (v : BitVec n) (hn : 0 < n) : sgn n v.toNat = v.toInt := by
  have h := v.isLt
  rw [sgn, Nat.mod_eq_of_lt h, BitVec.toInt_eq_toNat_cond]
  obtain ⟨m, rfl⟩ : ∃ m, n = m + 1 := ⟨n - 1, by omega⟩
  have e : 2 ^ (m + 1) = 2 * 2 ^ m := by rw [pow_succ]; omega
  simp only [Nat.add_sub_cancel]
  split <;> split <;> omega

theorem wrap_eq_signExtend {n m : Nat} (v : BitVec n) (hn : 0 < n) : wrap m (sgn n v.toNat) = v.signExtend m := by
  rw [sgn_eq_toInt v hn]
  rfl

/-- The immediate of a DDI syllable (R101, R106). -/
theorem imm_ddi (i : Issue) (f : FDdi) (slot opc : Nat) (b : Bool) :
    (sylOf i slot opc (packDdi f)).imm b = immediate i f.imm b := by
  have h := (fields_ddi f slot opc none).2.2.1
  unfold Syl.imm immediate sylOf
  cases hx : i.ext with
  | none =>
    simp only [Option.map_none, h]
    cases b
    · simp only [Bool.false_eq_true, if_false]
      exact BitVec.eq_of_toNat_eq (by simp)
    · exact wrap_eq_signExtend f.imm (by omega)
  | some l =>
    simp only [Option.map_some, h, longImm]
    have := f.imm.isLt; have := l.isLt
    apply BitVec.eq_of_toNat_eq
    simp only [BitVec.toNat_ofNat, BitVec.toNat_append, BitVec.toNat_setWidth, Nat.shiftLeft_eq]
    rw [← Nat.shiftLeft_eq, ← Nat.shiftLeft_add_eq_or_of_lt l.isLt, Nat.shiftLeft_eq]
    omega

theorem extOk_ddi (i : Issue) (f : FDdi) (slot opc : Nat) (h : immediateOk i f.imm) (hf : fmtOf slot opc = some .ddi) :
    extOk (sylOf i slot opc (packDdi f)) = true := by
  have k := (fields_ddi f slot opc none).2.2.2
  unfold extOk sylOf
  cases hx : i.ext with
  | none => rfl
  | some l =>
    have z := h (by simp [hx])
    have : f.imm.toNat / 4 = 0 := by
      have := congrArg BitVec.toNat z
      simpa [Nat.shiftRight_eq_div_pow] using this
    simp [hf, k, this]

theorem twice_one (a : Nat) : twice [a] [] = false := by simp [twice, List.eraseDups, List.eraseDupsBy, List.eraseDupsBy.loop]

/-! ### Operations on D registers -/

theorem aluOp_cases {opc : Nat} {op : AluOp} (h : aluOp opc = some op) :
    opc ∉ [0x00, 0x30, 0x31, 0x32, 0x33, 0x34, 0x63, 0x64, 0x65, 0x66, 0x6E] ∧ opc < 0x70 := by
  constructor
  · intro m
    simp only [List.mem_cons, List.not_mem_nil, or_false] at m
    rcases m with rfl | rfl | rfl | rfl | rfl | rfl | rfl | rfl | rfl | rfl | rfl <;> cases h
  · by_contra k
    unfold aluOp at h
    split at h <;> first | omega | cases h

theorem evalA_alu (x : Ctx) (y : Syl) (s : State) (op : AluOp) (h : aluOp y.opc = some op) :
    evalA x y s = if op.bites (x.t.dReg y.ds2) then raise 6 1 0x06
      else effWrites [wrD y.dd (op.eval (x.t.dReg y.ds1) (x.t.dReg (y.ds1 + 1)) (x.t.dReg y.ds2) (x.t.dReg y.dd) (y.imm op.signedImm))] := by
  obtain ⟨n, lt⟩ := aluOp_cases h
  unfold evalA
  dsimp only
  split <;> first | (next e => simp [e] at n) | skip
  rw [if_neg (by omega), h]

theorem aOperandOk_alu (y : Syl) (op : AluOp) (h : aluOp y.opc = some op) : aOperandOk y = aluOperandOk op y := by
  obtain ⟨n, lt⟩ := aluOp_cases h
  simp only [List.mem_cons, List.not_mem_nil, or_false, not_or] at n
  obtain ⟨n0, n1, n2, n3, n4, n5, n6, n7, n8, n9, n10⟩ := n
  have : ¬ 0x70 ≤ y.opc := by omega
  simp [aOperandOk, n0, n1, n2, n3, n4, n5, n6, n7, n8, n9, n10, this, h]

theorem writesOf_alu (y : Syl) (op : AluOp) (hs : y.slot = 1) (h : aluOp y.opc = some op) : twice (writesOf y) [] = false := by
  obtain ⟨n, lt⟩ := aluOp_cases h
  simp only [List.mem_cons, List.not_mem_nil, or_false, not_or] at n
  obtain ⟨n0, n1, n2, n3, n4, n5, n6, n7, n8, n9, n10⟩ := n
  unfold writesOf
  split
  · rfl
  · have a : ¬(0x30 ≤ y.opc ∧ y.opc ≤ 0x34) := by omega
    have : writesAlu y = [rD y.dd] := by
      simp [writesAlu, n0, n7, n8, n9]
      omega
    simp only [hs, this, twice_one]

/-- An operation on D registers, as a bundle: it writes its result to Dd (R116–R120). -/
theorem alu_retires {i : Issue} {s : State} (R : Ready i s) {opc opnd : Nat} (op : AluOp) (h : aluOp opc = some op) (h3 : opnd < 0x400000)
    (hm : (fmtOf 1 opc).isSome = true) (he : i.ext.isSome = true → extendable ⟨1, opc, BitVec.ofNat 22 opnd, none⟩ = true)
    (hk : extOk (sylOf i 1 opc opnd) = true) (ho : aluOperandOk op (sylOf i 1 opc opnd) = true)
    (hb : op.bites ((s.thread i.hart).dReg (sylOf i 1 opc opnd).ds2) = false) :
    ∃ u, Retired (s.thread i.hart) u (nextPc i (s.thread i.hart)) none
        [wrD (sylOf i 1 opc opnd).dd (op.eval ((s.thread i.hart).dReg (sylOf i 1 opc opnd).ds1)
          ((s.thread i.hart).dReg ((sylOf i 1 opc opnd).ds1 + 1)) ((s.thread i.hart).dReg (sylOf i 1 opc opnd).ds2)
          ((s.thread i.hart).dReg (sylOf i 1 opc opnd).dd) ((sylOf i 1 opc opnd).imm op.signedImm))]
      ∧ SameBut sideReg (s.setThread i.hart u) (issueSyl i 1 opc opnd s) := by
  have lt := (aluOp_cases h).2
  refine issue_value R _ none (.inl rfl) (by omega) h3 he (writesOf_alu _ op rfl h) ?_ ?_
  · intro ww l
    have a := aOperandOk_alu (sylOf i 1 opc opnd) op h
    have m : (fmtOf 1 opc).isNone = false := by cases e : fmtOf 1 opc <;> simp_all
    have nx : ¬ 0x70 ≤ opc := by omega
    have xo : isXop (sylOf i 1 opc opnd) = false := by simp [isXop, sylOf, nx]
    have wc (b : Bool) : wrongCore b (sylOf i 1 opc opnd) = false := by
      unfold wrongCore
      rw [xo]
      cases b <;> simp [sylOf]
    have ok : operandOk (sylOf i 1 opc opnd) = true := by
      simp only [operandOk, hk, Bool.true_and]
      show aOperandOk _ = true
      rw [a, ho]
    simp only [decodeFaults, List.filterMap_cons, List.filterMap_nil, wc, ok, xo]
    simp [sylOf, m]
  · intro ww l
    show evalA _ _ _ = _
    rw [evalA_alu _ _ _ op h]
    have t : (ctxOf i.hart (atWork (s.thread i.hart) ww l)).t.dReg = (s.thread i.hart).dReg := rfl
    simp only [t, hb, Bool.false_eq_true, if_false]
    rfl

theorem reaches_of {c : Instr} {s e : State} (f : State → State) (hc : exec c s = commit f s) (h : SameBut sideReg e (f s)) : Reaches c s e :=
  ⟨_, hc, h.trans (settle_same _ _)⟩

end Sys2Proof.Safety
end

