-- ==== Sys2Proof/Laws/Mem.lean ====
section
/-!
SUPPORT. Sys2Proof/Laws/Mem.lean: every operation on memory keeps its canonical form, and memory at reset has it.
-/

namespace Sys2Proof.Safety

open Sys2Proof.Machine

theorem memWf_iff (m : Mem) : memWf m = true ↔ sparseWf 0 m.data = true ∧ sparseWf noWord m.words = true ∧ sparseWf 0 m.parity = true
    ∧ sparseWf flashBlank m.flash = true ∧ sparseWf 0 m.ustore = true := by
  simp [memWf, and_assoc]

theorem memWf_reset : memWf State.reset.mem = true := rfl

/-! ### Bytes and words -/

theorem putBytes_wf (c : List Host.Cell) (a : Nat) (bs : List Byte) (h : sparseWf 0 c = true) : sparseWf 0 (putBytes c a bs) = true := by
  induction bs generalizing a c with
  | nil => exact h
  | cons b rest ih => exact ih _ _ (sparseWf_set 0 c a b h)

theorem cellsWrite_wf (d : Byte) (c : List Host.Cell) (a : Nat) (bs : List Byte) (h : sparseWf d c = true) :
    sparseWf d (cellsWrite d c a bs) = true := by
  induction bs generalizing a c with
  | nil => exact h
  | cons b rest ih => exact ih _ _ (sparseWf_set d c a b h)

theorem putWord_wf (m : Mem) (w : Nat) (d : W64) (p : Bool) (h : memWf m = true) : memWf (m.putWord w d p) = true := by
  rw [memWf_iff] at *
  exact ⟨putBytes_wf _ _ _ h.1, sparseWf_set noWord m.words w ⟨true, true, checkOf d ^^^ (if p then eccPoison else 0)⟩ h.2.1, h.2.2⟩

theorem xorParity_wf (m : Mem) (panel i : Nat) (d : W64) (h : memWf m = true) : memWf (m.xorParity panel i d) = true := by
  rw [memWf_iff] at *
  exact ⟨h.1, h.2.1, sparseWf_set _ _ _ _ h.2.2.1, h.2.2.2⟩

theorem updateParity_wf (m : Mem) (w : Nat) (d : W64) (h : memWf m = true) : memWf (m.updateParity w d) = true := by
  unfold Mem.updateParity
  split
  · exact h
  · exact xorParity_wf _ _ _ _ (xorParity_wf _ _ _ _ (xorParity_wf _ _ _ _ (xorParity_wf _ _ _ _ h)))

theorem putGroupParity_wf (m : Mem) (panel c : Nat) (r : W64 × W64 × W64 × W64) (h : memWf m = true) :
    memWf (m.putGroupParity panel c r) = true := by
  rw [memWf_iff] at *
  exact ⟨h.1, h.2.1, sparseWf_set _ _ _ _ (sparseWf_set _ _ _ _ (sparseWf_set _ _ _ _ (sparseWf_set _ _ _ _ h.2.2.1))), h.2.2.2⟩

theorem foldl_keeps {α β : Type} (P : β → Prop) (f : β → α → β) (hf : ∀ b a, P b → P (f b a)) (l : List α) (b : β) (h : P b) : P (l.foldl f b) := by
  induction l generalizing b with
  | nil => exact h
  | cons a rest ih => exact ih _ (hf b a h)

theorem rebuildParity_wf (m : Mem) (panel : Nat) (h : memWf m = true) : memWf (m.rebuildParity panel) = true :=
  foldl_keeps (fun m : Mem => memWf m = true) _ (fun m c k => putGroupParity_wf m panel c _ k) _ m h

theorem writeBack_wf (m : Mem) (panel c : Nat) (g : GroupDecode) (t : Nat) (h : memWf m = true) :
    memWf (m.writeBack panel c g t).1 = true := by
  unfold Mem.writeBack
  dsimp only
  split
  · split <;> exact putWord_wf _ _ _ _ h
  · split <;> first | exact putWord_wf _ _ _ _ h | exact h

theorem writeBackGroup_wf (m : Mem) (panel c : Nat) (g : GroupDecode) (h : memWf m = true) :
    memWf (m.writeBackGroup panel c g).1 = true :=
  foldl_keeps (fun x : Mem × Nat => memWf x.1 = true) _ (fun x t k => writeBack_wf x.1 panel c g t k) _ (m, 0) h

theorem clearWords_wf (m : Mem) (lo hi : Nat) (skip : Nat → Bool) (h : memWf m = true) : memWf (m.clearWords lo hi skip) = true := by
  unfold Mem.clearWords
  dsimp only
  generalize hp : List.filter _ _ = part
  have k : memWf (part.foldl (fun m w => m.updateParity w (m.decoded w).2.1) m) = true :=
    foldl_keeps (fun m : Mem => memWf m = true) _ (fun m w k => updateParity_wf m w _ k) _ m h
  rw [memWf_iff] at *
  exact ⟨sparseWf_drop _ _ _ k.1, sparseWf_drop _ _ _ k.2.1, sparseWf_drop _ _ _ k.2.2.1, k.2.2.2⟩

theorem loseBank_wf (m : Mem) (b : Nat) (h : memWf m = true) : memWf (m.loseBank b) = true := clearWords_wf m _ _ _ h

/-! ### The state's reads and writes -/

theorem recordError_mem (p c a : Nat) (s : State) : (recordError p c a s).mem = s.mem := by
  unfold recordError State.incSat
  dsimp only
  split <;> simp

theorem ledgerWrite_mem (p i a k c : Nat) (s : State) : (ledgerWrite p i a k c s).mem = s.mem := by
  unfold ledgerWrite
  exact (State.setFld_mem ..).trans ((State.setReg_mem ..).trans (State.setReg_mem ..))

theorem ledgerDrop_mem (p : Nat) (s : State) : (ledgerDrop p s).mem = s.mem := by
  unfold ledgerDrop State.incSat
  simp only [State.setFld_mem, State.setEvt_mem]

theorem ledgerRecord_mem (p k c a : Nat) (s : State) : (ledgerRecord p k c a s).mem = s.mem := by
  unfold ledgerRecord
  generalize List.find? _ _ = x
  generalize List.find? _ _ = y
  generalize ledgerVictim p s = z
  cases x with
  | some i => simp only [State.setFld_mem]
  | none =>
    cases y with
    | some i => exact ledgerWrite_mem _ _ _ _ _ _
    | none =>
      dsimp only
      split
      · exact ledgerDrop_mem _ _
      · cases z with
        | some i => exact ledgerWrite_mem _ _ _ _ _ _
        | none => exact ledgerDrop_mem _ _

theorem eccEvent_mem (kind : EccKind) (src : EccSource) (addr : Nat) (s : State) : (eccEvent kind src addr s).mem = s.mem := by
  unfold eccEvent State.incSat
  dsimp only
  rw [ledgerRecord_mem]
  cases kind <;> simp [recordError_mem]

theorem touchValid_wf (w : Nat) (s : State) (h : memWf s.mem = true) : memWf (touchValid w s).mem = true := by
  have k : memWf { s.mem with words := sparseSet noWord s.mem.words w ⟨true, true, (s.mem.info w).check⟩ } = true := by
    rw [memWf_iff] at *
    exact ⟨h.1, sparseWf_set noWord s.mem.words w ⟨true, true, (s.mem.info w).check⟩ h.2.1, h.2.2⟩
  unfold touchValid
  dsimp only
  split
  · exact h
  · split
    · split
      · split <;> simpa [State.setMem] using k
      · exact k
    · exact k

theorem logSingles_mem (src : EccSource) (panel c : Nat) (g : GroupDecode) (s : State) : (logSingles src panel c g s).mem = s.mem := by
  refine foldl_keeps (fun t : State => t.mem = s.mem) _ (fun t k h => ?_) _ s rfl
  split
  · split <;> rw [eccEvent_mem] <;> exact h
  · exact h

theorem decodePanelCore_wf (src : EccSource) (panel : Nat) (s : State) (h : memWf s.mem = true) :
    memWf (decodePanelCore src panel s).2.mem = true := by
  unfold decodePanelCore
  extract_lets r
  refine rebuildParity_wf _ _ ?_
  show memWf r.2.mem = true
  refine foldl_keeps (fun x : PanelWork × State => memWf x.2.mem = true) _ ?_ _ _ h
  intro b c k
  extract_lets t g wb
  show memWf (logSingles src panel c g (t.setMem wb.1)).mem = true
  rw [logSingles_mem]
  exact writeBackGroup_wf t.mem panel c g k

theorem repairPanel_wf (src : EccSource) (w : Nat) (s : State) (h : memWf s.mem = true) : memWf (repairPanel src w s).2.mem = true := by
  unfold repairPanel
  dsimp only
  rw [eccEvent_mem]
  exact decodePanelCore_wf src _ s h

theorem repairQueued_wf (w : Nat) (s : State) (h : memWf s.mem = true) : memWf (repairQueued w s).mem = true := by
  refine foldl_keeps (fun t : State => memWf t.mem = true) _ (fun t r k => ?_) _ s h
  split
  · exact repairPanel_wf _ _ _ k
  · exact k

theorem decodePanel_wf (src : EccSource) (w : Nat) (s : State) (h : memWf s.mem = true) : memWf (decodePanel src w s).mem = true := by
  have k := repairQueued_wf w s h
  unfold decodePanel
  dsimp only
  split
  · exact repairPanel_wf _ _ _ k
  · exact k

theorem State.putWord_wf (s : State) (w : Nat) (d : W64) (p : Bool) (h : memWf s.mem = true) : memWf (s.putWord w d p).mem = true :=
  Sys2Proof.Safety.putWord_wf _ _ _ _ (updateParity_wf _ _ _ h)

/-- What a read or write of a word starts with keeps the canonical form. -/
theorem mended_wf (src : EccSource) (w : Nat) (s : State) (h : memWf s.mem = true) :
    memWf (if (touchValid w s).mem.isMulti w then decodePanel src w (touchValid w s) else touchValid w s).mem = true := by
  split
  · exact decodePanel_wf _ _ _ (touchValid_wf w s h)
  · exact touchValid_wf w s h

theorem readWord_wf (src : EccSource) (w : Nat) (s : State) (h : memWf s.mem = true) : memWf (readWord src w s).2.2.mem = true := by
  have k := mended_wf src w s h
  unfold readWord
  dsimp only
  split <;> dsimp only
  · rw [eccEvent_mem]; exact State.putWord_wf _ _ _ _ k
  · rw [eccEvent_mem]; exact State.putWord_wf _ _ _ _ k
  · exact k

theorem writeWord_wf (w lo : Nat) (bs : Payload) (s : State) (h : memWf s.mem = true) : memWf (writeWord w lo bs s).mem = true := by
  have k := mended_wf .access w s h
  unfold writeWord
  dsimp only
  refine State.putWord_wf _ _ _ _ ?_
  split
  · exact k
  · split
    · rw [eccEvent_mem]; exact k
    · rw [eccEvent_mem]; exact k
    · exact k

theorem readSpan_wf (src : EccSource) (k a n : Nat) (s : State) (h : memWf s.mem = true) : memWf (readSpan src k a n s).2.mem = true := by
  induction k generalizing a n s with
  | zero => exact h
  | succ k ih => exact ih _ _ _ (readWord_wf src _ s h)

theorem readMem_wf (src : EccSource) (a n : Nat) (s : State) (h : memWf s.mem = true) : memWf (readMem src a n s).2.mem = true := by
  unfold readMem
  split
  · exact h
  · exact readSpan_wf _ _ _ _ _ h

theorem writeSpan_wf (k a : Nat) (bs : Payload) (s : State) (h : memWf s.mem = true) : memWf (writeSpan k a bs s).mem = true := by
  induction k generalizing a bs s with
  | zero => exact h
  | succ k ih => exact ih _ _ _ (writeWord_wf _ _ _ s h)

theorem writeMem_wf (a : Nat) (bs : Payload) (s : State) (h : memWf s.mem = true) : memWf (writeMem a bs s).mem = true := by
  unfold writeMem
  split
  · exact h
  · exact writeSpan_wf _ _ _ _ h

theorem innerRead_wf (a n : Nat) (s : State) (h : memWf s.mem = true) : memWf (innerRead a n s).2.mem = true := by
  unfold innerRead
  split
  · exact h
  · exact readMem_wf _ _ _ _ h

theorem innerWrite_wf (a : Nat) (bs : Payload) (s : State) (h : memWf s.mem = true) : memWf (innerWrite a bs s).mem = true := by
  unfold innerWrite
  split
  · exact h
  · exact writeMem_wf _ _ _ h

theorem memRead_wf (a n : Nat) (s : State) (h : memWf s.mem = true) : memWf (memRead a n s).2.mem = true := by
  unfold memRead
  split
  · exact h
  · split
    · exact h
    · split
      · exact h
      · exact readMem_wf _ _ _ _ h

theorem breakReservations_mem (wr : Writer) (lo hi : Nat) (s : State) : (breakReservations wr lo hi s).mem = s.mem := by
  refine foldl_keeps (fun t : State => t.mem = s.mem) _ (fun t k h => ?_) _ s rfl
  cases wr with
  | none => exact h
  | some g =>
    dsimp only
    split
    · exact h
    · exact h

theorem rosterModified_mem (e : Nat) (s : State) : (rosterModified e s).mem = s.mem := by
  unfold rosterModified
  repeat' first | rfl | split

theorem memWrite_wf (wr : Writer) (a : Nat) (bs : Payload) (s : State) (h : memWf s.mem = true) : memWf (memWrite wr a bs s).mem = true := by
  unfold memWrite
  split
  · rw [memWf_iff] at *
    exact ⟨h.1, h.2.1, h.2.2.1, h.2.2.2.1, cellsWrite_wf _ _ _ _ h.2.2.2.2⟩
  · dsimp only
    split
    · rw [rosterModified_mem, breakReservations_mem]; exact writeMem_wf _ _ _ h
    · rw [breakReservations_mem]; exact writeMem_wf _ _ _ h

end Sys2Proof.Safety
end

