-- ==== Sys2Proof/Tests/Slice0.lean ====
section
/-!
SUPPORT. Sys2Proof/Tests/Slice0.lean: ill-formed commands that the check refuses, the manual's worked examples, and for every statement
a state and operands that meet its hypotheses, with the boundary values of its clauses.
-/

namespace Sys2Proof.Tests

open Sys2Proof.Machine Sys2Proof.Safety

-- one theorem at a time: a thread for each of them needs more memory than there is
set_option Elab.async false

/-! ### States -/

/-- Registers by page, offset and value. -/
def rg (l : List (Nat × Nat × Nat)) : Sparse W32 :=
  l.foldl (fun m x => sparseSet 0 m (regKey x.1 x.2.1) (w32 x.2.2)) [(regKey pgDbg 0x040, 0x08000000)]

/-- The device handed over, in a segment of its shift, with registers set and the rest as `f` leaves it. -/
def dev (seg : Segment) (l : List (Nat × Nat × Nat)) (f : State → State := id) : State :=
  f { State.reset with
    life := { State.reset.life with phase := .running }, ons := { State.reset.ons with runs := true, seg := seg }, regs := rg l }

/-- A test of the state that a command answers. -/
def after (c : Instr) (s : State) (p : State → Bool) : Bool := match exec c s with | .next t => p t | _ => false

/-- A Hewer's thread in supervisor state, its line at hand, segments over its Face memory and one over the register window. -/
def runner : Thread :=
  { idleThread with
    s := [(0, ⟨0, 0x07010000, 0xFC⟩), (1, ⟨0x1000, 0x03008000, 0xFC⟩), (2, ⟨0x1000, 0x01000010, 0xFC⟩), (3, ⟨0x1000, 0x02000010, 0xFC⟩),
      (4, ⟨0x10000000, 0x03001000, 0xFC⟩), (5, ⟨0x1000, 0x0B008000, 0xFC⟩), (6, ⟨0x1000, 0x0300000F, 0xFC⟩)]
    sr := 1, running := true, lineBuf := [(0, 0), (1, 0)]
    d := [(1, ⟨5, false⟩), (2, ⟨7, true⟩), (3, ⟨0x800000, false⟩), (4, ⟨0x7FFFFF, false⟩), (5, ⟨0xFFFFFB, false⟩), (6, ⟨24, false⟩), (8, ⟨87, false⟩),
      (9, ⟨88, false⟩), (10, ⟨23, false⟩)]
    a := [(1, 0x0D), (2, 0x12), (3, 0x15), (4, 0x1D), (5, 0x18), (6, 0x7FFE), (7, 0x40), (8, 0x100), (9, 0x08), (10, 0x10)] }

def h0 : Hart := ⟨0, 0⟩
def iA : Issue := ⟨h0, true, none⟩
/-- A syllable with an EXT. -/
def iX : Issue := ⟨h0, true, some 0x155554⟩
def bank0 : Bank := { State.reset.bank 0 with owner := 0 }

/-- The device with threads, Bank 0 in its Hewer's hands. -/
def hewer (t : Thread) (l : List (Nat × Nat × Nat) := []) (f : State → State := id) : State :=
  dev .primary l fun s => f { s with threads := [(0, t)], banks := [(0, bank0)] }

/-- A marked word at Face address 0x1008, a descriptor at 0x1040. -/
def marks : Mem := { State.reset.mem with
  data := [(0x1041, 0x30), (0x1045, 0x10), (0x1047, 0x03), (0x1048, 0xFC), (0x110C, 1)]
  words := [(0x201, ⟨true, true, checkOf 0 ^^^ 0x5B⟩), (0x208, ⟨true, true, checkOf 0x0300100000003000⟩), (0x209, ⟨true, true, checkOf 0xFC⟩), (0x221, ⟨true, true, checkOf 0x100000000⟩)] }
def marked_ (t : Thread) (l : List (Nat × Nat × Nat) := []) (f : State → State := id) : State := hewer t l fun s => f { s with mem := marks }

/-- An Overman's thread, and its replica. -/
def hO : Hart := ⟨32, 1⟩
def iO : Issue := ⟨hO, true, none⟩
def overman (role : Role) (f : State → State := id) : State :=
  dev .primary [] fun s => f { s with
    threads := [(hartKey hO, { runner with s := [(0, ⟨w32 (bankBase 48), 0x07200000, 0xFC⟩)], lineBuf := [(bankBase 48 / 64, 0), (bankBase 48 / 64 + 1, 0)] })]
    tri := { s.tri with replicas := [(0, { State.reset.replica 0 with role := role })] } }

/-! ### Deciding hypotheses -/

def readyB (i : Issue) (s : State) : Bool :=
  let t := s.thread i.hart
  mayIssue i.hart s && i.stop && decide (t.buf = []) && decide (t.rep = none) && decide (t.resume = none)
    && (match fetchFrom i.hart t (1 + b2n i.ext.isSome) t.pc.toNat s with | .ok _ => true | _ => false)
    && !wantsNext t (segAddr (t.sReg 0) t.pc.toNat / 64)

theorem fetch_of {x : Fetch} (h : (match x with | .ok _ => true | _ => false) = true) : ∃ l, x = .ok l := by
  cases x with
  | ok l => exact ⟨l, rfl⟩
  | miss _ => cases h
  | fault _ => cases h

theorem poised_of {i : Issue} {s : State} (h : readyB i s = true) : Poised i s := by
  simp only [readyB, Bool.and_eq_true, decide_eq_true_eq, Bool.not_eq_true'] at h
  obtain ⟨⟨⟨⟨⟨⟨h1, h2⟩, h3⟩, h4⟩, h5⟩, h6⟩, h7⟩ := h
  exact ⟨h1, h2, h3, h4, h5, fetch_of h6, h7⟩

theorem ready_of {i : Issue} {s : State} (h : readyB i s = true) (hl : (s.thread i.hart).locked = false) : Ready i s := ⟨poised_of h, hl⟩

theorem vectorReady_of {h : Hart} {s : State}
    (hp : (match servingPin h.core.val false (s.thread h) s with | some p => decide (p.failed = none) | none => true) = true) : vectorReady h s := by
  intro p e
  rw [e] at hp
  simpa using hp

def ownFaceB (h : Hart) (sg : Nat) (off : Int) (n unit : Nat) (k : AccKind) (p : Nat) (s : State) : Bool :=
  let t := s.thread h
  let c := h.core.val
  decide (c < 32) && decide ((p : Int) = ((t.sReg sg).base.toNat : Int) + off) && decide (0 ≤ off) && decide (off + n ≤ (t.sReg sg).limit)
    && decide (bankBase c ≤ p ∧ p + n ≤ bankBase c + 0x80000) && decide (p / unit = (p + n - 1) / unit)
    && decide (mpuDecide c ⟨BitVec.ofNat 8 c, t.priv⟩ k p s = none) && !panelRetired p s && decide (s.array c = .on)
    && decide ((s.bank c).owner.toNat = c ∧ (s.bank c).draining = false)

theorem ownFace_of {h : Hart} {sg : Nat} {off : Int} {n unit : Nat} {k : AccKind} {p : Nat} {s : State}
    (e : ownFaceB h sg off n unit k p s = true) : OwnFace h sg off n unit k p s := by
  simp only [ownFaceB, Bool.and_eq_true, decide_eq_true_eq, Bool.not_eq_true'] at e
  obtain ⟨⟨⟨⟨⟨⟨⟨⟨⟨h1, h2⟩, h3⟩, h4⟩, h5⟩, h6⟩, h7⟩, h8⟩, h9⟩, h10⟩ := e
  exact ⟨h1, h2, h3, h4, h5, h6, h7, h8, h9, h10⟩

def upTo (lo hi : Nat) (p : Nat → Bool) : Bool := (List.range (hi + 1 - lo)).all fun k => p (lo + k)

theorem upTo_spec {lo hi : Nat} {p : Nat → Bool} (h : upTo lo hi p = true) : ∀ w, lo ≤ w → w ≤ hi → p w = true := by
  intro w h1 h2
  have := List.all_eq_true.mp h (w - lo) (List.mem_range.mpr (by omega))
  rwa [show lo + (w - lo) = w by omega] at this

theorem faceLoad_of {h : Hart} {sg : Nat} {off : Int} {n unit p : Nat} {s : State}
    (e : (ownFaceB h sg off n unit .read p s && ((s.thread h).sReg sg).readable && upTo (p / 8) ((p + n - 1) / 8) (soundWord s.mem)
      && (s.core h.core.val).stores.all fun x => decide (x.thread ≠ h.thread)) = true) : FaceLoad h sg off n unit p s := by
  simp only [Bool.and_eq_true] at e
  obtain ⟨⟨⟨h1, h2⟩, h3⟩, h4⟩ := e
  exact ⟨ownFace_of h1, h2, upTo_spec h3, fun x hx => by simpa using List.all_eq_true.mp h4 x hx⟩

theorem faceStore_of {h : Hart} {sg : Nat} {off : Int} {n unit p : Nat} {s : State}
    (e : (ownFaceB h sg off n unit .write p s && ((s.thread h).sReg sg).writable && decide ((s.core h.core.val).stores.length ≤ 14)) = true) :
    FaceStore h sg off n unit p s := by
  simp only [Bool.and_eq_true, decide_eq_true_eq] at e
  obtain ⟨⟨h1, h2⟩, h3⟩ := e
  exact ⟨ownFace_of h1, h2, h3⟩

theorem admitted_of {q : Requester} {k : AccKind} {p off : Nat} {s : State}
    (e : (fabricUp s && masterIssues q.master.toNat s && (pageKind p).isSome && decide (off % 4 = 0) && decide (off < 0x800)
      && decide (mpuDecide 76 (settledRequester q) k (regAddr p off) s = none)) = true) : Admitted q k p off s := by
  simp only [Bool.and_eq_true, decide_eq_true_eq] at e
  obtain ⟨⟨⟨⟨⟨h1, h2⟩, h3⟩, h4⟩, h5⟩, h6⟩ := e
  exact ⟨h1, h2, h3, h4, h5, h6⟩

def lockstepB (p : Nat) (s : State) : Bool :=
  decide (s.comparator (33 + p) = .sound) && decide (sparseGet 0 s.delays p = 0) && decide ((s.deputy p).checker = (s.deputy p).master)

theorem depLockstep_of {p : Nat} {s : State} (e : lockstepB p s = true) : DepLockstep p s := by
  simp only [lockstepB, Bool.and_eq_true, decide_eq_true_eq] at e
  exact ⟨e.1.1, e.1.2, e.2⟩

def depReadyB (p n : Nat) (s : State) : Bool :=
  lockstepB p s && depRuns p s && decide (depFetch p n (s.deputy p).master.pc.toNat s = (none, s))

theorem depReady_of {p n : Nat} {s : State} (e : depReadyB p n s = true) : DepReady p n s := by
  simp only [depReadyB, Bool.and_eq_true, decide_eq_true_eq] at e
  exact ⟨depLockstep_of e.1.1, e.1.2, e.2⟩

theorem wireQuiet_of {s : State} (e : (!bit (s.reg pgDbg 0x09C) 31 && decide (s.life.heldBoot = none) && decide (s.pci.held = [])) = true) :
    WireQuiet s := by
  simp only [Bool.and_eq_true, Bool.not_eq_true', decide_eq_true_eq] at e
  exact ⟨e.1.1, e.1.2, e.2⟩

theorem pageKind_above {p : Nat} (h : 0x386 ≤ p) : pageKind p = none := by
  unfold pageKind
  repeat rw [if_neg (by omega)]

/-- No source is listed, and none of the pages that exist asserts one. -/
theorem bellAgrees_of {s : State}
    (e : (decide (s.bell = []) && (List.range 0x386).all (fun p => !pageAsserts p s) && decide ((s.reg pgBel 0x068).toNat % 2 ^ 16 = 0)) = true) :
    BellAgrees s := by
  simp only [Bool.and_eq_true, decide_eq_true_eq] at e
  obtain ⟨⟨h1, h2⟩, h3⟩ := e
  intro _ k
  rw [h1]
  refine ⟨fun h => (List.not_mem_nil h).elim, ?_⟩
  rintro (⟨p, h, hp⟩ | ⟨j, h, -, hj⟩)
  · by_cases hl : p < 0x386
    · simpa [hp] using List.all_eq_true.mp h2 p (List.mem_range.mpr hl)
    · rw [pageSource, pageKind_above (by omega)] at h
      cases h
  · have := Nat.testBit_mod_two_pow (s.reg pgBel 0x068).toNat 16 j
    simp only [bit, ← BitVec.testBit_toNat] at hj
    simp_all

def q23 : Requester := ⟨0x23, true⟩
def q20 : Requester := ⟨0x20, true⟩

theorem ready_runner : Ready iA (hewer runner) := ready_of (by decide +kernel) (by decide +kernel)
theorem ready_runner_ext : Ready iX (hewer runner) := ready_of (by decide +kernel) (by decide +kernel)
theorem ready_user : Ready iA (hewer { runner with sr := 0 }) := ready_of (by decide +kernel) (by decide +kernel)
theorem ready_overman : Ready iO (overman .active) := ready_of (by decide +kernel) (by decide +kernel)
theorem vector_runner : vectorReady h0 (hewer runner) := vectorReady_of (by decide +kernel)
theorem vector_user : vectorReady h0 (hewer { runner with sr := 0 }) := vectorReady_of (by decide +kernel)
theorem vector_overman : vectorReady hO (overman .active) := vectorReady_of (by decide +kernel)

/-- A load of `n` bytes at an offset that an A register holds. -/
def ld (ab : BitVec 4) : FMem := ⟨2, 1, ab, 0, 0⟩
def loadMet (sg : Nat) (ab : BitVec 4) (n unit p : Nat) (s : State) : Prop :=
  FaceLoad h0 sg (accessOffset iA ⟨2, BitVec.ofNat 3 sg, ab, 0, 0⟩ n (s.thread h0)) n unit p s
def storeMet (sg : Nat) (ab : BitVec 4) (n unit p : Nat) (s : State) : Prop :=
  FaceStore h0 sg (accessOffset iA ⟨2, BitVec.ofNat 3 sg, ab, 0, 0⟩ n (s.thread h0)) n unit p s

theorem modes_met : memMode iA (ld 5) ∧ memMode iA ⟨2, 1, 5, 2, 15⟩ ∧ memMode iX ⟨2, 1, 5, 1, 3⟩ := by unfold memMode; decide

/-- Region 0 of the register window's checker grants every master. -/
def open76 : List (Nat × Nat × Nat) := [(pgMpu 76, 0x104, 0x1FFFFFC0), (pgMpu 76, 0x108, 0x80FFFFFF), (pgMpu 76, 0x10C, 0xFFFFFFFF)]
def plain : State := dev .primary []
def opened (l : List (Nat × Nat × Nat) := []) (f : State → State := id) : State := dev .primary (open76 ++ l) f

/-! ### Ill-formed commands, one for each check -/

theorem test_illformed_hart : (Instr.lineFill ⟨33, 2⟩).wellFormed = false := by decide
theorem test_illformed_ext : (Instr.add iX ⟨0, 0, 0, 0⟩).wellFormed = false := by decide
theorem test_illformed_register_ext : (Instr.lds iX ⟨0, 0, 0, 2, 0⟩).wellFormed = false := by decide
theorem test_illformed_boundary : (Instr.shiftBoundary ⟨0, 0, false, [], [], [], 0⟩).wellFormed = false := by decide
theorem test_illformed_boot : (Instr.resetRelease ⟨0, false, false, [], none, true, false, 0, 26, none, []⟩).wellFormed = false := by decide
theorem test_illformed_page : (Instr.blkErrCodeClr q23 0x1000).wellFormed = false := by decide
theorem test_illformed_crossing : (Instr.crossingDelivery 3 3 []).wellFormed = false := by decide
theorem test_illformed_size : (Instr.registerWrite q23 0x10000000 3 0).wellFormed = false := by decide
theorem test_illformed_nop : (Instr.nop iA false 1).wellFormed = false := by decide
theorem test_wellformed_add : (Instr.add iA ⟨1, 2, 3, 0⟩).wellFormed = true := by decide
theorem test_illformed_frames :
    (Instr.tdmFrame 0 ⟨[], 64⟩ false).wellFormed = false ∧ (Instr.frameReceive 0 ⟨[], true, 0⟩).wellFormed = false := by decide
theorem test_illformed_selftest :
    (Instr.eccSelftestDone 0 (some (76, 0))).wellFormed = false ∧ (Instr.eccSelftestDone 0 (some (33, 0))).wellFormed = false := by decide
theorem test_illformed_readings :
    (Instr.lampRoomPeriod []).wellFormed = false ∧ (Instr.pmonRead (some 0x10000)).wellFormed = false
      ∧ (Instr.surveyDone 0 [1, 2, 3]).wellFormed = false ∧ (Instr.wdgKick q23 0 0x100000).wellFormed = false := by decide
theorem test_illformed_counters :
    (Instr.pmcCounterWrite q23 38 0 0).wellFormed = false ∧ (Instr.pmcCounterWrap 38 0).wellFormed = false
      ∧ (Instr.bwWindowEnd .stope 16).wellFormed = false ∧ (Instr.bwWindowEnd .adit 4).wellFormed = false := by decide
theorem test_illformed_host :
    (Instr.xspCmdDone (List.replicate 257 0) []).wellFormed = false ∧ (Instr.xspCmdDone [] [(0x10000000, 0)]).wellFormed = false
      ∧ (Instr.pcieBarRead 0 0 513 true).wellFormed = false ∧ (Instr.pcieBarWrite 0 0 (List.replicate 257 0) true).wellFormed = false := by decide +kernel
theorem test_illformed_handover : (Instr.bootHandover 0 ⟨0, 0, false, [], [], [], 0⟩).wellFormed = false := by decide
/-- ADD's opcode is assigned; slot C's 0x7F is EXT (R106). -/
theorem test_illformed_opcode :
    (Instr.illegalOpcode iA 1 0x01 0).wellFormed = false ∧ (Instr.illegalOpcode iA 3 0x7F 0).wellFormed = false := by decide

/-! ### Hypotheses of the statements: Hewer operations -/

theorem witness_ArithmeticAndComparesWriteTheirResult :
    Ready iA (hewer runner) ∧ Ready iX (hewer runner) ∧ iA.ext = none ∧ immediateOk iA 0xFFF ∧ immediateOk iX 3
      ∧ (15#5).toNat < 16 ∧ ¬(16#5).toNat < 16 :=
  ⟨ready_runner, ready_runner_ext, by unfold immediateOk; decide +kernel⟩

theorem witness_ShiftsFieldsAndPermutes :
    Ready iA (hewer runner) ∧ vectorReady h0 (hewer runner)
      ∧ (let d (n : Nat) := ((hewer runner).thread h0).dReg n
        let im (n : BitVec 12) := (immediate iA n false).toNat
        ((d 6).poison = false ∧ (d 2).poison = true)
        ∧ (immediateOk iA 23 ∧ im 23 ≤ 23 ∧ 23 < im 24)
        ∧ (im 0x057 < 4096 ∧ im 0x057 / 64 % 64 = 1 ∧ im 0x057 % 64 + 1 = 24)
        ∧ (im 0x058 / 64 % 64 = 1 ∧ 24 < im 0x058 % 64 + 1) ∧ im 0x017 / 64 % 64 = 0
        ∧ ((d 8).bits.toNat / 64 % 64 ≠ 0 ∧ (d 8).bits.toNat % 64 = 23) ∧ (d 9).bits.toNat % 64 = 24 ∧ (d 10).bits.toNat / 64 % 64 = 0
        ∧ ((4#5).toNat % 2 = 0 ∧ (5#5).toNat % 2 = 1) ∧ im 0x1FF < 512 ∧ 512 ≤ im 0x200) :=
  ⟨ready_runner, vector_runner, by unfold immediateOk; decide +kernel⟩

theorem witness_MovesCopyRegisters :
    Ready iA (hewer runner) ∧ Ready iX (hewer runner) ∧ vectorReady h0 (hewer runner) ∧ immediateOk iX 3
      ∧ (((hewer runner).thread h0).dReg 1).poison = false ∧ (((hewer runner).thread h0).dReg 2).poison = true :=
  ⟨ready_runner, ready_runner_ext, vector_runner, by unfold immediateOk; decide +kernel⟩

theorem witness_SpecialRegistersAreReadAndWritten :
    Ready iA (hewer runner) ∧ Ready iA (hewer { runner with sr := 0 }) ∧ vectorReady h0 (hewer runner) ∧ vectorReady h0 (hewer { runner with sr := 0 })
      ∧ bit ((hewer runner).thread h0).sr 0 = true ∧ bit ((hewer { runner with sr := 0 }).thread h0).sr 0 = false
      ∧ (((hewer runner).thread h0).dReg 4).poison = false ∧ (((hewer runner).thread h0).dReg 5).poison = false
      ∧ (((hewer runner).thread h0).dReg 2).poison = true :=
  ⟨ready_runner, ready_user, vector_runner, vector_user, by decide +kernel⟩

/-- The noise gate of Example 5.3 as XOP5, in District 0; XOP2 has no valid entry. -/
def xops : State :=
  hewer { runner with d := [(2, ⟨7, true⟩), (10, ⟨0xFFF400, false⟩), (11, ⟨0x001000, false⟩), (12, ⟨0x002000, false⟩)] } [] fun s => { s with
    eff := [(regKey (pgHwr 0) 0x114, 0x80000C40)]
    mem := { s.mem with ustore := [(0x402, 0x03), (0x407, 0x10), (0x412, 0x21), (0x413, 0x01), (0x416, 0x11), (0x422, 0x31), (0x423, 0x02), (0x427, 0x10),
      (0x432, 0x30), (0x433, 0x4A)] } }

theorem ready_xops : Ready iA xops := ready_of (by decide +kernel) (by decide +kernel)

/-- Example 5.3: GATE D3, D10, D11 and the same of 0x00_2000. -/
theorem test_xop_gate :
    after (.xop iA 5 ⟨3, 10, 11, 0⟩) xops (fun t => decide ((t.thread h0).dReg 3 = ⟨0, false⟩)) = true
      ∧ after (.xop iA 5 ⟨3, 12, 11, 0⟩) xops (fun t => decide ((t.thread h0).dReg 3 = ⟨0x002000, false⟩)) = true := by decide +kernel

theorem witness_ProductsAndXops :
    Ready iA (hewer runner) ∧ vectorReady h0 (hewer runner) ∧ Ready iA xops ∧ vectorReady h0 xops
      ∧ ((24#7).toInt = 24 ∧ (25#7).toInt = 25 ∧ (0x68#7).toInt = -24 ∧ (0x67#7).toInt = -25)
      ∧ (let r k a := runXop 0 k ((xops.thread h0).dReg a) ((xops.thread h0).dReg 11) ((xops.thread h0).dReg 3) xops
        r 5 12 = .ok ⟨0x002000, false⟩ ∧ r 2 12 = .illegal ∧ r 5 2 = .poison)
      ∧ bit (xops.effReg (pgHwr 0) 0x108) 31 = false :=
  ⟨ready_runner, vector_runner, ready_xops, vectorReady_of (by decide +kernel), by decide +kernel⟩

theorem witness_ExtractionsAndVectorLanes :
    Ready iA (hewer runner) ∧ vectorReady h0 (hewer runner) ∧ iA.ext = none
      ∧ ((8#7).toNat % 16 ≤ 8 ∧ (0x18#7).toNat % 16 ≤ 8 ∧ 8 < (9#7).toNat % 16 ∧ (0x1F#7).toNat < 32)
      ∧ ((8#13).toNat % 16 ≤ 8 ∧ 8 < (9#13).toNat % 16 ∧ (7#13).toNat < 8) :=
  ⟨ready_runner, vector_runner, by decide +kernel⟩

/-- Targets at and beside a multiple of 4, with and without an EXT; conditions zero, set, poisoned. -/
theorem witness_BranchesAndJumps :
    Ready iA (hewer runner) ∧ Ready iX (hewer runner) ∧ vectorReady h0 (hewer runner)
      ∧ (let t := (hewer runner).thread h0
        (t.dReg 0 = ⟨0, false⟩ ∧ t.dReg 1 = ⟨5, false⟩ ∧ (t.dReg 2).poison = true)
        ∧ ((branchTarget iA ⟨0, 0x1FFFF⟩ t.pc).toNat % 4 = 0 ∧ (branchTarget iX ⟨0, 3⟩ t.pc).toNat % 4 = 0)
        ∧ (branchTarget { iX with ext := some 1 } ⟨0, 3⟩ t.pc).toNat % 4 = 1
        ∧ (t.aReg 7).toNat % 4 = 0 ∧ (t.aReg 3).toNat % 4 = 1)
      ∧ Ready { iX with ext := some 1 } (hewer runner) :=
  ⟨ready_runner, ready_runner_ext, vector_runner, by decide +kernel, ready_of (by decide +kernel) (by decide +kernel)⟩

/-- Returns: to user state, to a supervisor that supervisor state saved, refused, to a misaligned pc, and from user state. -/
theorem witness_SystemOperationsAndReturns :
    Ready iA (hewer runner) ∧ vectorReady h0 (hewer runner)
      ∧ Ready iA (hewer { runner with xpc := 0x40, xsr := 0x01000003 }) ∧ Ready iA (hewer { runner with xpc := 0x40, xsr := 1 })
      ∧ Ready iA (hewer { runner with xpc := 0x42 }) ∧ Ready iA (hewer { runner with sr := 0 })
      ∧ (bit 0x01000003#32 24 = true ∧ bit 1#32 0 = true ∧ bit 1#32 24 = false ∧ bit 1#32 25 = false) :=
  ⟨ready_runner, vector_runner, ready_of (by decide +kernel) (by decide +kernel), ready_of (by decide +kernel) (by decide +kernel),
    ready_of (by decide +kernel) (by decide +kernel), ready_user, by decide +kernel⟩

/-- A thread at a repeated bundle. -/
def repeating (kind : RepKind) (left : Nat) (rc : W24) (deferred : Option W24) : State :=
  hewer { runner with rep := some ⟨kind, left, false, none, rc, deferred⟩, rc := rc }

def repeatMet (s : State) : Prop := Ready iA (s.setThread h0 { s.thread h0 with rep := none }) ∧ checkpointHolds h0 s = false

theorem repeat_met (kind : RepKind) (left : Nat) (rc : W24) (deferred : Option W24)
    (h : readyB iA ((repeating kind left rc deferred).setThread h0 { (repeating kind left rc deferred).thread h0 with rep := none }) = true)
    (hl : (((repeating kind left rc deferred).setThread h0 { (repeating kind left rc deferred).thread h0 with rep := none }).thread h0).locked = false)
    (hc : checkpointHolds h0 (repeating kind left rc deferred) = false) : repeatMet (repeating kind left rc deferred) := ⟨ready_of h hl, hc⟩

theorem witness_RepeatsRunTheirBundle :
    Ready iA (hewer runner) ∧ repeatMet (repeating .rep 2 9 none) ∧ repeatMet (repeating .rep 1 9 (some 7)) ∧ repeatMet (repeating .repi 3 2 none)
      ∧ repeatMet (repeating .repi 1 1 none) ∧ repeatMet (repeating .repi 0 0 none) := by
  refine ⟨ready_runner, ?_, ?_, ?_, ?_, ?_⟩ <;> exact repeat_met _ _ _ _ (by decide +kernel) (by decide +kernel) (by decide +kernel)

theorem witness_BundlesAndIllegalSyllables :
    Ready iA (hewer runner) ∧ vectorReady h0 (hewer runner) ∧ Ready iO (overman .active) ∧ vectorReady hO (overman .active)
      ∧ (∃ l, fetchFrom h0 ((hewer runner).thread h0) 2 ((hewer runner).thread h0).pc.toNat (hewer runner) = .ok l)
      ∧ (fmtOf 3 0x7E = none ∧ fmtOf 0 0x7F = none ∧ iA.hart.core.val < 32 ∧ 32 ≤ iO.hart.core.val) :=
  ⟨ready_runner, vector_runner, ready_overman, vector_overman,
    fetch_of (by decide +kernel), by decide +kernel⟩

/-! ### Hypotheses of the statements: Hewer memory -/

theorem ready_marked : Ready iA (marked_ runner) := ready_of (by decide +kernel) (by decide +kernel)
theorem vector_marked : vectorReady h0 (marked_ runner) := vectorReady_of (by decide +kernel)

/-- A thread in a SHADOW pass with ROT, or NEG+ROT. -/
def shadowing (xform : Nat) : State := marked_ { runner with sr := w32 (0x11 + 0x20 * xform) }

/-- Accesses that end at the end of their word; a clean and a marked LDA; the mirrored element 0 of a group. -/
theorem witness_LoadsAndShadowPasses :
    Ready iA (marked_ runner) ∧ vectorReady h0 (marked_ runner) ∧ memMode iA (ld 5) ∧ shadowPass ((marked_ runner).thread h0) = false
      ∧ loadMet 1 5 1 8 0x1018 (marked_ runner) ∧ loadMet 1 5 2 8 0x1018 (marked_ runner) ∧ loadMet 1 4 3 8 0x101D (marked_ runner)
      ∧ loadMet 1 5 4 8 0x1018 (marked_ runner) ∧ loadMet 1 5 8 8 0x1018 (marked_ runner) ∧ loadMet 1 9 3 8 0x1008 (marked_ runner)
      ∧ loadMet 2 1 3 8 0x100D (marked_ runner) ∧ (storedValue marks 0x101D 3).2 = false ∧ (storedValue marks 0x1008 3).2 = true
      ∧ (Ready iA (shadowing 1) ∧ Ready iA (shadowing 2) ∧ FaceLoad h0 5 (24 + 3 * (7 - 2 * (24 / 3 % 8))) 3 8 0x102D (shadowing 1)
        ∧ FaceLoad h0 5 (24 + 3 * (7 - 2 * (24 / 3 % 8))) 3 8 0x102D (shadowing 2)
        ∧ (let t := (shadowing 1).thread h0
          bit t.sr 4 = true ∧ t.sr.toNat / 32 % 4 = 1 ∧ (t.sReg 5).shadow = true ∧ accessOffset iA ⟨2, 5, 5, 0, 0⟩ 3 t = 24)) := by
  refine ⟨ready_marked, vector_marked, modes_met.1, by decide +kernel, faceLoad_of ?_, faceLoad_of ?_, faceLoad_of ?_, faceLoad_of ?_, faceLoad_of ?_,
    faceLoad_of ?_, faceLoad_of ?_, ?_, ?_, ready_of ?_ ?_, ready_of ?_ ?_, faceLoad_of ?_, faceLoad_of ?_, ?_⟩ <;> decide +kernel

/-- LDSEG of a permitted descriptor, of one with a reserved word set, of a marked one; in user state; vector loads aligned and not. -/
theorem witness_VectorAndSegmentLoads :
    Ready iA (marked_ runner) ∧ vectorReady h0 (marked_ runner) ∧ memMode iA (ld 5) ∧ shadowPass ((marked_ runner).thread h0) = false
      ∧ loadMet 1 7 24 32 0x1040 (marked_ runner) ∧ loadMet 1 7 32 32 0x1040 (marked_ runner)
      ∧ (accessOffset iA (ld 7) 24 runner % 8 = 0 ∧ accessOffset iA (ld 2) 24 runner % 8 = 2 ∧ accessOffset iA (ld 2) 16 runner % 16 = 2)
      ∧ loadMet 1 7 16 16 0x1040 (marked_ runner) ∧ loadMet 2 0 16 16 0x1000 (marked_ runner) ∧ loadMet 1 8 16 16 0x1100 (marked_ runner)
      ∧ (let w (p k : Nat) : W32 := BitVec.ofNat 32 (storedValue marks (p + 4 * k) 4).1
        (storedValue marks 0x1040 16).2 = false ∧ descriptorOk 0 (w 0x1040 0) (w 0x1040 1) (w 0x1040 2) (w 0x1040 3) = true
        ∧ (storedValue marks 0x1100 16).2 = false ∧ descriptorOk 0 (w 0x1100 0) (w 0x1100 1) (w 0x1100 2) (w 0x1100 3) = false
        ∧ (storedValue marks 0x1000 16).2 = true)
      ∧ Ready iA (hewer { runner with sr := 0 }) ∧ vectorReady h0 (hewer { runner with sr := 0 })
      ∧ ((marked_ runner).thread h0).priv = true ∧ ((hewer { runner with sr := 0 }).thread h0).priv = false := by
  refine ⟨ready_marked, vector_marked, modes_met.1, by decide +kernel, faceLoad_of ?_, faceLoad_of ?_, ?_, faceLoad_of ?_, faceLoad_of ?_,
    faceLoad_of ?_, ?_, ready_user, vector_user, ?_⟩ <;> decide +kernel

/-- Sixteen entries, two of which are free. -/
def nearlyFull : State := hewer runner [] fun s => { s with cores := [(0, { State.reset.core 0 with stores := List.replicate 14 ⟨1, 0x2000, [(0, false)], false⟩ })] }

theorem witness_StoresGoIntoTheStoreBuffer :
    Ready iA nearlyFull ∧ memMode iA (ld 5) ∧ shadowPass (nearlyFull.thread h0) = false
      ∧ storeMet 1 5 1 8 0x1018 nearlyFull ∧ storeMet 1 5 2 8 0x1018 nearlyFull ∧ storeMet 1 4 3 8 0x101D nearlyFull
      ∧ storeMet 1 5 4 8 0x1018 nearlyFull ∧ storeMet 0 5 8 8 0x18 nearlyFull ∧ storeMet 1 7 24 32 0x1040 nearlyFull ∧ storeMet 1 7 32 32 0x1040 nearlyFull
      ∧ storeMet 1 10 16 16 0x1010 nearlyFull ∧ (nearlyFull.thread h0).priv = true
      ∧ Ready iA (hewer { runner with sr := 0 }) ∧ vectorReady h0 (hewer { runner with sr := 0 })
      ∧ ((hewer { runner with sr := 0 }).thread h0).priv = false := by
  refine ⟨ready_of ?_ ?_, modes_met.1, ?_, faceStore_of ?_, faceStore_of ?_, faceStore_of ?_, faceStore_of ?_, faceStore_of ?_, faceStore_of ?_,
    faceStore_of ?_, faceStore_of ?_, ?_, ready_user, vector_user, ?_⟩ <;> decide +kernel

/-- A buffered store of a whole word at the end of the Face memory, and one behind it. -/
def buffered : State := hewer runner [] fun s => { s with cores := [(0, { State.reset.core 0 with
  stores := [⟨1, 0x7FFF8, List.replicate 8 (5, true), false⟩, ⟨0, 0x1020, [(1, false)], false⟩] })] }
/-- The two halves of a store across a word's end. -/
def bufferedPair : State := hewer runner [] fun s => { s with cores := [(0, { State.reset.core 0 with
  stores := [⟨1, 0x101E, [(5, true), (5, true)], true⟩, ⟨1, 0x1020, [(1, false)], false⟩] })] }

theorem witness_ExchangesAndBufferedStores :
    Ready iA (hewer runner) ∧ memMode iA (ld 4) ∧ shadowPass ((hewer runner).thread h0) = false
      ∧ loadMet 1 4 3 8 0x101D (hewer runner) ∧ storeMet 1 4 3 8 0x101D (hewer runner)
      ∧ (∀ s ∈ [buffered, bufferedPair], live s = true ∧ coreOn 0 s = true ∧ (s.core 0).stores.length = 2
        ∧ (∀ x ∈ (s.core 0).stores, x.bytes ≠ [] ∧ bankBase 0 ≤ x.addr ∧ x.addr + x.bytes.length ≤ bankBase 0 + 0x80000
          ∧ ∀ w ∈ [x.addr / 8, (x.addr + x.bytes.length - 1) / 8], soundWord s.mem w = true)
        ∧ ∀ th : Fin 4, (s.thread ⟨0, th⟩).hold ≠ .storeBuffer)
      ∧ (buffered.core 0).stores.map (·.paired) = [false, false] ∧ (bufferedPair.core 0).stores.map (·.paired) = [true, false] := by
  exact ⟨ready_runner, modes_met.1, by decide +kernel, faceLoad_of (by decide +kernel), faceStore_of (by decide +kernel), by decide +kernel,
    by decide +kernel⟩

/-- Region 0 of Checker 0 covers 0x1000 and grants nobody. -/
def refusing : State := hewer runner [(pgMpu 0, 0x100, 0x1000), (pgMpu 0, 0x104, 0x1FC0), (pgMpu 0, 0x108, 0x80000000)]

theorem witness_AccessFaultsTrap :
    Ready iA (hewer runner) ∧ memMode iA (ld 1) ∧ shadowPass ((hewer runner).thread h0) = false ∧ vectorReady h0 (hewer runner)
      ∧ (let t := (hewer runner).thread h0
        let off (n : BitVec 3) (ab : BitVec 4) : Int := accessOffset iA ⟨2, n, ab, 0, 0⟩ 3 t
        (((t.sReg 6).limit : Int) < off 6 1 + 3 ∧ (((t.sReg 6).base.toNat : Int) + off 6 1) % 8 = 5)
        ∧ (off 2 1 + 3 = (t.sReg 2).limit ∧ (t.sReg 2).readable = true ∧ (t.sReg 2).writable = false)
        ∧ ((t.sReg 3).readable = false ∧ (t.sReg 3).writable = true)
        ∧ inWindow ((t.sReg 4).base + BitVec.ofInt 32 (off 4 0)).toNat = true)
      ∧ Ready iA refusing ∧ vectorReady h0 refusing ∧ bankOf 0x101D = some 0
      ∧ (mpuDecide 0 ⟨0, true⟩ .read 0x101D refusing).isSome = true :=
  ⟨ready_runner, modes_met.1, by decide +kernel, vector_runner, by decide +kernel, ready_of (by decide +kernel) (by decide +kernel),
    vectorReady_of (by decide +kernel), by decide +kernel⟩

/-- A held LDR or STR of BLK_EVT of the own page. -/
def held (opc : Nat) : State :=
  hewer { runner with hold := .access (opc = 0x51), buf := [sylWord true 0 opc (packMem ⟨2, 4, 0, 0, 3⟩)], d := [(2, ⟨5, false⟩)] } [(pgHwr 0, 0x00C, 0xFF)]

theorem witness_FarAccessesAndResponses :
    Ready iA (hewer runner) ∧ memMode iA ⟨4, 4, 0, 0, 3⟩ ∧ shadowPass ((hewer runner).thread h0) = false
      ∧ (let t := (hewer runner).thread h0
        let off := accessOffset iA ⟨4, 4, 0, 0, 3⟩ 4 t
        let addr := (((t.sReg 4).base.toNat : Int) + off).toNat
        off = 12 ∧ off + 4 ≤ ((t.sReg 4).limit : Int) ∧ addr = regAddr (pgHwr 0) 0x00C ∧ (t.sReg 4).gated = false ∧ bankOf addr = none
          ∧ (t.sReg 4).readable = true ∧ (t.sReg 4).writable = true ∧ (t.dReg 4).poison = false ∧ (t.dReg 5).poison = false)
      ∧ ∀ opc ∈ [0x50, 0x51], let s := held opc
        let t := s.thread h0
        (∃ b, t.hold = .access b) ∧ t.rep = none ∧ t.resume = none ∧ t.locked = false ∧ live s = true ∧ isThread h0 = true ∧ t.running = true ∧ coreRuns h0 s = true
          ∧ checkpointHolds h0 s = false ∧ t.buf = [sylWord true 0 opc (packMem ⟨2, 4, 0, 0, 3⟩)]
          ∧ (regAddr (pgHwr 0) 0x00C : Int) = ((t.sReg 4).base.toNat : Int) + accessOffset iA ⟨2, 4, 0, 0, 3⟩ 4 t ∧ (pageKind (pgHwr 0)).isSome = true
          ∧ mpuDecide 76 ⟨0, true⟩ .read (mpuAddress .read (regAddr (pgHwr 0) 0x00C)) s = none ∧ mpuDecide 76 ⟨0, true⟩ .write (regAddr (pgHwr 0) 0x00C) s = none
          ∧ (t.dReg 2).poison = false ∧ (t.dReg 3).poison = false :=
  ⟨ready_runner, by unfold memMode; decide, by decide +kernel, by decide +kernel, by decide +kernel⟩

/-- A block instruction with two elements to go, and with none. -/
def moving (n : W24) : State := hewer { runner with bn := n, block := some ⟨5, ⟨3, true⟩, []⟩ }

theorem witness_BlockElementsAreMoved :
    Ready iA (moving 2) ∧ Ready iA (moving 1) ∧ Ready iA (moving 0) ∧ shadowPass ((moving 2).thread h0) = false ∧ ((moving 2).thread h0).priv = true
      ∧ FaceLoad h0 1 0x40 3 8 0x1040 (moving 2) ∧ FaceLoad h0 1 0x40 8 8 0x1040 (moving 2) ∧ FaceLoad h0 1 0x40 24 32 0x1040 (moving 2)
      ∧ FaceStore h0 1 0x100 3 8 0x1100 (moving 2) ∧ FaceStore h0 1 0x100 8 8 0x1100 (moving 2) ∧ FaceStore h0 1 0x100 24 32 0x1100 (moving 2)
      ∧ (((moving 2).thread h0).aReg 7 = 0x40 ∧ ((moving 2).thread h0).aReg 8 = 0x100 ∧ 1 < ((moving 2).thread h0).bn.toNat
        ∧ ((moving 0).thread h0).bn = 0 ∧ ((moving 1).thread h0).bn = 1
        ∧ ∀ b, ((moving 2).thread h0).block = some b → b.records = []) := by
  refine ⟨ready_of ?_ ?_, ready_of ?_ ?_, ready_of ?_ ?_, ?_, ?_, faceLoad_of ?_, faceLoad_of ?_, faceLoad_of ?_, faceStore_of ?_, faceStore_of ?_, faceStore_of ?_, ?_⟩
    <;> decide +kernel

/-! ### Hypotheses of the statements: locked sequences, interrupts and holds -/

/-- A thread inside a sequence; `owner` of Bank 0 its Hewer. -/
def locking (l : LockSeq) : State := hewer { runner with sr := 0x81, lock := l }
def reserved (broken : Bool) (stores : List LockStore) : State := locking ⟨6, [0x1018 / 8], stores, broken⟩
def stored : LockStore := ⟨0x101D, ⟨0x123456, true⟩, 1, 0x1D⟩
def stored2 : LockStore := ⟨0x1010, ⟨5, false⟩, 1, 0x10⟩

/-- A second LDK with one reservation held; a second STK with one buffered; UNLOCK of one store in the last three bytes of its word; a broken sequence;
the seventh bundle. -/
theorem witness_LockedSequencesAreAtomic :
    Poised iA (locking ⟨6, [0x1018 / 8], [], false⟩) ∧ memMode iA (ld 5) ∧ Poised iA (reserved false [stored]) ∧ Poised iA (reserved true [])
      ∧ loadMet 1 10 3 8 0x1010 (locking ⟨6, [0x1018 / 8], [], false⟩) ∧ storeMet 1 4 3 8 0x101D (reserved false [stored])
      ∧ (∀ s ∈ [reserved false [stored], reserved true []], let t := s.thread h0
        t.locked = true ∧ shadowPass t = false ∧ t.lock.bundles < 7 ∧ (t.sReg 1).gated = false ∧ t.lock.words.length < 2 ∧ t.lock.stores.length < 2
          ∧ (∀ w ∈ t.lock.words, bankOf (8 * w) = some 0) ∧ 0x1010 / 8 ∉ t.lock.words ∧ 0x101D / 8 ∈ t.lock.words)
      ∧ (∀ l ∈ [[stored], [stored, stored2]], let s := reserved false l
        (s.thread h0).lock.stores = l ∧ (s.thread h0).lock.broken = false ∧ (s.core 0).stores = [] ∧ s.array 0 = .on ∧ (s.bank 0).owner.toNat = 0
          ∧ (s.bank 0).draining = false ∧ ∀ x ∈ l, x.addr % 8 ≤ 5 ∧ soundWord s.mem (x.addr / 8) = true ∧ bankOf x.addr = some 0 ∧ panelRetired x.addr s = false
            ∧ mpuDecide 0 ⟨0, true⟩ .write x.addr s = none)
      ∧ Poised iA (reserved false [stored, stored2])
      ∧ ((reserved true []).thread h0).lock.broken = true ∧ vectorReady h0 (reserved true []) := by
  refine ⟨poised_of ?_, modes_met.1, poised_of ?_, poised_of ?_, faceLoad_of ?_, faceStore_of ?_, ?_, ?_, poised_of ?_, ?_, vectorReady_of ?_⟩ <;> decide +kernel

/-- Software event 296 is set and routed with priority 3 to thread 0 of Hewer 0. -/
def called (sr : W32) (hold : Hold) (on : Bool) : State :=
  hewer { runner with sr := sr, hold := hold } (if on then [(pgBel, 0x068, 1)] else []) fun s =>
    { s with eff := [(regKey pgBel (0x100 + 4 * 296), 0x83000000)], bell := if on then [296] else [] }

theorem witness_InterruptsAndWaits :
    (let s := called 3 .none true;
      mayGoOn h0 s = true ∧ (s.thread h0).entering = none ∧ mayAccept (s.thread h0) = true ∧ heldStore (s.thread h0) = false
        ∧ chosenEvent (.hewer 0 0) s = some 296
        ∧ (match servingPin 0 true (s.thread h0) s with | some p => decide (p.failed = none) | none => true) = true)
      ∧ (mayGoOn h0 (called 1 .none true) = true ∧ bit ((called 1 .none true).thread h0).sr 1 = false)
      ∧ (mayGoOn h0 (called 3 .none false) = true ∧ chosenEvent (.hewer 0 0) (called 3 .none false) = none)
      ∧ ∀ on : Bool, let s := called 1 .wait on;
        mayGoOn h0 s = true ∧ (s.thread h0).hold = .wait ∧ bit (s.thread h0).sr 1 = false ∧ (chosenEvent (.hewer 0 0) s).isSome = on := by decide +kernel

/-- A bundle that waits for its line, the line behind it at hand or not. -/
def missing (next : Bool) : State :=
  hewer { runner with hold := .lineFill, buf := [sylWord true 1 0 0], lineBuf := if next then [(3, 0)] else [], pc := 0x80 }

theorem witness_LineFillsAndFlush :
    (∀ next : Bool, let s := missing next
      let t := s.thread h0
      mayGoOn h0 s = true ∧ checkpointHolds h0 s = false ∧ t.hold = .lineFill ∧ t.buf = [sylWord true 1 0 0] ∧ t.rep = none ∧ t.resume = none
        ∧ t.locked = false ∧ (t.sReg 0).executable = true ∧ t.pc.toNat + 4 ≤ (t.sReg 0).limit ∧ 0x80 = (t.sReg 0).base.toNat + t.pc.toNat
        ∧ bankOf 0x80 = some 0 ∧ t.lineBuf.find? (fun x => decide (x.1 = 0x80 / 64)) = none ∧ cacheLine 0 (0x80 / 64) s = none ∧ mpuDecide 0 ⟨0, true⟩ .fetch (0x80 / 64 * 64) s = none
        ∧ panelRetired 0x80 s = false ∧ s.array 0 = .on ∧ (s.bank 0).owner.toNat = 0 ∧ (s.bank 0).draining = false ∧ wantsNext t (0x80 / 64) = !next)
      ∧ (∀ w, 0x80 / 64 * 8 ≤ w → w ≤ 0x80 / 64 * 8 + 7 → (soundWord (missing true).mem w && !((missing true).mem.decoded w).2.2) = true)
      ∧ Ready iA (hewer runner) :=
  ⟨by decide +kernel, upTo_spec (by decide +kernel), ready_runner⟩

theorem witness_ChecksAndAgree :
    Ready iO (overman .active) ∧ Ready iO (overman .solo) ∧ vectorReady hO (overman .active)
      ∧ (32 ≤ iO.hart.core.val ∧ ((overman .active).replica 0).role = .active ∧ (overman .active).tri.ckOpen = false
        ∧ ((overman .solo).replica 0).role = .solo ∧ (2#2) ≠ 3)
      ∧ (let t := (overman .active).thread hO
        t.agreed = none ∧ (t.dReg 1).poison = false ∧ (t.dReg 2).poison = true) :=
  ⟨ready_overman, ready_of (by decide +kernel) (by decide +kernel), vector_overman, by decide +kernel⟩

/-! ### Hypotheses of the statements: the shift -/

def task (hewer thread : Nat) (pred : Option Nat) (st : TaskState) : TaskRec := ⟨hewer, thread, 0, 2, pred, 0x100, 0x55, false, st⟩
def tasks (seg : Segment) (l : List (Nat × TaskRec)) (f : State → State := id) : State :=
  dev seg [] fun s => f { s with ons := { s.ons with tasks := l.map fun x => (x.1, some x.2) } }

theorem witness_EdgesAndBoundaries :
    (∀ seg ∈ [Segment.intake, .primary, .shadow, .verdict, .drain, .cutoff], live (dev seg []) = true ∧ (dev seg []).ons.runs = true ∧ (dev seg []).ons.seg = seg)
      ∧ (live State.reset = false ∨ State.reset.ons.runs = false)
      ∧ (let s (r : Nat) := dev .lamp [(pgOns, 0x044, r)]
        ∀ r ∈ [2, 4], live (s r) = true ∧ (s r).ons.runs = true ∧ (s r).ons.seg = .lamp ∧ (s r).getFld pgLrm 0x040 0 2 ≠ 3 ∧ soloReplicas (s r) = []
          ∧ rosterResult (s r) = r ∧ (s r).ons.readyLate = false)
      ∧ (let s := dev .lamp [(pgOns, 0x04C, 63), (pgLrm, 0x080, 0x8000)] fun s => { s with ons := { s.ons with first := false } }
        bit (s.reg pgLrm 0x080) 15 = true ∧ (shiftNo s).toNat % 64 = 63 ∧ s.ons.first = false) := by decide +kernel

/-- The plan of Stope banks 32 and 47 names other owners for the phases. -/
def planned (seg : Segment) : State :=
  dev seg [(pgOns, 0x004, 1), (pgOns, 0x100, 0x03020150), (pgOns, 0x104, 0x80000005), (pgOns, 0x178, 0x03020150), (pgOns, 0x17C, 0x80000005)] fun s =>
    { s with eff := [(regKey pgOns 0x004, 1)] }

/-- The plans' owner of INTAKE is an Adit port. -/
theorem witness_BoundaryAppliesThePlan : ∀ k ∈ [(0 : Fin 16), 15],
    let s := dev .lamp [(pgOns, 0x004, 1), (pgOns, 0x100, 0x03020193), (pgOns, 0x104, 0x80000005), (pgOns, 0x178, 0x03020193), (pgOns, 0x17C, 0x80000005)]
    live s = true ∧ s.ons.runs = true ∧ s.ons.seg = .lamp ∧ s.getFld pgLrm 0x040 0 2 ≠ 3 ∧ soloReplicas s = [] ∧ rosterResult s ≠ 2
      ∧ bit (s.reg pgOns 0x004) 0 = true ∧ bit (planB (activeBuffer s) k.val s) 31 = true ∧ (s.bank (32 + k.val)).draining = false
      ∧ fld (planA (activeBuffer s) k.val s) 0 8 = 0x93 ∧ ownerField (32 + k.val) s ≠ 0x93 := by decide +kernel

theorem witness_EdgesApplyThePlanAndCut :
    (∀ seg ∈ [Segment.intake, .primary, .shadow, .verdict], ∀ k ∈ [(0 : Fin 16), 15], let s := planned seg
      let b := activeBuffer s
      live s = true ∧ s.ons.runs = true ∧ s.active pgOns = true ∧ bit (planB b k.val s) 31 = true ∧ (s.bank (32 + k.val)).draining = false ∧ s.ons.seg = seg
        ∧ ∀ o ∈ [fld (planA b k.val s) 8 8, fld (planA b k.val s) 16 8, fld (planA b k.val s) 24 8, fld (planB b k.val s) 0 8],
          o < 32 ∧ quarantined o s = false ∧ ownerField (32 + k.val) s ≠ o)
      ∧ (let s seg := tasks seg [(3, task 0 0 none .inPrimary), (4, task 0 1 none .waiting), (7, task 3 2 none .donePrimary), (1023, task 31 3 none .inShadow)]
        live (s .primary) = true ∧ (s .primary).ons.runs = true ∧ (s .shadow).ons.seg = .shadow ∧ (s .primary).task 3 = some (task 0 0 none .inPrimary)
          ∧ (s .primary).task 4 = some (task 0 1 none .waiting) ∧ (s .shadow).task 7 = some (task 3 2 none .donePrimary)
          ∧ (s .shadow).task 1023 = some (task 31 3 none .inShadow)) := by decide +kernel

def sigOf (b : W64) (p : Bool) : Sig := ⟨b, checkOf b, p⟩
/-- Task 9 has completed both passes, with these signatures. -/
def judged (a b : Sig) : State := tasks .shadow [(9, task 2 1 none .done)] fun s => { s with ons := { s.ons with verdicts := [(18, some a), (19, some b)] } }
/-- Thread 0 of Hewer 0 has retired TDONE in a pass of task 3. -/
def ending (pass : Nat) (stores : List SbEntry) : State :=
  dev .primary [(pgHwr 0, 0x060, 0x80000003 + pass * 0x20000000)] fun s => { s with
    threads := [(0, { runner with hold := .passEnd, latch := [⟨1, ⟨5, true⟩⟩], sig := sigOf 77 false })]
    cores := [(0, { s.core 0 with stores := stores })]
    ons := { s.ons with tasks := [(3, some (task 0 0 none (if pass = 0 then .inPrimary else .inShadow)))] } }

theorem witness_PassesAndVerdicts :
    (∀ x ∈ [(sigOf 5 false, sigOf 5 false), (sigOf 5 false, sigOf 6 false), (sigOf 5 false, sigOf 5 true)], let s := judged x.1 x.2
      live s = true ∧ s.ons.runs = true ∧ s.ons.seg = .shadow ∧ s.task 9 = some (task 2 1 none .done) ∧ storedSig 9 0 s = x.1 ∧ storedSig 9 1 s = x.2 ∧ s.comparator 2 = .sound
        ∧ classify x.1.bits x.1.check = .clean ∧ classify x.2.bits x.2.check = .clean)
      ∧ (∀ pass < 2, ∀ other ∈ [[], [⟨1, 0x10, [(1, false)], false⟩]], let s := ending pass other
        live s = true ∧ (s.thread h0).hold = .passEnd ∧ (∀ x ∈ (s.core 0).stores, x.thread ≠ h0.thread)
          ∧ fld (s.reg (pgHwr 0) 0x060) 0 10 = 3 ∧ fld (s.reg (pgHwr 0) 0x060) 29 1 = pass ∧ (s.task 3).isSome = true)
      ∧ (let s := ending 0 [⟨0, 0x10, [(1, false)], false⟩];
        live s = true ∧ (s.thread h0).hold = .passEnd ∧ ∃ x ∈ (s.core 0).stores, x.thread = h0.thread) := by decide +kernel

theorem witness_CrossingsKeepTheirOrder :
    (0 : Fin 48) ≠ 47 ∧ halted (dev .primary []) = false ∧ (dev .primary []).life.phase ≠ .asserted
      ∧ sparseGet idleCrossing (dev .primary []).crossings 47 = idleCrossing
      ∧ sparseGet idleCrossing (dev .primary [] fun s => { s with crossings := [(47, ⟨[7, 8], [9], [6]⟩)] }).crossings 47 = ⟨[7, 8], [9], [6]⟩ := by decide +kernel

/-- A task that may start PRIMARY, one that waits on it, one that may start SHADOW. -/
def starting (seg : Segment) : State :=
  tasks seg [(4, task 0 1 none .waiting), (5, task 3 2 (some 4) .waiting), (1023, task 31 3 none .donePrimary)]

theorem witness_DispatchStartsThePass :
    (let s := starting .primary
      let h : Hart := ⟨0, 1⟩
      live s = true ∧ (s.thread h).running = false ∧ s.guard.safe = false ∧ (s.core 0).lockup = false ∧ s.ons.seg = .primary
        ∧ nextTask 0 1 .waiting s = some (4, task 0 1 none .waiting) ∧ predReady (task 0 1 none .waiting) 0 s = true)
      ∧ (let s := starting .shadow
        let h : Hart := ⟨31, 3⟩
        live s = true ∧ (s.thread h).running = false ∧ s.guard.safe = false ∧ (s.core 31).lockup = false ∧ s.ons.seg = .shadow
          ∧ nextTask 31 3 .donePrimary s = some (1023, task 31 3 none .donePrimary) ∧ predReady (task 31 3 none .donePrimary) 1 s = true)
      ∧ (let s := starting .primary
        nextTask 3 2 .waiting s = some (5, task 3 2 (some 4) .waiting) ∧ predReady (task 3 2 (some 4) .waiting) 0 s = false)
      ∧ nextTask 0 0 .waiting (starting .primary) = none ∧ ((hewer runner).thread h0).running = true := by decide +kernel

def rosterAt (r : Nat) : State := dev .primary (if r = 0 then [] else [(pgOns, 0x044, r)])
/-- A validation of an empty Roster whose plan for bank 47 names an owner that is not permitted. -/
def badPlan : State := dev .primary [(pgOns, 0x044, 1), (pgOns, 0x1F8, 0x030201FE), (pgOns, 0x1FC, 0x80000005)]

theorem rosterCheck_crc (v : W32) (s : State) : rosterCheck [] 1 (s.setReg pgOns 0x048 v) = rosterCheck [] 1 s := by
  have h (k : Nat) (n : k < 16) : planA 1 k (s.setReg pgOns 0x048 v) = planA 1 k s ∧ planB 1 k (s.setReg pgOns 0x048 v) = planB 1 k s :=
    ⟨State.reg_setReg_key _ _ (by simp only [regKey]; omega), State.reg_setReg_key _ _ (by simp only [regKey]; omega)⟩
  have e : planCheck 1 (s.setReg pgOns 0x048 v) = planCheck 1 s := by
    unfold planCheck
    refine List.find?_congr fun k hk => ?_
    rw [(h k (List.mem_range.mp hk)).1, (h k (List.mem_range.mp hk)).2]
  simp only [rosterCheck, e, List.findSome?_nil]

theorem witness_RosterSwitchesAreValidated :
    Admitted q23 .write pgOns 0x040 (rosterAt 0) ∧ Admitted q23 .write pgOns 0x040 (rosterAt 1) ∧ Admitted q23 .write pgOns 0x040 (rosterAt 2)
      ∧ Admitted q23 .write pgOns 0x040 (rosterAt 4)
      ∧ (∀ r ∈ [0, 1, 2, 4], pageOn pgOns (rosterAt r) = true ∧ rosterResult (rosterAt r) = r ∧ fabricUp (rosterAt r) = true)
      ∧ (activeBuffer (rosterAt 1) = 0 ∧ ∀ v, rosterCheck (readRoster 1 (rosterAt 1)).1 1 ((readRoster 1 (rosterAt 1)).2.setReg pgOns 0x048 v) = none)
      ∧ (fabricUp badPlan = true ∧ rosterResult badPlan = 1 ∧ activeBuffer badPlan = 0)
      ∧ ∀ v, rosterCheck (readRoster 1 badPlan).1 1 ((readRoster 1 badPlan).2.setReg pgOns 0x048 v) = some (0x0A, 15) := by
  have h1 : (readRoster 1 (rosterAt 1)).1 = [] := by decide +kernel
  have h2 : (readRoster 1 badPlan).1 = [] := by decide +kernel
  refine ⟨admitted_of ?_, admitted_of ?_, admitted_of ?_, admitted_of ?_, ?_, ⟨?_, fun v => ?_⟩, ?_, fun v => ?_⟩
  on_goal 7 => rw [h1, rosterCheck_crc]
  on_goal 9 => rw [h2, rosterCheck_crc]
  all_goals decide +kernel

/-! ### Hypotheses of the statements: registers, banks, logs, Winders and the correction plant -/

def lockOns (l : PageLock) : State := dev .primary [] fun s => { s with locks := [(pgOns, l)] }
/-- Domains 54 and 60 are OFF. -/
def unpowered : State := dev .primary [] fun s => { s with dom := [(54, .off), (60, .off)] }
def safeState : State := dev .primary [] fun s => { s with guard := { s.guard with safe := true } }

theorem admitted_plain (p off : Nat) (h : (pageKind p).isSome = true) (h4 : off % 4 = 0) (h8 : off < 0x800)
    (hm : mpuDecide 76 (settledRequester q23) .write (regAddr p off) plain = none) : Admitted q23 .write p off plain :=
  ⟨by decide +kernel, by decide, h, h4, h8, hm⟩

theorem witness_RegisterAccessesAreDecided :
    (let allowed (a : Nat) (s : State) : Bool := inWindow a && decide (mpuDecide 76 (settledRequester q23) .write a s = none);
      (fabricUp plain = true ∧ masterIssues q23.master.toNat plain = true ∧ inWindow 0x20000000 = false ∧ inWindow 0x0FFFFFFC = false)
      ∧ (mpuDecide 76 (settledRequester ⟨0x05, false⟩) .write 0x10100004 plain).isSome = true
      ∧ (allowed 0x10074000 plain = true ∧ pageKind 0x074 = none ∧ pageKind 0x073 = some (.bnk, 51))
      ∧ (allowed 0x10100004 plain = true ∧ pageKind pgOns = some (.ons, 0) ∧ (4 : Nat) ≠ 2)
      ∧ (allowed 0x10100800 plain = true ∧ findDesc .ons 0x7F8 = none ∧ allowed 0x101007F8 plain = true ∧ allowed 0x101007FC plain = true)
      ∧ (allowed 0x10200040 unpowered = true ∧ (findDesc .pwm 0x040).isSome = true ∧ pageOn 0x200 unpowered = false)
      ∧ plain.isLocked pgOns = false ∧ (lockOns .locked).isLocked pgOns = true ∧ allowed 0x10100004 (lockOns .locked) = true
      ∧ allowed 0x10100010 plain = true)
    ∧ ((∀ off ∈ [0x00C, 0x014, 0x020, 0x028, 0x01C], mpuDecide 76 (settledRequester q23) .write (regAddr pgOns off) plain = none)
      ∧ (lockOns .locked).lockOf pgOns = .locked ∧ plain.lockOf pgOns = .unlocked ∧ (lockOns (.armed 0x23)).lockOf pgOns = .armed 0x23
      ∧ powerUnit pgOns = .nothing ∧ powerUnit 0 ≠ .nothing ∧ safeState.guard.safe = true ∧ plain.guard.safe = false
      ∧ plain.getFld pgOns 0x020 0 8 = 0 ∧ (dev .primary [(pgOns, 0x020, 0x102)]).getFld pgOns 0x020 0 8 = 2) := by decide +kernel

theorem witness_admitted : Admitted q23 .write pgOns 0x00C plain ∧ Admitted q23 .write pgBel 0x00C plain ∧ Admitted q23 .write 0 0x01C plain ∧ Admitted q23 .write pgOns 0x028 (lockOns .locked) := by
  refine ⟨admitted_of ?_, admitted_of ?_, admitted_of ?_, admitted_of ?_⟩ <;> decide +kernel

/-- Bank 0 in its Hewer's hands; draining; with an invalidation of two words; the last bank; an invalidation from near the bank's end. -/
def bankAt (b : Bank) (l : List (Nat × Nat × Nat) := []) : State := dev .primary l fun s => { s with banks := [(0, b)] }

theorem witness_BanksChangeHands :
    Admitted q23 .write (pgBnk 0) 0x018 (bankAt bank0) ∧ Admitted q23 .write (pgBnk 51) 0x018 (bankAt bank0)
      ∧ Admitted q23 .write (pgBnk 0) 0x018 (bankAt { bank0 with draining := true })
      ∧ Admitted q23 .write (pgBnk 0) 0x048 (bankAt bank0) ∧ Admitted q23 .write (pgBnk 0) 0x048 (bankAt bank0 [(pgBnk 0, 0x048, 0x80000001)])
      ∧ Admitted q23 .write (pgBnk 0) 0x048 (bankAt bank0 [(pgBnk 0, 0x044, 0x7FFF8)])
      ∧ (∃ o < 256, ownerPermitted 0 o = false) ∧ (ownerPermitted 0 0 = true ∧ ownerPermitted 0 0xFF = true)
      ∧ ((bankAt bank0).bank 0).owner = 0
      ∧ (let s := bankAt { bank0 with draining := true }; (s.core 0).stores = [] ∧ drainOpen 0 s = false ∧ fabricUp s = true ∧ (s.bank 0).next = none)
      ∧ ((bankAt bank0).bank 51).draining = false ∧ (∃ o < 256, ownerPermitted 51 o = true ∧ o ≠ ((bankAt bank0).bank 51).owner.toNat)
      ∧ (let s := bankAt bank0 [(pgBnk 0, 0x044, 0x7FFF8)]
        pageOn (pgBnk 0) s = true ∧ s.getFld (pgBnk 0) 0x044 3 21 = 0xFFFF ∧ 8 * (0xFFFF + 1) = bankSize 0 ∧ bankSize 0 < 8 * (0xFFFF + 2) ∧ s.array 0 = .on)
      ∧ (let s := bankAt { bank0 with inv := some (0x200, 0x201, 0x202) }; live s = true ∧ (s.bank 0).inv = some (0x200, 0x201, 0x202) ∧ s.array 0 = .on)
      ∧ (live (bankAt bank0) = true ∧ ((bankAt bank0).bank 0).inv = none) := by
  refine ⟨admitted_of ?_, admitted_of ?_, admitted_of ?_, admitted_of ?_, admitted_of ?_, admitted_of ?_, ⟨0xFE, ?_⟩, ?_, ?_, ?_, ?_, ⟨0x23, ?_⟩, ?_⟩ <;> decide +kernel

def logged (l : List W32) : State :=
  dev .primary [] fun s => { s with cores := [(31, { s.core 31 with mmLog := l })], ons := { s.ons with cutLog := l }, tpl := { s.tpl with log := l } }

theorem witness_LogsReturnTheirOldestEntry :
    (∀ l ∈ [[], [7, 8]], Admitted q23 .read (pgHwr 31) 0x074 (logged l) ∧ Admitted q23 .read pgOns 0x064 (logged l) ∧ Admitted q23 .read pgTpl 0x080 (logged l)
      ∧ pageOn (pgHwr 31) (logged l) = true ∧ pageOn pgOns (logged l) = true ∧ pageOn pgTpl (logged l) = true)
      ∧ ((logged [7, 8]).core 31).mmLog = [7, 8] ∧ ((logged []).core 31).mmLog = [] := by
  refine ⟨?_, by decide +kernel⟩
  simp only [List.forall_mem_cons, List.not_mem_nil, false_implies, implies_true, and_true]
  refine ⟨⟨admitted_of ?_, admitted_of ?_, admitted_of ?_, ?_⟩, admitted_of ?_, admitted_of ?_, admitted_of ?_, ?_⟩ <;> decide +kernel

/-- Channel 5 of Winder 0: entry from 0x1011 to 0x1083, five elements in its repeat, of which `n` are done, Bank 0 in its hands. -/
def winding (c state n : Nat) (job : Option WinderJob := none) : State :=
  dev .shadow ([(pgWnd 0, wndOff c 4, 0x1011), (pgWnd 0, wndOff c 8, 0x1083), (pgWnd 0, wndOff c 0xC, 5)]
      ++ (if state = 0 then [] else [(pgWnd 0, wndOff c 0x18, state * 0x20000000)])
      ++ [(pgMpu 0, 0x104, 0xFFFFFC0), (pgMpu 0, 0x108, 0x80FFFFFF), (pgMpu 0, 0x10C, 0xFFFFFFFF)]) fun s =>
    { s with banks := [(0, { bank0 with owner := 0x50 + BitVec.ofNat 8 c })], wnd := [(c, ⟨false, false, job, n, false⟩)] }

theorem witness_WindersRunTheirChannels :
    (Admitted q23 .write (pgWnd 0) (wndOff 0 0) (winding 0 0 0) ∧ Admitted q23 .write (pgWnd 0) (wndOff 0 0) (winding 0 1 0)
      ∧ Admitted q23 .write (pgWnd 0) (wndOff 0 0) (winding 0 3 0) ∧ Admitted q23 .write (pgWnd 0) (wndOff 15 0) (winding 15 3 0))
    ∧ (∀ state ∈ [0, 1, 3], let s := winding 0 state 0
      pageOn (pgWnd 0) s = true ∧ s.isLocked (pgWnd 0) = false ∧ fld (s.reg (pgWnd 0) (wndOff 0 0x18)) 29 3 = state ∧ s.ons.seg ≠ .lamp ∧ live s = true
        ∧ (s.winder 0).job = none)
    ∧ (fld 0x40000001#32 30 2 = 1 ∧ 0x40000001#32 &&& 6 = 0 ∧ 0x40000002#32 &&& 5 = 0 ∧ 0x40000004#32 &&& 3 = 0 ∧ fld 1#32 30 2 = 0)
    ∧ (let s := winding 5 1 3
      live s = true ∧ haltPending s = false ∧ fld (s.reg (pgWnd 0) (wndOff 5 0x18)) 29 3 = 1 ∧ fld (s.reg (pgWnd 0) (wndOff 5 0)) 25 5 = 0 ∧ (s.winder 5).job = none
        ∧ (s.winder 5).done + 1 < fld (s.reg (pgWnd 0) (wndOff 5 0xC)) 0 16
        ∧ wndCheck 0 5 .read (0x1011 + 9) 3 s = (none, s) ∧ wndCheck 0 5 .write (0x1083 + 9) 3 s = (none, s)
        ∧ s.reg (pgWnd 0) (wndOff 5 0x10) = 0 ∧ fld (s.reg (pgWnd 0) (wndOff 5 0x18)) 16 8 = 0)
    ∧ (∀ x, 0x101A / 8 ≤ x → x ≤ 0x101C / 8 → soundWord (winding 5 1 3).mem x = true)
    ∧ (∀ x, 0x108C / 8 ≤ x → x ≤ 0x108E / 8 → soundWord (winding 5 1 3).mem x = true) := by
  refine ⟨⟨admitted_of ?_, admitted_of ?_, admitted_of ?_, admitted_of ?_⟩, ?_, ?_, ?_, upTo_spec ?_, upTo_spec ?_⟩ <;> decide +kernel

/-- A scrub of one word that ends with it; a decode request for a word with two bits in error, and for a sound one. -/
def scrubbing : State := dev .primary [(pgScb 0, 0x048, 1), (pgScb 0, 0x050, 5)] fun s => { s with scrub := [(0, some ⟨0x200, 0x201, false, false⟩)] }
def decoding (w : Nat) : State :=
  dev .primary [] fun s => { s with mem := { s.mem with words := [(0x202, ⟨true, true, checkOf 0 ^^^ 3⟩)] }, decodes := [(0, [⟨w, none⟩])] }

/-- A self-test of group 0, whose first `n` banks are OFF. -/
def facesOff (n : Nat) : State := dev .primary [(pgEcc 0, 0x04C, 1)] fun s => { s with arr := (List.range n).map fun b => (b, .off) }

theorem witness_LedgersScrubsAndSelfTests :
    (Admitted q23 .write (pgEcc 0) 0x400 plain ∧ Admitted q20 .write (pgEcc 9) (0x400 + 4 * 63) (opened) ∧ Admitted q23 .write (pgEcc 0) 0x044 plain
      ∧ Admitted q23 .write (pgEcc 0) 0x04C plain ∧ Admitted q23 .write (pgEcc 0) 0x04C (dev .primary [(pgEcc 0, 0x04C, 1)])
      ∧ Admitted q23 .write (pgScb 0) 0x048 plain ∧ Admitted q23 .write (pgScb 0) 0x048 (dev .primary [(pgScb 0, 0x044, 1)])
      ∧ Admitted q23 .write (pgScb 0) 0x048 scrubbing)
    ∧ (bit (plain.reg (pgEcc 0) 0x04C) 0 = false ∧ (let s := dev .primary [(pgEcc 0, 0x04C, 1)]; live s = true ∧ bit (s.reg (pgEcc 0) 0x04C) 0 = true))
    ∧ (selftestOutcome 0 none (facesOff 8) = none ∧ ∀ b ∈ [0, 7], b < (groupBanks 0).length ∧ bankPower ((groupBanks 0).getD b 0) (facesOff b) = .on
        ∧ ∀ j < b, bankPower ((groupBanks 0).getD j 0) (facesOff b) ≠ .on)
    ∧ (bit (plain.reg (pgScb 0) 0x048) 0 = false ∧ fld (plain.reg (pgScb 0) 0x044) 0 21 = 0
      ∧ (let s := dev .primary [(pgScb 0, 0x044, 1), (pgScb 0, 0x040, groupBase 0)]
        fld (s.reg (pgScb 0) 0x044) 0 21 = 1 ∧ groupBase 0 / 8 ≤ (s.reg (pgScb 0) 0x040).toNat / 8
          ∧ (s.reg (pgScb 0) 0x040).toNat / 8 + 1 ≤ groupBase 0 / 8 + 512 * groupPanels 0))
    ∧ (let s := scrubbing
      bit (s.reg (pgScb 0) 0x048) 0 = true ∧ scrubOf 0 s = some ⟨0x200, 0x201, false, false⟩ ∧ live s = true ∧ scrubSkips (0x200 / 512) s = false
        ∧ soundWord s.mem 0x200 = true ∧ groupBase 0 / 8 ≤ 0x200 ∧ 0x200 < groupBase 0 / 8 + 512 * groupPanels 0)
    ∧ (∀ w ∈ [0x200, 0x202], live (decoding w) = true ∧ sparseGet [] (decoding w).decodes 0 = [⟨w, none⟩]
        ∧ (decoding w).mem.isMulti w = decide (w = 0x202)) := by
  refine ⟨⟨admitted_of ?_, admitted_of ?_, admitted_of ?_, admitted_of ?_, admitted_of ?_, admitted_of ?_, admitted_of ?_, admitted_of ?_⟩, ?_, ?_, ?_, ?_, ?_⟩
    <;> decide +kernel

/-! ### Hypotheses of the statements: Deputies -/

def dep0 : DepCore := { idleDepCore with pc := 0x0100, y0 := 0x4010, y1 := 0x6400 }
/-- Both cores of a pair at `d`. -/
def dual (d : DepCore) (beats : Nat := 0) (contacts : Sparse Contact := []) : Deputy :=
  { State.reset.deputy 0 with master := d, checker := d, beats := beats, contacts := contacts }
/-- Pair 0 in a state of DEP_STAT, three boundaries to its heartbeat, source 2 enabled and requests 1 and 2 pending as `pend` says. -/
def pair (d : DepCore) (state : Nat := 1) (pend : Nat := 0) (v : Deputy := dual d) : State :=
  dev .primary (open76 ++ [(pgDep 0, 0x040, 0x0300), (pgDep 0, 0x044, state), (pgDep 0, 0x060, 0x00040000 + pend), (pgDep 0, 0x074, 2)]) fun s =>
    { s with dep := [(0, v)], mem := { s.mem with words := [(depMem 0 0x4020 / 8, ⟨true, true, checkOf 0 ^^^ 0x5B⟩)] } }

theorem depReady_pair : DepReady 0 1 (pair dep0) ∧ DepReady 0 2 (pair dep0) := ⟨depReady_of (by decide +kernel), depReady_of (by decide +kernel)⟩

theorem witness_DeputiesCompute : DepReady 0 1 (pair dep0) ∧ (6 : Fin 8).val % 2 = 0 ∧ (7 : Fin 8).val % 2 = 1 := ⟨depReady_pair.1, by decide⟩

/-- The ends of the areas of R245 through Y0: the last byte of memory and the first behind it, the write windows, the quad windows. -/
theorem witness_DeputiesRunTheirPrograms :
    (∀ y ∈ [0x4010, 0x4020, 0x7FFF, 0x8000, 0x5FFF, 0x6000, 0x6400, 0x63FC, 0x87FC, 0x800C, 0xD000, 0xD040, 0x4001, 0x9000, 0xCFFC, 0xD008], DepReady 0 1 (pair { dep0 with y0 := y }))
    ∧ (∀ a ∈ [0x4010, 0x7FFF, 0x4020, 0x5FFF, 0x6400], DepAllowed 0 a .read (pair dep0) ∧ DepAllowed 0 a .write (pair dep0)
        ∧ soundWord (pair dep0).mem (depMem 0 a / 8) = true)
    ∧ (storedByte (pair dep0).mem (depMem 0 0x4010)).2 = false ∧ (storedByte (pair dep0).mem (depMem 0 0x4020)).2 = true
    ∧ (∀ off ∈ [0x00C, 0x7FC], mpuDecide 76 (depRequester 0) .read (regAddr (pgDep 0) off) (pair dep0) = none
        ∧ mpuDecide 76 (depRequester 0) .write (regAddr (pgDep 0) off) (pair dep0) = none)
    ∧ (∀ x ∈ [(pgCor 0, 0x000), (pgCor 3, 0xFFC), (pgSns 0, 0x044), (pgSns 3, 0x048), (pgPwm 3, 0x044)],
        mpuDecide 76 (depRequester 0) .read (regAddr x.1 x.2) (pair dep0) = none ∧ mpuDecide 76 (depRequester 0) .write (regAddr x.1 x.2) (pair dep0) = none)
    ∧ DepReady 0 2 (pair dep0)
    ∧ (∀ st ∈ [[], [(0x44 : BitVec 16)], List.replicate 7 0, List.replicate 8 0], DepReady 0 1 (pair { dep0 with stack := st }) ∧ DepReady 0 2 (pair { dep0 with stack := st }))
    ∧ (let asked (s : State) : Bool := decide (fld (s.reg (pgDep 0) 0x060) 0 4 &&& fld (s.reg (pgDep 0) 0x060) 16 4 ≠ 0);
      asked (pair dep0 1 4) = true ∧ asked (pair dep0 1 3) = false ∧ live (pair dep0) = true ∧ depOn 0 (pair dep0) = true ∧ depState 0 (pair dep0) = 1
        ∧ haltPending (pair dep0) = false ∧ DepLockstep 0 (pair dep0 1 4))
    ∧ DepReady 0 1 (pair dep0 1 4) := by
  have r (d : DepCore) (pend : Nat) (h : depReadyB 0 1 (pair d 1 pend) = true) :
    DepReady 0 1 (pair d 1 pend) := depReady_of h
  refine ⟨?_, ?_, by decide +kernel, by decide +kernel, by decide +kernel, by decide +kernel, depReady_pair.2, ?_,
    ⟨by decide +kernel, by decide +kernel, by decide +kernel, by decide +kernel, by decide +kernel, by decide +kernel, depLockstep_of (by decide +kernel)⟩, depReady_of (by decide +kernel)⟩
  · simp only [List.forall_mem_cons, List.not_mem_nil, false_implies, implies_true, and_true]
    refine ⟨?_, ?_, ?_, ?_, ?_, ?_, ?_, ?_, ?_, ?_, ?_, ?_, ?_, ?_, ?_, ?_⟩ <;> exact r _ _ (by decide +kernel)
  · unfold DepAllowed; decide +kernel
  · simp only [List.forall_mem_cons, List.not_mem_nil, false_implies, implies_true, and_true]
    refine ⟨⟨depReady_of ?_, depReady_of ?_⟩, ⟨depReady_of ?_, depReady_of ?_⟩, ⟨depReady_of ?_, depReady_of ?_⟩, depReady_of ?_, depReady_of ?_⟩ <;> decide +kernel

/-- A record of interval 35 waits for correlator 0. -/
def recorded : State := (fun s => { s with mem := State.reset.mem, cor := [(0, { s.correlator 0 with record := some (35, List.replicate 64 7) })] }) (pair dep0)
theorem recorded_sound (a : Nat) (h : (0x6000 ≤ a ∧ a < 0x6100) ∨ (0x8000 ≤ a ∧ a < 0xA000)) :
    soundWord recorded.mem (depMem 0 a / 8) = true ∧ panelRetired (depMem 0 a) recorded = false := by
  refine ⟨rfl, ?_⟩
  have e : depMem 0 a = 0x03000000 + a := rfl
  have g : groupOf (0x03000000 + a) = 9 := by
    have b : bankOf (0x03000000 + a) = some 52 := by
      rw [bankOf, if_neg (by omega), if_neg (by omega), if_neg (by omega), if_pos (by omega), show (0x03000000 + a - 0x03000000) / 0x10000 = 0 by omega]
    rw [groupOf, b]; rfl
  have q : a / 4096 = 6 ∨ a / 4096 = 8 ∨ a / 4096 = 9 := by omega
  unfold panelRetired
  rw [e, g]
  have r : 0x03000000 + a - groupBase 9 = a := Nat.add_sub_cancel_left ..
  simp only [r]
  rcases q with q | q | q <;> rw [q] <;> decide +kernel

def q30 : Requester := ⟨0x30, true⟩

theorem witness_DeputyPairsAreSupervised :
    (∀ st ∈ [1, 2, 3], live (pair dep0 st) = true ∧ depOn 0 (pair dep0 st) = true ∧ depState 0 (pair dep0 st) = st
      ∧ (pair dep0 st).comparator 33 = .sound ∧ canInjection 33 (pair dep0 st) = none)
    ∧ (let s := pair dep0 1 0 { dual dep0 with checker := { dep0 with ie := true } }
      depRuns 0 s = true ∧ depFetch 0 1 (s.deputy 0).master.pc.toNat s = (none, s) ∧ (s.deputy 0).master.ie ≠ (s.deputy 0).checker.ie)
    ∧ (∀ n ∈ [2, 3], fld ((pair dep0 1 0 (dual dep0 n)).reg (pgDep 0) 0x040) 8 8 = 3 ∧ ((pair dep0 1 0 (dual dep0 n)).deputy 0).beats = n)
    ∧ (Admitted q30 .write (pgDep 0) 0x048 (pair dep0) ∧ Admitted q23 .write (pgDep 0) 0x048 (pair dep0)
      ∧ Admitted q30 .write (pgDep 0) 0x05C (pair dep0) ∧ Admitted q23 .write (pgDep 0) 0x050 (pair dep0))
    ∧ (live recorded = true ∧ corOn 0 recorded = true ∧ (recorded.correlator 0).record = some (35, List.replicate 64 7)
      ∧ (∀ k < 4, 0 < k → (recorded.correlator k).record = none) ∧ depState 0 recorded = 1
      ∧ corOn 0 (pair dep0) = true ∧ ∀ k < 4, ((pair dep0).correlator k).record = none)
    ∧ (∀ a, (0x6000 ≤ a ∧ a < 0x6100) ∨ (0x8000 ≤ a ∧ a < 0xA000) →
      soundWord recorded.mem (depMem 0 a / 8) = true ∧ panelRetired (depMem 0 a) recorded = false)
    ∧ (∀ n ∈ [0, 1], let s := (fun s : State => { s with dep := [(0, dual dep0 0 [(1, ⟨n, 3⟩)])] }) (pair dep0)
      (sparseGet (⟨0, 0⟩ : Contact) (s.deputy 0).contacts 1).run = n ∧ fld (s.reg (pgDep 0) 0x074) 0 8 = 2 ∧ bit (s.reg (pgDep 0) 0x070) 1 = false) := by
  refine ⟨?_, ?_, ?_, ⟨admitted_of ?_, admitted_of ?_, admitted_of ?_, admitted_of ?_⟩, ?_, recorded_sound, ?_⟩ <;> decide +kernel

/-! ### Hypotheses of the statements: the Triad, the Tipple and the audio front end -/

/-- Three voted replicas whose threads 0 stand at their target, with D1 as given. -/
def voting (target d0 d1 d2 : Nat) : State :=
  dev .primary [] fun s =>
    let t (d : Nat) : Thread := { idleThread with retired := 5, d := [(1, ⟨BitVec.ofNat 24 d, false⟩)], running := true }
    { s with
      threads := [(hartKey (overmanThread 0 0), t d0), (hartKey (overmanThread 1 0), t d1), (hartKey (overmanThread 2 0), t d2)]
      tri := { s.tri with ckOpen := true, targets := [(0, target)], replicas := [0, 1, 2].map fun r => (r, { State.reset.replica r with role := .active }) } }

def votingMet (s : State) : Bool :=
  live s && voteReady s && decide (actives s = [0, 1, 2]) && ((List.range 3).all fun r => !absentNow r s && decide ((s.replica r).queue = []))
    && !s.tri.ckBoundary && decide (s.tri.job = none)
    && (List.range 3).all fun v => decide (s.comparator (57 + v) = .sound) && decide (sparseGet 0 s.flips v = 0)

theorem witness_CheckpointsCloseWithAVerdict :
    votingMet (voting 5 1 1 1) = true ∧ votingMet (voting 5 2 1 1) = true ∧ votingMet (voting 5 1 2 1) = true ∧ votingMet (voting 5 1 1 2) = true
      ∧ votingMet (voting 5 1 2 3) = true
      ∧ (live (voting 6 1 1 1) = true ∧ voteReady (voting 6 1 1 1) = false ∧ (voting 6 1 1 1).tri.ckOpen = true ∧ isActive 0 (voting 6 1 1 1) = true
        ∧ atTarget 0 0 (voting 6 1 1 1) = false ∧ atTarget 0 0 (voting 5 1 1 1) = true ∧ plain.tri.ckOpen = false) := by decide +kernel

/-- Threads 1 of the voted replicas, each with an offer or none. -/
def offering (vs : List (Option W24)) (kind : BitVec 2) (agreed2 : Nat) (job : Option ResyncJob := none) : State :=
  dev .primary [] fun s => { s with
    threads := [0, 1, 2].map fun r => (hartKey (overmanThread r 1), { runner with
      hold := if (vs.getD r none).isSome then .agree else .none
      buf := if (vs.getD r none).isSome then [sylWord true 3 0x34 (9 * 0x20000 + 0x1000 + kind.toNat * 0x400)] else [] })
    tri := { s.tri with job := job, replicas := [0, 1, 2].map fun r => (r, { State.reset.replica r with
      role := .active, offers := [(1, (vs.getD r none).map fun v => ⟨v, kind⟩)], agreed := [(1, if r = 2 then agreed2 else 3)] }) } }

def waitsB (r : Nat) (v : W24) (kind : BitVec 2) (s : State) : Bool :=
  let t := s.thread (overmanThread r 1)
  decide (offerOf r 1 s = some (3, ⟨v, kind⟩)) && decide (t.hold = .agree)
    && decide (t.buf = [sylWord true 3 0x34 (BitVec.ofNat 22 (9 * 0x20000 + 1 * 0x1000 + kind.toNat * 0x400)).toNat]) && decide (t.rep = none)
    && decide (t.resume = none) && !t.locked

theorem witness_AgreedValuesAreDelivered :
    (∀ kind ∈ [(0 : BitVec 2), 1, 2], let s := offering [some 1, some 0x800001, some 5] kind 3
      live s = true ∧ s.tri.ckOpen = false ∧ actives s = [0, 1, 2] ∧ waitsB 0 1 kind s = true ∧ waitsB 1 0x800001 kind s = true ∧ waitsB 2 5 kind s = true)
      ∧ (let s := offering [some 1, some 0x800001, none] 0 3
        waitsB 0 1 0 s = true ∧ waitsB 1 0x800001 0 s = true ∧ offerOf 2 1 s = none ∧ sparseGet 0 (s.replica 2).agreed 1 = 3)
      ∧ (∀ r < 3, offerOf r 1 (offering [] 0 3) = none)
      ∧ (offering [] 0 3 (some ⟨1, 0, true, 0⟩)).tri.job = some ⟨1, 0, true, 0⟩ ∧ (offering [] 0 3 (some ⟨1, 0, false, 0⟩)).tri.job = some ⟨1, 0, false, 0⟩
      ∧ (offering [] 0 3).tri.job = none := by decide +kernel

/-- Zone 0 drives channels 0 to 7. -/
def zoned (safe : Bool) : State := opened [(pgOvm 8, 0x100, 0xFF)] fun s => { s with guard := { s.guard with safe := safe } }

theorem witness_TheTriadCommandsTheDevice :
    (Admitted q23 .write pgCan 0x04C (zoned false) ∧ Admitted q20 .write pgCan 0x04C (zoned false)
      ∧ Admitted q23 .write (pgOvm 8) 0x10C (zoned false) ∧ Admitted q20 .write (pgOvm 15) 0x1FC (zoned false) ∧ Admitted q23 .write (pgOvm 15) 0x1FC (zoned true)
      ∧ Admitted q23 .write pgGat 0x060 (zoned false) ∧ Admitted q23 .write pgGat 0x058 (zoned false) ∧ Admitted q23 .write pgGat 0x058 (zoned true)
      ∧ Admitted q20 .write pgGat 0x058 (zoned false))
    ∧ (∀ b, pageOn pgCan (zoned b) = true ∧ pageOn pgGat (zoned b) = true ∧ pageOn (pgOvm 8) (zoned b) = true ∧ pageOn (pgOvm 15) (zoned b) = true
        ∧ (zoned b).guard.safe = b)
    ∧ (fld 0xEC000000#32 26 6 = 59 ∧ fld 0xF0000000#32 26 6 = 60 ∧ fld 3#32 0 2 = 3 ∧ fld 0xA502#32 0 2 = 2) := by
  refine ⟨⟨admitted_of ?_, admitted_of ?_, admitted_of ?_, admitted_of ?_, admitted_of ?_, admitted_of ?_, admitted_of ?_, admitted_of ?_, admitted_of ?_⟩,
    ?_, ?_⟩ <;> decide +kernel

/-- The staging register holds `a`, the queue `n` writes. -/
def staging (a n : Nat) : State :=
  opened (if a = 0 then [] else [(pgTpl, 0x040, a)]) fun s => { s with tpl := { s.tpl with queue := List.replicate n ⟨0, 0, 0x20, 0x23⟩ } }
/-- The Tipple runs; column 255 has its first result and has not been compared. -/
def comparing (seg : Segment) : State :=
  dev seg [(pgTpl, 0x004, 1)] fun s => { s with eff := [(regKey pgTpl 0x004, 1)], tpl := { s.tpl with first := [(255, some [0, 1])] } }
/-- MCLK_STAT holds `v`, the source selected is `source`. -/
def clocked (v source : Nat) : State :=
  dev .primary (if v = 0 then [] else [(pgAon, 0x108, v)]) fun s => { s with eff := if source = 0 then [] else [(regKey pgAon 0x100, w32 source)] }

theorem witness_TippleAndClockFollowTheirRules :
    (∀ a ∈ [0, 0x20000003, 0x40000000], Admitted q23 .write pgTpl 0x044 (staging a 0) ∧ Admitted q20 .write pgTpl 0x044 (staging a 0)
      ∧ pageOn pgTpl (staging a 0) = true)
    ∧ (Admitted q23 .write pgTpl 0x044 (staging 0 4095) ∧ Admitted q23 .write pgTpl 0x044 (staging 0 4096)
      ∧ (staging 0 4095).tpl.queue.length = 4095 ∧ (staging 0 4096).tpl.queue.length = 4096)
    ∧ (stageBreaks 0 0 0x20 = none ∧ stageBreaks 0 0 0x1F = some 0x06 ∧ stageClass0 0 0x20 (staging 0 0) = true
      ∧ stageClass0 0 0x20 { staging 0 0 with tpl := { (staging 0 0).tpl with table := [(0, 0x20)] } } = false)
    ∧ (let s := comparing .verdict
      live s = true ∧ tplRuns s = true ∧ s.ons.seg = .verdict ∧ sparseGet none s.tpl.first 255 = some [0, 1] ∧ sparseGet none s.tpl.compared 255 = none
        ∧ s.tpl.health = [] ∧ s.tpl.bad = [] ∧ s.comparator 32 = .sound ∧ canInjection 32 s = none)
    ∧ ((comparing .shadow).ons.seg ≠ .verdict)
    ∧ (∀ x ∈ [(0, 0), (0, 1), (9, 1), (10, 1), (8, 1), (11, 1), (1, 0), (2, 1)], let s := clocked x.1 x.2
      live s = true ∧ fld (s.reg pgAon 0x108) 0 3 = x.1 % 8 ∧ bit (s.reg pgAon 0x108) 3 = decide (8 ≤ x.1) ∧ fld (s.effReg pgAon 0x100) 0 2 = x.2) := by
  refine ⟨?_, ⟨admitted_of ?_, admitted_of ?_, ?_⟩, ?_, ?_, ?_, ?_⟩
  · simp only [List.forall_mem_cons, List.not_mem_nil, false_implies, implies_true, and_true]
    refine ⟨⟨admitted_of ?_, admitted_of ?_, ?_⟩, ⟨admitted_of ?_, admitted_of ?_, ?_⟩, admitted_of ?_, admitted_of ?_, ?_⟩ <;> decide +kernel
  all_goals decide +kernel
/-- TDM port 1 enabled with configuration `cfg`, after `n` sample periods; slot 0 sends a block of 32 samples; group 0 warms up. -/
def tdmAt (cfg n : Nat) (d60 : Power := .on) : State :=
  dev .primary [(pgTdm 1, 0x040, cfg), (pgPdm, 0x040, 1), (pgPwm 95, 0x040, 1)] fun s => { s with
    eff := [(regKey (pgTdm 1) 0x004, 1), (regKey (pgTdm 1) 0x040, w32 cfg), (regKey (pgTdm 1) 0x048, 3), (regKey pgPdm 0x040, 1)]
    dom := [(60, d60)]
    aud := { s.aud with tdm := [(1, ⟨[], n, false, []⟩)], play := [(160, List.replicate 32 7)], warm := [(0, 1)] } }

/-- A clock slave's port before, in and behind the last period of the block, and a master's; the port and the front end without power; each state a writer
gives a modulator. -/
theorem witness_TheFrontEndKeepsItsFlags :
    (∀ x ∈ [(0x100, 0), (0x100, 31), (0x100, 32), (0x141, 31), (0x141, 32)], let s := tdmAt x.1 x.2
      live s = true ∧ tdmRuns 1 s = true ∧ (s.tdmPort 1).next = x.2 ∧ blockLen s = 32
        ∧ bit (s.effReg (pgTdm 1) 0x040) 0 = decide (x.1 = 0x141) ∧ sparseGet [] s.aud.play 160 ≠ [])
    ∧ (let s := tdmAt 0x100 0 .off; live s = true ∧ tdmRuns 1 s = false ∧ s.domain 60 ≠ .on)
    ∧ (sparseGet 0 (tdmAt 0 0).aud.warm 0 = 1 ∧ sparseGet 0 (tdmAt 0 0).aud.warm 7 = 0)
    ∧ (Admitted q23 .write (pgPwm 95) 0x040 (tdmAt 0 0) ∧ Admitted q20 .write (pgPwm 0) 0x040 (dev .primary open76)
      ∧ (tdmAt 0 0).isLocked (pgPwm 95) = false ∧ fld ((tdmAt 0 0).reg (pgPwm 95) 0x040) 0 2 = 1
      ∧ (dev .primary open76).isLocked (pgPwm 0) = false ∧ (dev .primary open76).domain 60 = .on)
    ∧ (halted (tdmAt 0 0) = false ∧ (tdmAt 0 0).life.supplyLow = false
      ∧ (∀ x ∈ [(1, false), (2, false)], let s := dev .primary [] fun s => { s with eff := [(regKey (pgPwm 95) 0x040, w32 x.1)] }
          refugeDrives 95 s = x.2 ∧ halted s = false ∧ fld (pwmStat 95 s) 0 2 = x.1)
      ∧ refugeDrives 95 (dev .primary [(pgRfg, 0x074, 1), (pgRfg, 0x04C, 0x80000000)]) = true
      ∧ halted (dev .primary [(pgDbg, 0x040, 0x80000000)]) = true)
    ∧ (∀ x ∈ [(true, 2), (true, 1), (false, 3)], let s : State := { plain with life := { plain.life with phase := .booting, supplyLow := x.1, ioLow := x.2 } }
      ioUp .io33 s = decide (x.2 ≠ 2) ∧ ioUp .io18 s = decide (x.2 ≠ 1) ∧ s.domain 60 = .on ∧ halted s = false) := by
  refine ⟨?_, ?_, ?_, ⟨admitted_of ?_, admitted_of ?_, ?_⟩, ?_, ?_⟩ <;> decide +kernel

/-- RFG_STAT, its arming register and its configuration; the segments of its route. -/
def refugeAt (v arm cfg : Nat) (a : Audio → Audio := id) (lock : Bool := false) : State :=
  opened ((pgRfg, 0x040, cfg) :: (if v = 0 then [] else [(pgRfg, 0x074, v)]) ++ (if arm = 0 then [] else [(pgRfg, 0x070, arm)])) fun s =>
    { s with aud := a s.aud, locks := if lock then [(pgRfg, .locked)] else [] }

theorem witness_TheRefugeRouteFollowsItsCauses :
    (∀ v ∈ [0, 2, 4, 9, 0x11, 0x10], let s := refugeAt v 1 2
      Admitted q23 .write pgRfg 0x070 s ∧ Admitted q20 .write pgRfg 0x070 s ∧ pageOn pgRfg s = true ∧ s.isLocked pgRfg = false
        ∧ halted s = false ∧ s.life.supplyLow = false ∧ s.life.phase ≠ .dormant
        ∧ (bit (s.reg pgRfg 0x074) 0, bit (s.reg pgRfg 0x074) 1, bit (s.reg pgRfg 0x074) 2, bit (s.reg pgRfg 0x074) 3, bit (s.reg pgRfg 0x074) 4)
            = (decide (v % 2 = 1), decide (v = 2), decide (v = 4), decide (v = 9), decide (0x10 ≤ v)))
    ∧ (let s := refugeAt 8 0 2 id true; Admitted q23 .write pgRfg 0x070 s ∧ s.isLocked pgRfg = true ∧ bit (s.reg pgRfg 0x070) 0 = false)
    ∧ (bit ((refugeAt 0 1 2).reg pgRfg 0x070) 0 = true ∧ bit ((refugeAt 0 1 2).reg pgRfg 0x040) 0 = false ∧ bit ((refugeAt 0 1 1).reg pgRfg 0x040) 0 = true)
    ∧ (∀ x ∈ [(true, true, false), (false, true, false), (false, false, false), (false, false, true)],
        let s := refugeAt 1 1 1 fun a => { a with refugeRise := x.1, refugeFall := x.2.1, refugeReturn := x.2.2, refugeSegment := 7 }
        (s.aud.refugeRise, s.aud.refugeFall, s.aud.refugeReturn) = x ∧ halted s = false)
    ∧ (let s := dev .primary [(pgDbg, 0x040, 0x88000000)]; halted s = true ∧ bit (s.reg pgDbg 0x040) 27 = true) := by
  refine ⟨?_, ⟨admitted_of ?_, ?_⟩, ?_, ?_, ?_⟩
  · simp only [List.forall_mem_cons, List.not_mem_nil, false_implies, implies_true, and_true]
    refine ⟨⟨admitted_of ?_, admitted_of ?_, ?_⟩, ⟨admitted_of ?_, admitted_of ?_, ?_⟩, ⟨admitted_of ?_, admitted_of ?_, ?_⟩,
      ⟨admitted_of ?_, admitted_of ?_, ?_⟩, ⟨admitted_of ?_, admitted_of ?_, ?_⟩, admitted_of ?_, admitted_of ?_, ?_⟩ <;> decide +kernel
  all_goals decide +kernel
/-! ### Hypotheses of the statements: the network -/

/-- An AAF frame of stream identity `id` with `n` payload bytes, behind `etype`. -/
def aafFrame (etype id n : Nat) : RxFrame :=
  ⟨beBytes 6 0x91E0F0000001 ++ beBytes 6 0x001122334455 ++ beBytes 2 etype ++ [2, 0x81, 7, 0] ++ beBytes 4 0xAABBCCDD ++ beBytes 4 id ++ beBytes 4 0
    ++ [3, 0x50, 1, 24] ++ beBytes 2 n ++ [0, 0] ++ List.replicate n 9, true, 1000⟩

def heldFrame : RxInfo := ⟨1, 0, 8, 62, 38, (aafFrame 0x22F0 5 24).bytes⟩

/-- Receive stream 1 of one channel in pool 0 of eight Tallies, of which `free` are free, in Bank 36; the clock locked. -/
def receiving (free : Nat) (rx : RxPort) (q : List TallyReq) (seg : Segment := .primary) (f : State → State := id) : State :=
  dev seg [(pgAon, 0x108, 10), (pgMpu 36, 0x104, 0xFFFFFC0), (pgMpu 36, 0x108, 0x80FFFFFF), (pgMpu 36, 0x10C, 0xFFFFFFFF)] fun s => f { s with
    eff := [(regKey pgAon 0x100, 1), (regKey (rxsPage 1) (rxsOff 1 0), 0x8F210000), (regKey (rxsPage 1) (rxsOff 1 4), 0xAABBCCDD),
      (regKey (rxsPage 1) (rxsOff 1 8), 5), (regKey (rxsPage 1) (rxsOff 1 0x10), 8)]
    banks := [(36, { State.reset.bank 36 with owner := 0x40 })]
    adit := { s.adit with rx := [(0, rx)], pools := [(0, ⟨true, 0x4000, 8, free, [(0, some 9)], q⟩)] } }

def layers5 : Layers := layersOf (aafFrame 0x22F0 5 24).bytes
/-- Bank 36 drains for port 0 while an access of its old owner is not answered. -/
def handing (rx : RxPort) : State :=
  receiving 7 rx [] .primary fun s => { s.setReg (pgBnk 36) 0x018 0x90 with
    banks := [(36, { State.reset.bank 36 with owner := 0x40, draining := true })], threads := [(1, { runner with hold := .access false, accepted := [36] })] }
/-- The same without a media clock from the network: stream frames are neither received nor sent. -/
def unclocked (s : State) : State := { s with eff := sparseSet 0 s.eff (regKey pgAon 0x100) 0 }
def filled (n : Nat) : RxPort := ⟨.waiting heldFrame, [⟨List.replicate n 0, true, 0⟩]⟩

/-- A frame of each kind the parser tells apart, the shortest and the longest sound ones, a full FIFO and the last one that fits; Tallies at once, after
others, in the drain, and not at all; a copy that its bank refuses. -/
theorem witness_ReceivedFramesTakeTallies :
    (live (receiving 7 ⟨.none, []⟩ []) = true ∧ aditPortOn 0 (receiving 7 ⟨.none, []⟩ []) = true
      ∧ aditPortOn 0 (receiving 7 ⟨.none, []⟩ [] .primary fun s => { s with dom := [(58, .off)] }) = false)
    ∧ (∀ n ∈ [60, 9216], (List.replicate n (0 : Byte)).length = n)
    ∧ (∀ n, (filled n).fifo.map (fun g => g.bytes.length) = [n]) ∧ heldFrame.bytes.length = 62 ∧ (aafFrame 0x22F0 5 24).bytes.length = 62
    ∧ (let s := receiving 7 ⟨.none, []⟩ []
      parseFrame 0 (aafFrame 0x88F7 5 24).bytes s = .gptp ∧ parseFrame 0 (aafFrame 0x22F0 6 24).bytes s = .unmatched
        ∧ parseFrame 0 (aafFrame 0x22F0 5 24).bytes s = .stream 1 layers5 ∧ s.rxPort 0 = ⟨.none, []⟩)
    ∧ (∀ x ∈ [(7, Segment.primary), (7, .drain), (0, .primary), (0, .drain)], let s := receiving x.1 ⟨.none, []⟩ [] x.2
      testFrame 1 layers5 (aafFrame 0x22F0 5 24) s = (some heldFrame, s) ∧ rxPool 1 s = 0 ∧ (s.pool 0).active = true ∧ requestImpossible 0 1 1 s = false
        ∧ (s.pool 0).queue = [] ∧ grantFits 0 1 1 s = decide (x.1 = 7))
    ∧ (requestImpossible 0 1 1 (receiving 7 ⟨.none, []⟩ [] .primary fun s =>
        { s with eff := sparseSet 0 s.eff (regKey (rxsPage 1) (rxsOff 1 0x10)) 0 }) = true)
    ∧ (∀ x ∈ [(7, false), (2, true)],
      let s := receiving 7 ⟨.copying heldFrame 0 [1], []⟩ [] .primary fun s => s.setReg (pgBnk 36) 0x040 (w32 x.1)
      s.rxPort 0 = ⟨.copying heldFrame 0 [1], []⟩
        ∧ (tallyWrite 0 0 [1] 63 0 (heldFrame.bytes.take 62) (s.setRxPort 0 ⟨.none, []⟩)).1 = x.2
        ∧ portWaits 0 0 s = false ∧ streamsRun s = true ∧ streamsRun (unclocked s) = false ∧ portWaits 0 0 (unclocked s) = false
        ∧ (unclocked s).rxPort 0 = s.rxPort 0 ∧ ∀ k < 4, (s.pool k).queue = [] ∧ ((unclocked s).pool k).queue = [])
    ∧ (portWaits 0 0 (handing ⟨.copying heldFrame 0 [1], []⟩) = true ∧ (handing ⟨.copying heldFrame 0 [1], []⟩).rxPort 0 = ⟨.copying heldFrame 0 [1], []⟩)
    ∧ (∀ x ∈ [(0, false), (1, true)], let s := receiving x.1 ⟨.waiting heldFrame, []⟩ [⟨1, 1, some 0⟩]
      (s.pool 0).queue = [⟨1, 1, some 0⟩] ∧ grantFits 0 1 1 s = x.2 ∧ (s.rxPort 0).head = .waiting heldFrame ∧ (s.rxPort 0).fifo = [] ∧ (s.pool 1).queue = []
        ∧ streamsRun s = true ∧ streamsRun (unclocked s) = false ∧ ((unclocked s).pool 0).queue = [⟨1, 1, some 0⟩])
    ∧ ((receiving 7 ⟨.none, []⟩ [⟨257, 1, none⟩]).pool 0).queue = [⟨257, 1, none⟩] := by
  refine ⟨by decide +kernel, fun n _ => List.length_replicate .., fun n => congrArg (fun k => [k]) List.length_replicate, by decide +kernel, by decide +kernel, by decide +kernel, by decide +kernel, by decide +kernel, by decide +kernel,
    by decide +kernel, by decide +kernel, by decide +kernel⟩

/-- The engine with port 1 its slave, PTP_STAT and PTP_CFG as given, a port's exchange in progress. -/
def engineAt (v cfg : Nat) (e : PtpEngine → PtpEngine := id) : State :=
  dev .primary ((pgAdt 1, 0x050, 0x80000000) :: if v = 0 then [] else [(pgAdt 5, 0x044, v)]) fun s => { s with
    eff := [(regKey (pgAdt 5) 0x040, w32 cfg)], adit := { s.adit with ptp := e s.adit.ptp } }
def exchanging : PtpPort := ⟨some (7, 900), some (3, 500), some (3, 1500, 2000), 40, some (4, 100), [(3, some 1500)], [(3, some 2600)]⟩
def following : PtpEngine → PtpEngine := fun e =>
  { e with heard := [(1, some 5)], slave := some 1, grandmaster := some 5, ports := [(1, exchanging)] }

/-- A port that follows, one that does not, one that takes no part; a grandmaster; a message that answers the exchange and one that does not. -/
theorem witness_TheEngineFollowsTheGrandmaster :
    (∀ s ∈ [engineAt 0 0xF10, engineAt 0xFC 0xFFFF0F00 following], live s = true ∧ ptpPort 1 s = true ∧ aditPortOn 1 s = true ∧ aditPortOn 0 s = true
        ∧ linkUp 1 s = true)
    ∧ linkUp 1 plain = false ∧ ptpPort 1 (engineAt 0 0) = false
    ∧ (engineAt 0 0xF10).adit.ptp.slave ≠ some 1 ∧ (engineAt 0 0xF10).adit.ptp.slave = none
    ∧ (let e := (engineAt 0xFC 0xFFFF0F00 following).adit.ptp
      e.slave = some 1 ∧ (e.port 1).sync = some (7, 900) ∧ (e.port 1).asked = some (3, 500) ∧ (e.port 1).answered = some (3, 1500, 2000)
        ∧ (e.port 0).sync = none ∧ (e.port 0).asked = none)
    ∧ bit ((engineAt 2 0xF10).reg (pgAdt 5) 0x044) 1 = true ∧ bit ((engineAt 0 0xF10).reg (pgAdt 5) 0x044) 1 = false
    ∧ aditPortOn 0 (dev .primary [] fun s => { s with dom := [(58, .off)] }) = false := by decide +kernel

/-- Frames of transmit streams 1 (the first class) and 0, of 100 bytes in Tally 1 of pool 0; the ports of `links` are up. -/
def txFrame1 (i st : Nat) (eligible : Bool) (queued sending : List Nat) : TxFrame := ⟨i, st, 0, 100, 0, [1], true, eligible, queued, sending⟩
def wire1 : WireFrame := ⟨List.replicate 4 5, true⟩
def sendingAt (fs : List TxFrame) (fifo : List TxItem) (links : List Nat) (f : State → State := id) : State :=
  dev .primary ((pgAon, 0x108, 10) :: links.map fun k => (pgAdt k, 0x050, 0x80000000)) fun s => f { s with
    eff := [(regKey pgAon 0x100, 1), (regKey (txsPage 0) (txsOff 0 0), 0x83A10000), (regKey (txsPage 1) (txsOff 1 0), 0x8F210000)]
    adit := { s.adit with tx := fs, txFifo := [(0, fifo)], pools := [(0, ⟨true, 0x4000, 8, 6, [(1, some 257)], []⟩)] } }
def indebted (c : Nat) (s : State) : State := setShaper 0 c ⟨-1, 0, 0, 0, 0⟩ s

/-- A frame that waits for its time on ports with and without a link; a queued one of each class, with credit and without, before a message and behind
one; the last item of a FIFO of each sort; a stale frame that another port still holds, and one that none does. -/
theorem witness_TransmissionFollowsTheShapers :
    (∀ links ∈ [[], [0], [0, 1, 2, 3]], let s := sendingAt [txFrame1 4 1 false [] []] [] links
      live s = true ∧ (s.adit.tx.find? fun g => decide (g.stream = 1) && g.packed && !g.eligible) = some (txFrame1 4 1 false [] [])
        ∧ ((List.range 4).filter fun k => bit (txEff 1 0 s) (24 + k) && linkUp k s && aditPortOn k s) = links
        ∧ (∀ q < 4, (s.pool q).queue = []) ∧ (∀ g ∈ s.adit.tx, g.eligible = false))
    ∧ (let s := sendingAt [txFrame1 4 1 true [0] [], txFrame1 5 0 true [0, 1] []] [] [0, 1]
      aditPortOn 0 s = true ∧ s.ons.seg = .primary ∧ streamsRun s = true ∧ fifoRoom 0 100 s = true ∧ portWaits 0 0 s = false ∧ s.adit.ptp.queue = []
        ∧ txClass 0 s = 1 ∧ txClass 1 s = 0 ∧ ¬(shaperOf 0 0 (creditBoth 0 0 s)).credit < 0
        ∧ (∀ g ∈ s.adit.tx, g.queued ≠ []))
    ∧ (let s := sendingAt [txFrame1 4 1 true [] [0]] [.frame 4 wire1] [0] fun s =>
        { s with adit := { s.adit with ptp := { s.adit.ptp with queue := [(1, .announce), (0, .sync)] } } }
      (s.adit.ptp.queue.find? fun x => decide (x.1 = 0)) = some (0, .sync) ∧ txBegun 0 s = none ∧ linkUp 0 s = true ∧ aditPortOn 0 s = true
        ∧ txPick 0 s = some (.message .sync))
    ∧ (∀ k ∈ [PtpKind.sync, .followUp, .announce, .pdelayReq 3, .pdelayResp 3, .pdelayRespFollowUp 3],
      let s := (fun s : State => { s with adit := { s.adit with begun := [(1, some (.message k))] } }) (engineAt 2 0xFFFF0F00 following)
      txBegun 1 s = some (.message k) ∧ bit (s.reg (pgAdt 5) 0x044) 1 = true ∧ (s.adit.ptp.port 1).syncSent = some (4, 100)
        ∧ sparseGet none (s.adit.ptp.port 1).requests 3 = some 1500 ∧ sparseGet none (s.adit.ptp.port 1).responses 3 = some 2600)
    ∧ (txPick 0 (sendingAt [] [] [0]) = none ∧ txBegun 0 (sendingAt [] [] [0]) = none ∧ linkUp 0 (sendingAt [] [] []) = false)
    ∧ (∀ fs ∈ [[], [txFrame1 4 1 true [] [0]]], let s := sendingAt fs [.frame 4 wire1] [0] fun s => { s with adit := { s.adit with begun := [(0, some (.frame 4 wire1))] } }
      txBegun 0 s = some (.frame 4 wire1) ∧ (s.adit.tx.find? fun g => decide (g.id = 4)) = fs.head? ∧ txClass 1 s = 0 ∧ hasBegun 0 4 s = true)
    ∧ (let s := sendingAt [txFrame1 4 1 true [] [0]] [.frame 4 wire1] [0]
      txFifo 0 s = [.frame 4 wire1] ∧ (s.adit.tx.find? fun g => decide (g.id = 4)) = some (txFrame1 4 1 true [] [0]) ∧ txClass 1 s = 0
        ∧ (shaperOf 0 0 s).credit = 0 ∧ streamsRun s = true)
    ∧ (shaperOf 0 0 (indebted 0 (sendingAt [] [] []))).credit = -1
    ∧ (let here (g : TxFrame) : Bool := g.eligible && (g.queued.contains 0 || g.sending.contains 0) && !hasBegun 0 g.id (sendingAt [] [] [0])
      (∀ f ∈ [txFrame1 4 1 true [0] [], txFrame1 4 1 true [1] [0]], let s := sendingAt [f] [.frame 4 wire1] [0]
        s.adit.tx.find? here = some f ∧ (∀ g ∈ s.adit.tx, g.queued ≠ [] ∨ g.sending ≠ []))
      ∧ (sendingAt [] [] [0]).adit.tx.find? here = none)
    ∧ (bit ((sendingAt [] [] [0]).reg (pgAdt 0) 0x050) 31 = true ∧ bit ((sendingAt [] [] []).reg (pgAdt 0) 0x050) 31 = false
      ∧ (sendingAt [txFrame1 4 1 true [0] [1]] [] [0]).adit.tx.all (fun g => g.queued.Nodup && g.sending.Nodup) = true) := by
  refine ⟨?_, ?_, ?_, ?_, ?_, ?_, ?_, ?_, ?_, ?_⟩ <;> decide +kernel
/-! ### Hypotheses of the statements: energy and safety -/

def lamp (l : List (Nat × Nat × Nat)) (runs : Bool) (d : Power) (good bad : Nat) : State :=
  dev .primary l fun s => { s with ons := { s.ons with runs := runs }, dom := [(1, d)], nrg := { s.nrg with good := good, bad := bad } }

/-- With the shifts and without them, a domain on and off; a monitor disabled, at its last bad reading, at its eighth good one; readings of no value, none
and too much. -/
theorem witness_EnergyIsCounted :
    (let s := lamp [] false .off 0 0;
      s.ons.runs = false ∧ ¬(s.life.phase = .asserted ∧ bit s.life.causes 0 = true) ∧ s.domain 1 = .off ∧ s.domain 0 ≠ .off ∧ s.domain 63 ≠ .off)
    ∧ (let s := lamp [(pgDbg, 0x040, 0x80000000)] true .on 0 0; halted s = true ∧ ¬(s.life.phase = .asserted ∧ bit s.life.causes 0 = true))
    ∧ (let s := lamp [] true .on 0 0; s.ons.runs = true ∧ halted s = false ∧ live s = true ∧ s.nrg.asked = none)
    ∧ (let s := (fun s : State => { s with emu := { s.emu with dom := [(1, true)] } }) (lamp [] false .off 0 0);
      s.domain 1 = .off ∧ sparseGet false s.emu.dom 1 = true ∧ sparseGet false (lamp [] false .off 0 0).emu.dom 1 = false)
    ∧ (∀ x ∈ [(7, 0), (6, 0), (0, 1), (0, 2), (0, 3)], let s := (fun s : State => { s with nrg := { s.nrg with asked := some (0x40, 2) } }) (lamp [(pgLrm, 0x080, 0x7D08000)] true .on x.1 x.2)
      live s = true ∧ s.nrg.asked ≠ none ∧ s.nrg.good = x.1 ∧ s.nrg.bad = x.2 ∧ fld (s.reg pgLrm 0x080) 16 16 = 2000)
    ∧ (20000 * 2000 = 40000000 ∧ 40000000 < 20001 * 2000) := by decide +kernel

/-- Island i with its report, the state of its survey, its point and its wear record. -/
def island (i report survey point wear : Nat) (f : State → State := id) : State :=
  opened ([(pgCrg i, 0x060, report)] ++ (if survey = 0 then [] else [(pgCrg i, 0x04C, survey)]) ++ (if point = 0 then [] else [(pgCrg i, 0x044, point)])
    ++ (if wear = 0 then [] else [(pgLrm, 0x600 + 4 * i, wear)])) f
def dormant (v : Nat) : State :=
  dev .primary (if v = 0 then [] else [(pgLrm, 0x088, v)]) fun s => { s with life := { s.life with phase := .dormant } }

/-- The Triad and another master, SAFE; DORMANT with each wake armed and with none; a survey that runs, one due, one that may start; readings at their
bounds, and a need that rises; wear records at the bounds of their fields. -/
theorem witness_OperatingPointsArePlanned :
    (∀ b, let s := zoned b; Admitted q23 .write pgLrm 0x040 s ∧ Admitted q20 .write pgLrm 0x040 s ∧ pageOn pgLrm s = true ∧ s.guard.safe = b)
    ∧ ((dormant 0).life.phase = .dormant ∧ bit ((dormant 0).reg pgLrm 0x088) 31 = false ∧ fld ((dormant 0).reg pgLrm 0x088) 0 16 = 0
      ∧ (dormant 0x80000001).life.phase = .dormant ∧ bit ((dormant 0x80000001).reg pgLrm 0x088) 31 = true
      ∧ fld ((dormant 0x80000001).reg pgLrm 0x088) 0 16 = 1 ∧ plain.life.phase ≠ .dormant)
    ∧ (∀ i ∈ [0, 40, 41, 42, 47], let s := island i 0 0 0 0; Admitted q23 .write (pgCrg i) 0x040 s ∧ Admitted q20 .write (pgCrg i) 0x040 s ∧ pageOn (pgCrg i) s = true)
    ∧ (∀ survey ∈ [0, 1, 2], let s := island 1 0x50000006 survey 0 0
      Admitted q23 .write (pgCrg 1) 0x048 s ∧ pageOn (pgCrg 1) s = true ∧ s.isLocked (pgCrg 1) = false ∧ fld (s.reg (pgCrg 1) 0x04C) 0 2 = survey
        ∧ islandOn 1 s = true ∧ islandOn 1 { s with dom := [(1, .off)] } = false)
    ∧ (∀ report ∈ [0x50000006, 0xC8000010], let s := island 1 report 1 0 0
      live s = true ∧ fld (s.reg (pgCrg 1) 0x04C) 0 2 = 1 ∧ (fld (s.reg (pgCrg 1) 0x060) 26 6, fld (s.reg (pgCrg 1) 0x060) 0 8)
        = (if report = 0x50000006 then (20, 6) else (50, 16)))
    ∧ (fld ((island 1 6 1 0x4C000000 0).reg (pgCrg 1) 0x044) 26 6 = 19)
    ∧ ((plain.reg pgLrm 0x08C + 1).toNat % 24 ≠ 0 ∧ ((dev .primary [(pgLrm, 0x08C, 22)]).reg pgLrm 0x08C + 1).toNat % 24 = 23
      ∧ plain.nrg.hourShifts < 5400000 ∧ 5400000 ≤ ({ plain.nrg with hourShifts := 5400000 } : Energy).hourShifts)
    ∧ (let s := island 47 0 0 0 0x53E80000
      Admitted q23 .write pgLrm 0x6BC s ∧ Admitted q20 .write pgLrm 0x6BC s ∧ pageOn pgLrm s = true ∧ fld (s.reg pgLrm 0x6BC) 26 6 = 20
        ∧ fld (s.reg pgLrm 0x6BC) 16 10 = 1000 ∧ fld 0xC83E0000#32 26 6 = 50 ∧ fld 0xC83E0000#32 16 10 = 62) := by
  refine ⟨fun b => ⟨admitted_of ?_, admitted_of ?_, ?_⟩, by decide +kernel, ?_, ?_, by decide +kernel, by decide +kernel, by decide +kernel,
    admitted_of ?_, admitted_of ?_, ?_⟩
  · cases b <;> decide +kernel
  · cases b <;> decide +kernel
  · cases b <;> decide +kernel
  · simp only [List.forall_mem_cons, List.not_mem_nil, false_implies, implies_true, and_true]
    refine ⟨⟨admitted_of ?_, admitted_of ?_, ?_⟩, ⟨admitted_of ?_, admitted_of ?_, ?_⟩, ⟨admitted_of ?_, admitted_of ?_, ?_⟩,
      ⟨admitted_of ?_, admitted_of ?_, ?_⟩, admitted_of ?_, admitted_of ?_, ?_⟩ <;> decide +kernel
  · simp only [List.forall_mem_cons, List.not_mem_nil, false_implies, implies_true, and_true]
    refine ⟨⟨admitted_of ?_, ?_⟩, ⟨admitted_of ?_, ?_⟩, admitted_of ?_, ?_⟩ <;> decide +kernel
  all_goals decide +kernel

/-- The watchdog with its window from `grace`, counting, with its reset armed, in SAFE or not. -/
def guarded (en : Nat) (safe : Bool) : State :=
  opened [(pgWdg, 0x044, 5), (pgWdg, 0x004, 0x10000 + en)] fun s => { s with
    eff := if en = 0 then [] else [(regKey pgWdg 0x004, w32 en)], guard := { s.guard with safe := safe } }

theorem witness_TheWatchdogGuardsTheDevice :
    (∀ x ∈ [(0, false), (1, false), (1, true)], let s := guarded x.1 x.2
      Admitted q23 .write pgWdg 0x04C s ∧ Admitted q20 .write pgWdg 0x04C s ∧ Admitted q23 .write pgWdg 0x054 s ∧ pageOn pgWdg s = true ∧ live s = true
        ∧ bit (s.effReg pgWdg 0x004) 0 = decide (x.1 = 1) ∧ s.guard.safe = x.2 ∧ bit (s.reg pgWdg 0x004) 16 = true ∧ fld (s.reg pgWdg 0x044) 0 20 = 5
        ∧ Admitted q23 .write pgBel 0x068 s ∧ Admitted q20 .write pgBel 0x06C s ∧ pageOn pgBel s = true ∧ s.life.phase ≠ .asserted)
    ∧ (State.reset.life.phase = .asserted ∧ live State.reset = false)
    ∧ (let c := comparedCodes plain; 819 + 30 < 600 + 5 * c.1 ∧ 600 + 5 * c.1 ≤ 820 + 30 ∧ 600 + 5 * c.2 + 40 < 891 ∧ 890 ≤ 600 + 5 * c.2 + 40) := by
  refine ⟨?_, by decide +kernel, by decide +kernel⟩
  simp only [List.forall_mem_cons, List.not_mem_nil, false_implies, implies_true, and_true]
  refine ⟨⟨admitted_of ?_, admitted_of ?_, admitted_of ?_, ?_, ?_, ?_, ?_, ?_, ?_, admitted_of ?_, admitted_of ?_, ?_⟩,
    ⟨admitted_of ?_, admitted_of ?_, admitted_of ?_, ?_, ?_, ?_, ?_, ?_, ?_, admitted_of ?_, admitted_of ?_, ?_⟩,
    admitted_of ?_, admitted_of ?_, admitted_of ?_, ?_, ?_, ?_, ?_, ?_, ?_, admitted_of ?_, admitted_of ?_, ?_⟩ <;> decide +kernel

/-! ### Hypotheses of the statements: debug and performance counters -/

/-- The debugger at `level`, with an access in its place; words of Bank 0 and page MPU 76 in its reach. -/
def wiring (level : Nat) (x : DbgAccess) (l : List (Nat × Nat × Nat) := []) : State :=
  opened ([(pgDbg, 0x040, 0x08000000 + level), (pgMpu 0, 0x104, 0xFFFFFC0), (pgMpu 0, 0x108, 0x80FFFFFF), (pgMpu 0, 0x10C, 0xFFFFFFFF)] ++ l) fun s =>
    { s with mem := marks, banks := [(0, { bank0 with owner := 0xFE })], dbg := { s.dbg with access := x } }

theorem wire_quiet (level : Nat) (h : level = 0 ∨ level = 1 ∨ level = 2) : WireQuiet (wiring level .none) := by
  rcases h with rfl | rfl | rfl <;> exact wireQuiet_of (by decide +kernel)

/-- Each level and each place of the wire's map; an access of each size, misaligned, late, to a register, to a sound word, to a poisoned one; a result that
waits for a poll, and an access still outstanding. -/
theorem witness_TheDebugWireAnswers :
    (∀ level ∈ [0, 1, 2], let s := wiring level .none
      WireQuiet s ∧ fld (s.reg pgDbg 0x040) 0 2 = level ∧ wireBusUp s = true)
    ∧ (wireReaches 0x3C = false ∧ wireReaches 0x42 = false ∧ wireReaches 0x800 = true ∧ wireNeeds false 0x040 = some 0 ∧ wireNeeds false 0x0A8 = some 1
      ∧ wireNeeds true 0x800 = none ∧ wireNeeds true 0x0A4 = some 2 ∧ wireReaches 0x098 = true)
    ∧ (accessNeeds false 0x10000040 = 2 ∧ accessNeeds false 0x1000 = 1)
    ∧ (let s := wiring 2 .none
      pageKind pgCan = some (.can, 0) ∧ mpuDecide 76 debugMaster .read (mpuAddress .read (regAddr pgCan 0x04C)) s = none
        ∧ mpuDecide 76 debugMaster .write (regAddr pgCan 0x00C) s = none
        ∧ (∀ a ∈ [0x1000, 0x1008], bankOf a = some 0 ∧ soundWord s.mem (a / 8) = true ∧ busCheck debugMaster .read a s = (none, s)
            ∧ busCheck debugMaster .write a s = (none, s) ∧ rosterPlace a = none)
        ∧ (storedValue s.mem 0x1008 4).2 = true ∧ (storedValue s.mem 0x1000 4).2 = false)
    ∧ (let s := wiring 2 (.outstanding false (BitVec.ofNat 32 (regAddr pgCan 0x04C)) 4 0)
      WireQuiet s ∧ s.dbg.access = .outstanding false (BitVec.ofNat 32 (regAddr pgCan 0x04C)) 4 0 ∧ wireBusUp s = true
        ∧ mpuDecide 76 debugMaster .read (mpuAddress .read (regAddr pgCan 0x04C)) s = none)
    ∧ (wiring 2 (.unreported ⟨1, none⟩)).dbg.access = .unreported ⟨1, none⟩ := by
  refine ⟨?_, by decide +kernel, by decide +kernel, by decide +kernel, ⟨wireQuiet_of (by decide +kernel), by decide +kernel⟩, rfl⟩
  intro level h
  have hl : level = 0 ∨ level = 1 ∨ level = 2 := by simpa using h
  refine ⟨wire_quiet level hl, ?_⟩
  rcases hl with rfl | rfl | rfl <;> decide +kernel

/-- The debugger at a level with its authentication's state `v`, a thread running at rest or in the middle of its bundle. -/
def authing (v : Nat) (t : Thread := runner) (l : List (Nat × Nat × Nat) := []) : State :=
  hewer t ((pgDbg, 0x040, 0x08000000 + v) :: l) fun s => { s with eff := [(regKey pgWdg 0x004, 1)] }

/-- No level, barred by the lockout or by its fuse, a challenge open, full level; a thread that stops and one that does not; an ADD to be fed. -/
theorem witness_DebugLevelsAndHalts :
    (∀ v ∈ [0, 1, 2, 0x04000001, 0x10000001, 0x10, 0x02000011], let s := authing v
      WireQuiet s ∧ halted s = false ∧ haltPending s = false ∧ fld (s.reg pgDbg 0x040) 0 2 = v % 4 ∧ (bit (s.reg pgDbg 0x040) 26 = decide (v = 0x04000001))
        ∧ (bit (s.reg pgDbg 0x040) 28 = decide (v = 0x10000001)) ∧ fld (s.reg pgDbg 0x040) 4 2 = v / 16 % 4)
    ∧ ((∀ x ∈ (authing 2).threads, x.2.running = true → threadStops x.2 = true) ∧ watchdogCounts (authing 2) = true ∧ (authing 2).life.phase ≠ .asserted)
    ∧ (let f : FDdd := ⟨9, 1, 2, 0⟩
      let s := authing 2 runner [(pgDbg, 0x088, (sylWord true 1 0x01 (packDdd f)).toNat)]
      WireQuiet s ∧ f.fn = 0 ∧ s.reg pgDbg 0x088 = sylWord true 1 0x01 (packDdd f) ∧ feedSelOk (s.reg pgDbg 0x084) = true ∧ isThread (feedHart s) = true
        ∧ coreOn (feedHart s).core.val s = true) := by
  refine ⟨?_, by decide +kernel, wireQuiet_of (by decide +kernel), by decide +kernel⟩
  simp only [List.forall_mem_cons, List.not_mem_nil, false_implies, implies_true, and_true]
  refine ⟨⟨wireQuiet_of ?_, ?_⟩, ⟨wireQuiet_of ?_, ?_⟩, ⟨wireQuiet_of ?_, ?_⟩, ⟨wireQuiet_of ?_, ?_⟩, ⟨wireQuiet_of ?_, ?_⟩, ⟨wireQuiet_of ?_, ?_⟩,
    wireQuiet_of ?_, ?_⟩ <;> decide +kernel

/-- The terminal's flags, a trace, counter 0 of PMC 1 selecting an event, with its high half held or not, a window of monitor 51. -/
def counted (term level : Nat) (trace : List W32) (sel frozen : Nat) (f : State → State := id) : State :=
  opened ([(pgDbg, 0x040, 0x08000000 + level), (pgPmc 37, 0x298, 0x80020000)] ++ (if term = 0 then [] else [(pgDbg, 0x0A8, term)])
    ++ (if sel = 0 then [] else [(pgPmc 1, 0x060, sel)]) ++ (if frozen = 0 then [] else [(pgPmc 0, 0x040, frozen)])) fun s => f { s with
    dbg := { s.dbg with trace := trace }, pmcHeld := [(8, some 0xABCDEF)] }

theorem bell_counted : BellAgrees (counted 0 0 [5, 6] 0 0) ∧ BellAgrees (counted 0 0 [] 0 0) :=
  have h : BellAgrees (counted 0 0 [] 0 0) := bellAgrees_of (by decide +kernel)
  ⟨h, h⟩

theorem witness_TerminalTraceAndCounters :
    (∀ term ∈ [0, 1, 2], let s := counted term 2 [] 0 0
      Admitted q23 .write pgDbg 0x0A0 s ∧ Admitted q20 .write pgDbg 0x0A8 s ∧ pageOn pgDbg s = true ∧ (s.reg pgDbg 0x0A8).toNat % 4 = term)
    ∧ (∀ level ∈ [0, 1, 2], fld ((counted 3 level [] 0 0).reg pgDbg 0x040) 0 2 = level)
    ∧ (∀ tr ∈ [[], [(5 : W32), 6]], let s := counted 0 0 tr 0 0; Admitted q23 .read pgDbg 0x0B0 s ∧ pageOn pgDbg s = true ∧ s.dbg.trace = tr)
    ∧ (BellAgrees (counted 0 0 [5, 6] 0 0) ∧ BellAgrees (counted 0 0 [] 0 0))
    ∧ (let s := counted 0 0 [] 0x80000005 0x10
      Admitted q23 .write (pgPmc 1) 0x080 s ∧ Admitted q23 .write (pgPmc 36) 0x080 s ∧ Admitted q23 .write (pgPmc 0) 0x040 s ∧ pageOn (pgPmc 0) s = true
        ∧ pageOn (pgPmc 1) s = true ∧ pageOn (pgPmc 36) s = true ∧ 0 < pmcK 1 ∧ 0 < pmcK 36
        ∧ sparseGet none s.pmcHeld 8 = some 0xABCDEF ∧ sparseGet none s.pmcHeld 9 = none ∧ pmcCounts 1 0 s = true ∧ pmcCounts 1 1 s = false
        ∧ bit (s.reg (pgPmc 0) 0x040) 4 = true ∧ pageOn (pgPmc 1) { s with dom := [(0, .off), (32, .off)] } = false)
    ∧ (let s := counted 0 0 [] 0 0
      live s = true ∧ bit (s.reg (pgPmc 37) 0x298) 31 = true ∧ bit (s.reg (pgPmc 37) 0x100) 31 = false ∧ pmcFrozen s = false ∧ halted s = false
        ∧ fld (s.reg (pgPmc 37) 0x298) 16 13 = 2 ∧ pmcFrozen (counted 0 0 [] 0 1) = true)
    ∧ (∀ n ∈ [0, 2 * 2 ^ 20, 2 * 2 ^ 20 + 1, 2 ^ 32], let s := counted 0 0 [] 0 0 fun s => { s with dbg := { s.dbg with bytes := [(51, n)] } }
      sparseGet 0 s.dbg.bytes 51 = n ∧ live s = true ∧ bit (s.reg (pgPmc 37) 0x298) 31 = true) := by
  refine ⟨?_, ?_, ?_, bell_counted, ⟨admitted_of ?_, admitted_of ?_, admitted_of ?_, ?_⟩, ?_, ?_⟩
  · simp only [List.forall_mem_cons, List.not_mem_nil, false_implies, implies_true, and_true]
    refine ⟨⟨admitted_of ?_, admitted_of ?_, ?_⟩, ⟨admitted_of ?_, admitted_of ?_, ?_⟩, admitted_of ?_, admitted_of ?_, ?_⟩ <;> decide +kernel
  · decide +kernel
  · simp only [List.forall_mem_cons, List.not_mem_nil, false_implies, implies_true, and_true]
    refine ⟨⟨admitted_of ?_, ?_⟩, admitted_of ?_, ?_⟩ <;> decide +kernel
  all_goals decide +kernel
/-! ### Hypotheses of the statements: resets, boot, flash and host -/

/-- A phase, with its causes, attempts at boot, DBG_STAT and DBG_CTRL. -/
def staged (phase : Phase) (causes : BitVec 5) (attempts dbg ctrl : Nat) (f : Life → Life := id) : State :=
  dev .primary ((pgDbg, 0x040, 0x08000000 + dbg) :: (if attempts = 0 then [] else [(pgAon, 0x044, attempts)])
    ++ (if ctrl = 0 then [] else [(pgDbg, 0x080, ctrl)])) fun s => { s with life := f { s.life with phase := phase, causes := causes, supplyLow := false, refCount := false, pinLow := false } }

/-- Each phase a reset may find; a bank of every power; the halves of the supply's return. -/
theorem witness_ResetsLeaveWhatTheirTypeKeeps :
    (∀ ph ∈ [Phase.asserted, .booting, .bootHold, .running, .dormant], (staged ph 0 1 0xC0000002 0).life.phase = ph)
    ∧ (let s := dev .primary [] fun s => { s with mem := marks, arr := [(0, .off)], dom := [(53, .off)] }
      bankOf (8 * 0x201) = some 0 ∧ bankPower 0 s = .off ∧ bankPower 56 s = .off ∧ bankPower 1 s ≠ .off ∧ sparseGet false s.emu.arr 0 = false)
    ∧ keptReg (regKey pgLrm 0x200) = true ∧ keptReg (regKey pgOns 0x044) = false := by decide +kernel

def bootInput (mode : BitVec 2) (bad : Option (Nat × Nat)) : BootIn := ⟨mode, true, false, [(0x50, 5)], bad, true, false, 0x1C, 26, none, [[1, 2, 3, 4]]⟩

/-- A reset that lasts for each of its reasons; a first, a third and a fourth attempt; a reserved strap; a halt that was asked for; a failed bank; the timer
and the RETRY in their phase and outside it. -/
theorem witness_ReleasesAndHandover :
    (∀ s ∈ [staged .running 0 0 0 0, staged .asserted 2 0 0 0 (fun l => { l with pinLow := true }), staged .asserted 1 0 0 0 (fun l => { l with supplyLow := true }),
        staged .asserted 1 0 0 0 fun l => { l with refCount := true }],
      s.life.phase ≠ .asserted ∨ s.life.pinLow = true ∨ s.life.supplyLow = true ∨ s.life.refCount = true)
    ∧ (∀ x ∈ [((1 : BitVec 5), 3), (2, 0), (2, 2), (2, 3)], let s := staged .asserted x.1 x.2 0 0
      s.life.phase = .asserted ∧ s.life.pinLow = false ∧ s.life.supplyLow = false ∧ s.life.refCount = false ∧ s.life.booted = false
        ∧ fld (s.reg pgAon 0x044) 0 2 = x.2 ∧ bit s.life.causes 0 = decide (x.1 = 1) ∧ debugLevel s = 0)
    ∧ (debugLevel (staged .asserted 2 0 0x40000002 0) = 2 ∧ haltPending (staged .asserted 2 0 0x40000002 0) = true
      ∧ haltPending (staged .asserted 2 0 2 0x40) = false ∧ bit ((staged .asserted 2 0 2 0x40).reg pgDbg 0x080) 6 = true)
    ∧ ((bootInput 3 none).mode = 3 ∧ (bootInput 0 none).badBank = none ∧ (bootInput 0 (some (75, 3))).badBank = some (75, 3))
    ∧ (halted (staged .booting 0 1 0 0) = false ∧ halted (staged .booting 0 1 0x80000000 0) = true
      ∧ (staged .booting 0 2 0 0).life.heldBoot = none ∧ (staged .booting 0 2 0 0 fun l => { l with heldBoot := some (bootInput 0 none) }).life.heldBoot ≠ none)
    ∧ (debugLevel (staged .bootHold 0 1 2 0) = 2 ∧ debugLevel (staged .bootHold 0 1 1 0) ≠ 2)
    ∧ (fld ((staged .booting 0 2 0 0).reg pgAon 0x044) 0 2 = 2 ∧ fld ((staged .booting 0 1 0 0).reg pgAon 0x044) 0 2 = 1) := by decide +kernel

/-- The flash controller's command and status. -/
def flashing (cmd stat len : Nat) : State :=
  dev .primary ((if cmd = 0 then [] else [(pgXsp, 0x048, cmd)]) ++ (if stat = 0 then [] else [(pgXsp, 0x054, stat)])
    ++ (if len = 0 then [] else [(pgXsp, 0x050, len)]))

theorem witness_FlashCommandsRun :
    (∀ stat ∈ [0, 0x40000000, 0x80000003, 0xC0000002], Admitted q23 .write pgXsp 0x048 (flashing 0xC0000000 stat 0) ∧ pageOn pgXsp (flashing 0xC0000000 stat 0) = true
      ∧ fld ((flashing 0xC0000000 stat 0).reg pgXsp 0x054) 30 2 = stat / 0x40000000)
    ∧ Admitted q20 .write pgXsp 0x048 (opened)
    ∧ (fabricUp (flashing 0 0 0) = true ∧ bit ((flashing 0 0x40000000 0).reg pgXsp 0x048) 30 = false ∧ bit ((flashing 0xC0000000 0 0).reg pgXsp 0x048) 30 = true)
    ∧ (∀ stat ∈ [0x80000002, 0x80000003], bit ((flashing 0xD0000000 stat 256).reg pgXsp 0x054) 0 = decide (stat = 0x80000003))
    ∧ fld ((flashing 0x90000000 0x40000000 256).reg pgXsp 0x048) 28 2 = 1 ∧ fld ((flashing 0x90000000 0x40000000 256).reg pgXsp 0x050) 0 9 = 256 := by
  refine ⟨?_, admitted_of ?_, ?_, ?_, ?_, ?_⟩
  · simp only [List.forall_mem_cons, List.not_mem_nil, false_implies, implies_true, and_true]
    refine ⟨⟨admitted_of ?_, ?_⟩, ⟨admitted_of ?_, ?_⟩, ⟨admitted_of ?_, ?_⟩, admitted_of ?_, ?_⟩ <;> decide +kernel
  all_goals decide +kernel

/-- The link up and the host port READY, with the command register of its configuration. -/
def hosted (stat ready command : Nat) (dbg : Nat := 0) : State :=
  opened ([(pgDbg, 0x040, 0x08000000 + dbg), (pgMpu 0, 0x104, 0xFFFFFC0), (pgMpu 0, 0x108, 0x80FFFFFF), (pgMpu 0, 0x10C, 0xFFFFFFFF)]
      ++ (if stat = 0 then [] else [(pgPci, 0x04C, stat)]) ++ (if ready = 0 then [] else [(pgPci, 0x048, ready)])) fun s =>
    { s with banks := [(0, { bank0 with owner := 0xA0 })], pci := { s.pci with cfg := if command = 0 then [] else [(4, w32 command)] } }

/-- Power management's control, wherever it stands (log 46), is not the command register. -/
theorem hosted_d0 : pciD3 (hosted 0x80000000 1 6) = false := by
  have h : 4 ≠ pmControl := by unfold pmControl; omega
  simp [pciD3, State.pciCfg, hosted, opened, dev, sparseGet, h, fld]

theorem witness_HostRequestsAreAnswered :
    (bit ((hosted 0 1 6).reg pgPci 0x04C) 31 = false ∧ bit ((hosted 0x80000000 0 6).reg pgPci 0x04C) 31 = true ∧ bit ((hosted 0x80000000 0 6).reg pgPci 0x048) 0 = false
      ∧ bit ((hosted 0x80000000 1 6).reg pgPci 0x048) 0 = true ∧ halted (hosted 0x80000000 1 6) = false ∧ halted (hosted 0x80000000 1 6 0x80000000) = true)
    ∧ (pciD3 (hosted 0x80000000 1 6) = false ∧ bit ((hosted 0x80000000 1 6).pciCfg 0x04) 1 = true ∧ bit ((hosted 0x80000000 1 0).pciCfg 0x04) 1 = false)
    ∧ (let s := hosted 0x80000000 1 6
      let e := pciReply .none s
      (pageKind 0x105).isSome = true ∧ mpuDecide 76 hostMaster .read (mpuAddress .read 0x10105040) s = none ∧ mpuDecide 76 hostMaster .write 0x10105040 s = none
        ∧ busCheck hostMaster .read 0x1000 e = (none, e) ∧ busCheck hostMaster .write 0x1000 e = (none, e))
    ∧ ((mpuDecide 76 hostMaster .read 0x10105040 plain).isSome = true ∧ (mpuDecide 76 hostMaster .write 0x10105040 plain).isSome = true) :=
  ⟨by decide +kernel, ⟨hosted_d0, by decide +kernel⟩, by decide +kernel, by decide +kernel⟩

/-- The mailboxes' VALID bits, pending messages and the MSI capability, wherever it stands (log 46). -/
def mailing (stat pending control mask : Nat) : State :=
  opened ((if stat = 0 then [] else [(pgPci, 0x04C, stat)]) ++ (if pending = 0 then [] else [(pgPci, 0x088, pending)])) fun s =>
    { s with pci := { s.pci with cfg := [(msiControl, w32 control), (msiControl + 0x10, w32 mask)] } }

theorem mailing_control (stat pending control mask : Nat) : (mailing stat pending control mask).pciCfg msiControl = w32 control := by
  simp [State.pciCfg, mailing, opened, dev, sparseGet]
theorem mailing_mask (stat pending control mask : Nat) : (mailing stat pending control mask).pciCfg msiMask = w32 mask := by
  simp [State.pciCfg, mailing, opened, dev, sparseGet, msiMask]
def qA0 : Requester := ⟨0xA0, true⟩

theorem witness_MailboxesAndMessagesPass :
    (∀ stat ∈ [0, 1, 2, 0x80000003], let s := mailing stat 2 0x00310000 0
      pageOn pgPci s = true ∧ live s = true ∧ Admitted qA0 .write pgPci 0x05C s ∧ Admitted q23 .write pgPci 0x060 s ∧ Admitted q23 .write pgPci 0x07C s
        ∧ Admitted qA0 .write pgPci 0x080 s ∧ Admitted q23 .write pgPci 0x084 s ∧ s.reg pgPci 0x04C = w32 stat)
    ∧ (let s := mailing 0 2 0x00310000 2
      msiAlloc s = 3 ∧ msiEnabled s = true ∧ msiMasked 1 s = true ∧ msiMasked 0 s = false ∧ bit (s.reg pgPci 0x088) 1 = true ∧ bit (s.reg pgPci 0x088) 0 = false)
    ∧ msiEnabled (mailing 0 0 0 0) = false := by
  refine ⟨?_, ?_, by rw [msiEnabled, mailing_control]; decide⟩
  rotate_left
  · simp only [msiAlloc, msiEnabled, msiMasked, mailing_control, mailing_mask]
    decide +kernel
  simp only [List.forall_mem_cons, List.not_mem_nil, false_implies, implies_true, and_true]
  refine ⟨⟨?_, ?_, admitted_of ?_, admitted_of ?_, admitted_of ?_, admitted_of ?_, admitted_of ?_, ?_⟩,
    ⟨?_, ?_, admitted_of ?_, admitted_of ?_, admitted_of ?_, admitted_of ?_, admitted_of ?_, ?_⟩,
    ⟨?_, ?_, admitted_of ?_, admitted_of ?_, admitted_of ?_, admitted_of ?_, admitted_of ?_, ?_⟩,
    ?_, ?_, admitted_of ?_, admitted_of ?_, admitted_of ?_, admitted_of ?_, admitted_of ?_, ?_⟩ <;> decide +kernel

/-! ### Hypotheses of the statements: the block as a whole -/

theorem witness_StepsRunTheFrontCommand : State.reset.pending = [] ∧ exec (.linkUp 0) State.reset = step { State.reset with pending := [.linkUp 0] } :=
  ⟨rfl, rfl⟩

/-- The state after reset agrees with its Bell, and a step from it answers. -/
theorem witness_EveryStepKeepsTheBell : BellAgrees State.reset ∧ step State.reset = .next State.reset := ⟨bellAgrees_of (by decide +kernel), rfl⟩

/-- The first and the last byte of a bank, one byte and a run across words, sound words unwritten and marked. -/
theorem witness_MemoryReturnsWhatWasWritten :
    (∀ x ∈ [(0x1000, 1), (0x1007, 9), (0x7FFFF, 1), (0, 16)], bankOf x.1 = some 0 ∧ bankOf (x.1 + x.2 - 1) = some 0
      ∧ ((List.range (x.2 + 7)).all fun k => soundWord marks ((x.1 + k) / 8)) = true)
    ∧ classify 0 (checkOf 0 ^^^ 0x5B) = .marked := by decide +kernel

/-- Words of each encoding: of one word and of two, a quad register that exists, a code that spells none. -/
theorem witness_DeputyWordsSpellTheirInstructions :
    (depWords (.depNop 0)).isSome = true ∧ (depWords (.depJmp 23 0x1234)).isSome = true ∧ (depWords (.depLdq 5 1 1 127)).isSome = true
      ∧ (depWords (.depStq 5 2 0 0)).isSome = true ∧ depWords (.linkUp 0) = none
      ∧ (depDecode 7 0 0).isSome = true ∧ 0x1B ≤ (0xD800#16).toNat / 2 ^ 11 ∧ 0x16 ≤ (0x4016#16).toNat % 2 ^ 5 := by decide +kernel
/-! ### The manual's worked examples -/

/-- The page of correlator 40, of which a sequence of writes has left the lock `l` and the registers `r`. -/
def page40 (l : PageLock) (r : List (Nat × Nat × Nat) := []) : State :=
  opened ((pgMpu 76, 0x10C, 0xFFFFFFFF) :: r) fun s => { s with locks := [(0x2E8, l)] }

/-- Example 2.1, step 2: the host's key breaks the Triad's sequence. -/
theorem test_lock_sequence_of_another :
    after (.blkLockWrite qA0 0x2E8 0xC3) (page40 (.armed 0x23)) (fun t =>
      decide (t.lockOf 0x2E8 = .unlocked) && decide (t.reg 0x2E8 0x020 = 0x102) && decide (t.reg 0x2E8 0x024 = 0x102E8028)) = true := by decide +kernel
/-- Example 2.1, step 4. -/
theorem test_lock_closes :
    after (.blkLockWrite q23 0x2E8 0xC3) (page40 (.armed 0x23)) (fun t => decide (t.lockOf 0x2E8 = .locked)) = true := by decide +kernel
/-- Example 2.1, step 5: a write of the locked BLK_EVT_EN. -/
theorem test_locked_write_counts :
    after (.registerWrite qA0 0x102E8010 4 1) (page40 .locked [(0x2E8, 0x020, 0x102), (0x2E8, 0x024, 0x102E8028)]) (fun t =>
      decide (t.reg 0x2E8 0x020 = 0x202) && decide (t.reg 0x2E8 0x024 = 0x102E8028)) = true := by decide +kernel
/-- Example 2.1, step 6: the peek of BLK_ERR_CODE. -/
theorem test_peek_returns :
    (pageRead 0x2E8 0x820 (page40 .locked [(0x2E8, 0x020, 0x202)])).1 = 0x202 := by decide +kernel

/-- Examples 4.1, 4.2, 4.3 and 5.1, 5.3: the words of syllables. -/
theorem test_words_of_syllables :
    sylWord false 0 0x04 (packMem ⟨4, 2, 3, 1, 1⟩) = 0x01088D01 ∧ sylWord true 2 0x02 (packMul ⟨0, 0, 4, 7, 0⟩) = 0xC0804380
      ∧ sylWord false 1 0x60 (packDdi ⟨9, 0, 1⟩) = 0x38120001 ∧ sylWord true 3 0x7F 0x199999 = 0xFFD99999
      ∧ sylWord false 0 0x24 (packMem ⟨5, 3, 4, 0, 2⟩) = 0x090AD002 ∧ sylWord false 1 0x11 (packDdi ⟨5, 5, 1⟩) = 0x244A5001
      ∧ sylWord false 2 0x01 (packMul ⟨1, 0, 5, 6, 0⟩) = 0x40485300 ∧ sylWord true 3 0x02 (packBr ⟨8, 0x1FFF4⟩) = 0xE091FFF4
      ∧ sylWord true 1 0x5E (packDdi ⟨5, 4, 0x00A⟩) = 0xB78A400A ∧ sylWord true 1 0x75 (packDdd ⟨3, 10, 11, 0⟩) = 0xBD46A580 := by decide
/-- Example 4.2: the long immediate 0x59_9999, and an IMM12 that breaks R106. -/
theorem test_long_immediate :
    after (.movi ⟨h0, true, some 0x199999⟩ ⟨9, 0, 1⟩) (hewer runner) (fun t => decide ((t.thread h0).dReg 9 = ⟨0x599999, false⟩)) = true
      ∧ after (.movi ⟨h0, true, some 0x199999⟩ ⟨9, 0, 0x801⟩) (hewer runner) (fun t => decide ((t.thread h0).xcause = 0x4004)) = true := by decide +kernel
/-- Example 5.1: a big-endian sample put in order; the old D5 is poisoned and not selected. -/
theorem test_sample_reordered :
    after (.bpermi iA ⟨5, 4, 0x00A⟩) (hewer { runner with d := [(4, ⟨0x563412, false⟩), (5, ⟨0, true⟩)] })
      (fun t => decide ((t.thread h0).dReg 5 = ⟨0x123456, false⟩)) = true := by decide +kernel
/-- Example 5.3's noise gate, on Hewer 0 with the same entries of District 0. -/
def gating (d10 : W24) : State :=
  hewer { runner with d := [(10, ⟨d10, false⟩), (11, ⟨0x1000, false⟩)] } [] fun s => { s with
    eff := [(regKey (pgHwr 0) 0x114, 0x80000C40)]
    mem := { s.mem with ustore := [(0x4402, 0x03), (0x4407, 0x10), (0x4412, 0x21), (0x4413, 0x01), (0x4416, 0x11), (0x4422, 0x31), (0x4423, 0x02), (0x4427, 0x10),
      (0x4432, 0x30), (0x4433, 0x4A)].map fun x => (x.1 - 0x4000, x.2) } }
theorem test_noise_gate :
    after (.xop iA 5 ⟨3, 10, 11, 0⟩) (gating 0xFFF400) (fun t => decide ((t.thread h0).dReg 3 = ⟨0, false⟩)) = true
      ∧ after (.xop iA 5 ⟨3, 10, 11, 0⟩) (gating 0x2000) (fun t => decide ((t.thread h0).dReg 3 = ⟨0x2000, false⟩)) = true := by decide +kernel

/-- Example 14.1: checker 37 with its two regions. -/
def logBuffer : State :=
  dev .primary [(pgMpu 37, 0x100, 0x01500000), (pgMpu 37, 0x104, 0x0151EFC0), (pgMpu 37, 0x108, 0x80580011), (pgMpu 37, 0x110, 0x0151F000), (pgMpu 37, 0x114, 0x0151FFC0),
    (pgMpu 37, 0x118, 0x88D80001), (pgMpu 37, 0x11C, 0xA0)]
theorem test_log_buffer :
    mpuDecide 37 qA0 .read 0x0151F100 logBuffer = none ∧ mpuDecide 37 qA0 .write 0x0151F100 logBuffer = some (.noGrant, some 1)
      ∧ mpuDecide 37 ⟨0x0C, false⟩ .write 0x0151F200 logBuffer = none ∧ mpuDecide 37 ⟨0x62, true⟩ .read 0x0151F000 logBuffer = some (.noGrant, some 1)
      ∧ (mpuDecide 37 ⟨0x0C, false⟩ .read 0x01520000 logBuffer).map (·.1) = some .userNoRegion
      ∧ mpuDecide 37 ⟨0x0C, true⟩ .read 0x01520000 logBuffer = none := by decide +kernel

/-- Example 10.1: the Deputy's words. -/
theorem test_deputy_words :
    depDecode 10 0x7800 0x60CC = some (.depLdy 10 0 0x60CC) ∧ depDecode 10 0x4A00 0 = some (.depLd 10 2 0 0) ∧ depDecode 10 0x3202 0 = some (.depCeqi 10 2 2)
      ∧ depDecode 10 0xA203 0 = some (.depBnz 10 2 3) := by decide +kernel

/-- Example 16.2: the survey of an island with VSTART 24 and DSTEP 4. -/
theorem test_survey :
    after (.surveyDone 12 [18, 23, 21, 25]) (dev .primary [(pgCrg 12, 0x060, 0x60000004), (pgCrg 12, 0x04C, 1), (pgCrg 12, 0x048, 3), (pgCrg 12, 0x044, 0x63E80000)])
      (fun t => decide (t.reg (pgCrg 12) 0x04C = 0x7FE80642) && bit (t.reg (pgCrg 12) 0x00C) 2) = true := by decide +kernel

/-- Example 18.1: the CRC of the request and of the response, and the request's bits. -/
theorem test_wire_crc : crc8 [0x38, 0x20, 0x88, 0x2E, 0x10] = 0xD3 ∧ crc8 [0x01, 0x02, 0x02, 0x00, 0x00] = 0x98
    ∧ requestBytes (.mread 0x102E8820 2) = [0x38, 0x20, 0x88, 0x2E, 0x10] ∧ (requestBits (.mread 0x102E8820 2)).length = 48 := by decide +kernel
/-- Example 18.1, step 2: a normal offset at OBSERVE. -/
theorem test_wire_denied :
    after (.mread 0x102E8020 2 false) (wiring 1 .none) (fun t => decide (t.dbg.wire = some ⟨4, none⟩)) = true := by decide +kernel
/-- Example 18.1, step 6: the end of a halt leaves the watchdog GRACE. -/
theorem test_resume_grace :
    fld ((watchdogGrace (dev .primary [(pgWdg, 0x040, 8000), (pgWdg, 0x044, 4000), (pgWdg, 0x048, 1000), (pgWdg, 0x050, 0x40001DB0)] fun s =>
      { s with eff := [(regKey pgWdg 0x004, 1)] })).reg pgWdg 0x050) 0 20 = 7000 := by decide +kernel

/-- Example 8.1, shift S at 90 µs: the host's write of a class 0 entry is refused. -/
theorem test_class0_writer :
    after (.tippleStageDataWrite qA0 0x40000000) (opened [(pgTpl, 0x040, 0x5010)] fun s => { s with tpl := { s.tpl with table := [(0x5010, 0x40000080)] } })
      (fun t => decide (fld (t.reg pgTpl 0x020) 0 8 = 0x41) && decide (t.reg pgTpl 0x024 = 0x10101044) && decide (t.tpl.queue = [])) = true := by decide +kernel

/-- R210: a 16-bit slot 1 behind a delay of one BCLK period, read at the rising edges, most significant bit first. -/
theorem test_tdm_slot :
    slotIn 16 1 false ((List.replicate 17 (false, false)) ++ [(true, false), (false, true)] ++ List.replicate 14 (true, true)) 1 = 0xBFFF00
      ∧ slotIn 16 1 true ((List.replicate 17 (false, false)) ++ [(true, false), (false, true)] ++ List.replicate 14 (true, true)) 1 = 0x7FFF00 := by decide +kernel

end Sys2Proof.Tests
end

/-!
Sys2Proof/Proofs: the operations of slots A and X as bundles of one syllable (R116–R123).
-/

namespace Sys2Proof.Operations

open Sys2Proof.Machine Sys2Proof.Safety

/-! ### A command as a syllable -/

/-- The command issues the syllable of `slot` with opcode `opc` and operand fields `opnd`. -/
def Issues (c : Instr) (i : Issue) (slot opc opnd : Nat) : Prop := ∀ s, exec c s = commit (issueSyl i slot opc opnd) s

@[simp] theorem sylOf_slot (i : Issue) (slot opc opnd : Nat) : (sylOf i slot opc opnd).slot = slot := rfl
@[simp] theorem sylOf_opc (i : Issue) (slot opc opnd : Nat) : (sylOf i slot opc opnd).opc = opc := rfl

section
variable (i : Issue) (slot opc : Nat) (f : FDdd) (g : FDdi)

@[simp] theorem sylOf_ddd_dd : (sylOf i slot opc (packDdd f)).dd = f.dd.toNat := (fields_ddd f slot opc _).1
@[simp] theorem sylOf_ddd_ds1 : (sylOf i slot opc (packDdd f)).ds1 = f.ds1.toNat := (fields_ddd f slot opc _).2.1
@[simp] theorem sylOf_ddd_ds2 : (sylOf i slot opc (packDdd f)).ds2 = f.ds2.toNat := (fields_ddd f slot opc _).2.2.1
@[simp] theorem sylOf_ddd_fn : (sylOf i slot opc (packDdd f)).fn = f.fn.toNat := (fields_ddd f slot opc _).2.2.2
@[simp] theorem sylOf_ddi_dd : (sylOf i slot opc (packDdi g)).dd = g.dd.toNat := (fields_ddi g slot opc _).1
@[simp] theorem sylOf_ddi_ds1 : (sylOf i slot opc (packDdi g)).ds1 = g.ds1.toNat := (fields_ddi g slot opc _).2.1
@[simp] theorem sylOf_ddi_imm (b : Bool) : (sylOf i slot opc (packDdi g)).imm b = immediate i g.imm b := imm_ddi i g slot opc b

end

theorem extOk_of_none {i : Issue} (hx : i.ext = none) (slot opc opnd : Nat) : extOk (sylOf i slot opc opnd) = true := by
  simp [extOk, sylOf, hx]

/-! ### Decoding -/

/-- An assigned syllable of slot A or X other than an XOP has no decode fault but that of its operand fields (R98, R100). -/
theorem decodeFaults_one (x : Ctx) (s : State) (y : Syl) (hs : y.slot = 1 ∨ y.slot = 2) (hm : (fmtOf y.slot y.opc).isSome = true)
    (hn : isXop y = false) : decodeFaults x s [y] = if operandOk y then [] else [excPlain 4 y.slot 0x04] := by
  have s3 : y.slot ≠ 3 := by omega
  have wc (b : Bool) : wrongCore b y = false := by cases b <;> simp [wrongCore, s3, hn]
  have m : fmtOf y.slot y.opc ≠ none := Option.isSome_iff_ne_none.mp hm
  cases ok : operandOk y <;> simp [decodeFaults, wc, m, ok, hn]

/-! ### One syllable that retires, and one that traps -/

/-- A syllable of slot A or X, as it stands in a bundle of its own: its fields are those of a well-formed word, and its extension, if it has one, is
one it takes (R97, R106). -/
structure Lone (c : Instr) (i : Issue) (slot opc opnd : Nat) : Prop where
  issues : Issues c i slot opc opnd
  slots : slot = 1 ∨ slot = 2
  opcode : opc < 128
  operand : opnd < 0x400000
  assigned : (fmtOf slot opc).isSome = true
  noXop : isXop (sylOf i slot opc opnd) = false
  takesExt : i.ext.isSome = true → extendable ⟨slot, opc, BitVec.ofNat 22 opnd, none⟩ = true
  apart : twice (writesOf ⟨slot, opc, BitVec.ofNat 22 opnd, none⟩) [] = false

section
variable {i : Issue} {s : State} (R : Ready i s) {c : Instr} {slot opc opnd : Nat} (L : Lone c i slot opc opnd)
include R L

/-- A syllable whose fields are in order and that raises nothing retires with its writes (R82). -/
theorem Lone.retires {ws : List RegWrite} (ok : operandOk (sylOf i slot opc opnd) = true)
    (ev : ∀ ww l s', evalSyl (ctxOf i.hart (atWork (s.thread i.hart) ww l)) s' (sylOf i slot opc opnd) = effWrites ws) :
    Retires c i s ws := by
  obtain ⟨u, hu, same⟩ := issue_value R ws none L.slots L.opcode L.operand L.takesExt L.apart
    (fun ww l => by rw [decodeFaults_one _ _ _ L.slots L.assigned L.noXop, ok]; rfl) (fun ww l => ev ww l _)
  exact ⟨u, hu, reaches_of _ (L.issues s) same⟩

/-- A syllable that raises one cause of a rank below 9: the thread enters its handler (R157, R158). -/
theorem Lone.traps_of_raise (hp : vectorReady i.hart s) {rank cause : Nat} (h9 : rank < 9)
    (ev : ∀ ww l s', evalBundle (ctxOf i.hart (atWork (s.thread i.hart) ww l)) s' [sylOf i slot opc opnd] = raise rank slot cause) :
    Traps c i.hart s (causeWord cause slot 0) := by
  have hs := L.slots
  have s3 : slot ≠ 3 := by omega
  have raised ww l := runPlain_raised (ctxOf i.hart (atWork (s.thread i.hart) ww l)) _ _ (excPlain rank slot cause) [] [] none none
    (ev ww l (s.setThread i.hart (atWork (s.thread i.hart) ww l))) h9 (by simp [firstExc, excPlain, h9])
  obtain ⟨u, hu, same⟩ := issue_raises R hp _ (by omega) L.opcode L.operand (by omega) L.takesExt L.apart (by simp [isPrefix, s3])
    (by simp [isBlock, s3]) raised
  exact ⟨u, hu, reaches_of _ (L.issues s) same⟩

/-- A syllable whose operand fields are out of order raises ILLEGAL_OPERAND (R100, R158). -/
theorem Lone.traps_operand (hp : vectorReady i.hart s) (bad : operandOk (sylOf i slot opc opnd) = false) :
    Traps c i.hart s (causeWord 0x04 slot 0) := by
  refine L.traps_of_raise R hp (rank := 4) (by omega) fun ww l s' => ?_
  simp only [evalBundle, decodeFaults_one _ _ _ L.slots L.assigned L.noXop, bad, Bool.false_eq_true, if_false]
  rfl

/-- A syllable whose fields are in order and whose operand's poison bites raises POISON_USE (R95). -/
theorem Lone.traps_poison (hp : vectorReady i.hart s) (ok : operandOk (sylOf i slot opc opnd) = true)
    (ev : ∀ ww l s', evalSyl (ctxOf i.hart (atWork (s.thread i.hart) ww l)) s' (sylOf i slot opc opnd) = raise 6 slot 0x06) :
    Traps c i.hart s (causeWord 0x06 slot 0) := by
  refine L.traps_of_raise R hp (rank := 6) (by omega) fun ww l s' => ?_
  have s3 : slot ≠ 3 := by have := L.slots; omega
  have unlocked : (ctxOf i.hart (atWork (s.thread i.hart) ww l)).t.locked = false := R.unlocked
  simp [evalBundle, decodeFaults_one _ _ _ L.slots L.assigned L.noXop, ok, ev, lockFaults, unlocked, isLock, s3, Effect.add, raise, noEffect]

end

/-! ### Operations on D registers -/

/-- The format of an operation on D registers: those that an immediate places or completes are DDI, all others DDD (R100, R116–R120). -/
def aluFmt : AluOp → Fmt
  | .imm _ | .shiftI _ | .field _ | .fieldIns | .permI | .const _ => .ddi
  | _ => .ddd

theorem fmtOf_of_aluOp {opc : Nat} {op : AluOp} (h : aluOp opc = some op) : fmtOf 1 opc = some (aluFmt op) := by
  unfold aluOp at h
  split at h <;> cases h <;> rfl

/-- The command issues an operation on D registers, in its operation's format. -/
theorem lone_alu {c : Instr} {i : Issue} {opc opnd : Nat} {op : AluOp} (h : aluOp opc = some op) (hc : Issues c i 1 opc opnd)
    (h3 : opnd < 0x400000) (he : i.ext.isSome = true → aluFmt op = .ddi) : Lone c i 1 opc opnd where
  issues := hc
  slots := .inl rfl
  opcode := by have := (aluOp_cases h).2; omega
  operand := h3
  assigned := by simp [fmtOf_of_aluOp h]
  noXop := decide_eq_false (Nat.not_le.mpr (aluOp_cases h).2)
  takesExt hx := by simp [extendable, fmtOf_of_aluOp h, he hx]
  apart := writesOf_alu _ op rfl h

/-- The fields of an operation on D registers are in order as its extension and its own fields are. -/
theorem operandOk_alu {i : Issue} {opc opnd : Nat} {op : AluOp} (h : aluOp opc = some op) (hx : extOk (sylOf i 1 opc opnd) = true) :
    operandOk (sylOf i 1 opc opnd) = aluOperandOk op (sylOf i 1 opc opnd) := by
  rw [operandOk, hx, Bool.true_and]
  exact aOperandOk_alu _ op h

section
variable {i : Issue} {s : State} (R : Ready i s) {c : Instr} {opc : Nat} {op : AluOp}
include R

section
variable (hx : i.ext = none) {f : FDdd} (hc : Issues c i 1 opc (packDdd f)) (h : aluOp opc = some op)
include hx hc h

/-- An operation of format DDD writes its result to Dd (R116–R120). -/
theorem ddd_retires (ok : aluOperandOk op (sylOf i 1 opc (packDdd f)) = true)
    (clean : op.bites ((s.thread i.hart).dReg f.ds2.toNat) = false) {v : Val 24}
    (hv : ∀ n, op.eval ((s.thread i.hart).dReg f.ds1.toNat) ((s.thread i.hart).dReg (f.ds1.toNat + 1)) ((s.thread i.hart).dReg f.ds2.toNat)
      ((s.thread i.hart).dReg f.dd.toNat) n = v) : Retires c i s [wrD f.dd.toNat v] := by
  have L := lone_alu h hc (packDdd_lt f) (by simp [hx])
  refine L.retires R ((operandOk_alu h (extOk_of_none hx _ _ _)).trans ok) fun ww l s' => ?_
  have dReg : (ctxOf i.hart (atWork (s.thread i.hart) ww l)).t.dReg = (s.thread i.hart).dReg := rfl
  exact (evalA_alu _ _ s' op h).trans (by simp [dReg, clean, hv])

/-- One whose fields are out of order raises ILLEGAL_OPERAND. -/
theorem ddd_traps_operand (hp : vectorReady i.hart s) (bad : aluOperandOk op (sylOf i 1 opc (packDdd f)) = false) :
    Traps c i.hart s (causeWord 0x04 1 0) :=
  (lone_alu h hc (packDdd_lt f) (by simp [hx])).traps_operand R hp ((operandOk_alu h (extOk_of_none hx _ _ _)).trans bad)

/-- One of which a poisoned Ds2 is a count, place or selector raises POISON_USE (R95). -/
theorem ddd_traps_poison (hp : vectorReady i.hart s) (ok : aluOperandOk op (sylOf i 1 opc (packDdd f)) = true)
    (bites : op.bites ((s.thread i.hart).dReg f.ds2.toNat) = true) : Traps c i.hart s (causeWord 0x06 1 0) := by
  have L := lone_alu h hc (packDdd_lt f) (by simp [hx])
  refine L.traps_poison R hp ((operandOk_alu h (extOk_of_none hx _ _ _)).trans ok) fun ww l s' => ?_
  have dReg : (ctxOf i.hart (atWork (s.thread i.hart) ww l)).t.dReg = (s.thread i.hart).dReg := rfl
  exact (evalA_alu _ _ s' op h).trans (by simp [dReg, bites])

end

section
variable {g : FDdi} (hi : immediateOk i g.imm) (hc : Issues c i 1 opc (packDdi g)) (h : aluOp opc = some op) (hf : aluFmt op = .ddi)
include hi hc h hf

/-- An operation of format DDI writes its result to Dd (R116–R120). -/
theorem ddi_retires (ok : aluOperandOk op (sylOf i 1 opc (packDdi g)) = true) (clean : ∀ b, op.bites b = false) {v : Val 24}
    (hv : ∀ b, op.eval ((s.thread i.hart).dReg g.ds1.toNat) ((s.thread i.hart).dReg (g.ds1.toNat + 1)) b
      ((s.thread i.hart).dReg g.dd.toNat) (immediate i g.imm op.signedImm) = v) : Retires c i s [wrD g.dd.toNat v] := by
  have L := lone_alu h hc (packDdi_lt g) fun _ => hf
  have hk := extOk_ddi i g 1 opc hi (hf ▸ fmtOf_of_aluOp h)
  refine L.retires R ((operandOk_alu h hk).trans ok) fun ww l s' => ?_
  have dReg : (ctxOf i.hart (atWork (s.thread i.hart) ww l)).t.dReg = (s.thread i.hart).dReg := rfl
  exact (evalA_alu _ _ s' op h).trans (by simp [dReg, clean, hv])

/-- One whose fields are out of order raises ILLEGAL_OPERAND. -/
theorem ddi_traps_operand (hp : vectorReady i.hart s) (bad : aluOperandOk op (sylOf i 1 opc (packDdi g)) = false) :
    Traps c i.hart s (causeWord 0x04 1 0) :=
  (lone_alu h hc (packDdi_lt g) fun _ => hf).traps_operand R hp
    ((operandOk_alu h (extOk_ddi i g 1 opc hi (hf ▸ fmtOf_of_aluOp h))).trans bad)

end
end

/-! ### Arithmetic and compares (R116, R117) -/

section
variable {i : Issue} {s : State} {c : Instr} {opc : Nat}

section
variable {f : FDdd}

/-- An operation on Ds1 and Ds2, whose flags its result takes (R93). -/
theorem two_retires (op : W24 → W24 → W24) (R : Ready i s) (hx : i.ext = none) (hn : f.fn = 0) (hc : Issues c i 1 opc (packDdd f))
    (h : aluOp opc = some (.two op)) {v : W24}
    (hv : op ((s.thread i.hart).dReg f.ds1.toNat).bits ((s.thread i.hart).dReg f.ds2.toNat).bits = v) :
    Retires c i s [wrD f.dd.toNat ⟨v, ((s.thread i.hart).dReg f.ds1.toNat).poison || ((s.thread i.hart).dReg f.ds2.toNat).poison⟩] :=
  ddd_retires R hx hc h (by simp [aluOperandOk, hn]) rfl fun _ => by rw [← hv]; rfl

/-- An operation on Ds1 alone. -/
theorem one_retires (op : W24 → W24) (R : Ready i s) (hx : i.ext = none) (hn : f.fn = 0) (h2 : f.ds2 = 0)
    (hc : Issues c i 1 opc (packDdd f)) (h : aluOp opc = some (.one op)) {v : W24} (hv : op ((s.thread i.hart).dReg f.ds1.toNat).bits = v) :
    Retires c i s [wrD f.dd.toNat ⟨v, ((s.thread i.hart).dReg f.ds1.toNat).poison⟩] :=
  ddd_retires R hx hc h (by simp [aluOperandOk, hn, h2]) rfl fun _ => by rw [← hv]; rfl

end

/-- An operation on Ds1 and a sign-extended immediate. -/
theorem imm_retires {g : FDdi} (op : W24 → W24 → W24) (R : Ready i s) (hi : immediateOk i g.imm) (hc : Issues c i 1 opc (packDdi g))
    (h : aluOp opc = some (.imm op)) {v : W24} (hv : op ((s.thread i.hart).dReg g.ds1.toNat).bits (immediate i g.imm true) = v) :
    Retires c i s [wrD g.dd.toNat ⟨v, ((s.thread i.hart).dReg g.ds1.toNat).poison⟩] :=
  ddi_retires R hi hc h rfl rfl (fun _ => rfl) fun _ => by rw [← hv]; rfl

end

/-- The command issues an operation on A registers (R116). -/
theorem lone_areg {c : Instr} {i : Issue} {opc opnd : Nat} (ho : 0x30 ≤ opc ∧ opc ≤ 0x34) (hc : Issues c i 1 opc opnd) (h3 : opnd < 0x400000)
    (he : i.ext.isSome = true → 0x32 ≤ opc) : Lone c i 1 opc opnd := by
  obtain ⟨lo, hi⟩ := ho
  have written : writesAlu ⟨1, opc, BitVec.ofNat 22 opnd, none⟩
      = if (⟨1, opc, BitVec.ofNat 22 opnd, none⟩ : Syl).dd < 16 then [rA (⟨1, opc, BitVec.ofNat 22 opnd, none⟩ : Syl).dd] else [] := by
    simp [writesAlu, lo, hi, show opc ≠ 0 by omega]
  refine ⟨hc, .inl rfl, by omega, h3, ?_, ?_, fun hx => ?_, ?_⟩
  · interval_cases opc <;> rfl
  · interval_cases opc <;> rfl
  · have := he hx
    interval_cases opc <;> rfl
  · have twice_nil : twice [] [] = false := rfl
    simp only [writesOf, written]
    split_ifs <;> simp [twice_one, twice_nil]

section
variable {i : Issue} {s : State} (R : Ready i s) {c : Instr} {opc : Nat} {w : W24}
include R

/-- AADD and ASUB write Ad (R116). -/
theorem areg_ddd_retires (ho : 0x30 ≤ opc ∧ opc ≤ 0x31) (hx : i.ext = none) {f : FDdd} (hc : Issues c i 1 opc (packDdd f)) (hn : f.fn = 0)
    (hd : f.dd.toNat < 16) (h1 : f.ds1.toNat < 16) (h2 : f.ds2.toNat < 16)
    (ev : ∀ x s', x.t.aReg = (s.thread i.hart).aReg → evalA x (sylOf i 1 opc (packDdd f)) s' = effWrites [wrA f.dd.toNat w]) :
    Retires c i s [wrA f.dd.toNat w] := by
  refine (lone_areg (by omega) hc (packDdd_lt f) (by simp [hx])).retires R ?_ fun ww l s' => ev _ s' rfl
  have op : opc = 0x30 ∨ opc = 0x31 := by omega
  have ne : opc ≠ 0 := by omega
  simp [operandOk, extOk_of_none hx, aOperandOk, ne, op, hd, h1, h2, hn]

/-- AADDI, ACIRC and AMOVI write Ad (R116). -/
theorem areg_ddi_retires (ho : 0x32 ≤ opc ∧ opc ≤ 0x34) {g : FDdi} (hi : immediateOk i g.imm) (hc : Issues c i 1 opc (packDdi g))
    (hd : g.dd.toNat < 16) (h1 : g.ds1.toNat < 16) (h34 : opc = 0x34 → g.ds1.toNat = 0)
    (ev : ∀ x s', x.t.aReg = (s.thread i.hart).aReg → evalA x (sylOf i 1 opc (packDdi g)) s' = effWrites [wrA g.dd.toNat w]) :
    Retires c i s [wrA g.dd.toNat w] := by
  obtain ⟨lo, hi'⟩ := ho
  have hf : fmtOf 1 opc = some .ddi := by interval_cases opc <;> rfl
  refine (lone_areg (by omega) hc (packDdi_lt g) fun _ => lo).retires R ?_ fun ww l s' => ev _ s' rfl
  have ok : aOperandOk (sylOf i 1 opc (packDdi g)) = true := by
    interval_cases opc <;> simp [aOperandOk, hd, h1, h34]
  rw [operandOk, extOk_ddi i g 1 opc hi hf]
  exact ok

end

theorem aluAbs_eq (a : W24) : aluAbs a = saturated a.toInt.natAbs := by
  have : (if s24 a < 0 then -(s24 a) else s24 a) = a.toInt.natAbs := by
    unfold s24
    split <;> omega
  rw [aluAbs, this]
  rfl

theorem aluCne_eq (a b : W24) : aluCne a b = if a != b then 1 else 0 := by
  simp [aluCne, flag24]

/-- Settles O1: each operation retires with the value that its entry of the table gives (R116, R117). -/
theorem arithmeticAndComparesWriteTheirResult : Obligations.ArithmeticAndComparesWriteTheirResult := by
  unfold Obligations.ArithmeticAndComparesWriteTheirResult
  refine ⟨fun i s R => ⟨?_, ?_, ?_, ?_, ?_, ?_⟩, fun i s R => ⟨?_, ?_⟩⟩
  · intro f hx hn a b dst
    exact ⟨two_retires aluAdd R hx hn (fun _ => rfl) rfl rfl, two_retires aluSub R hx hn (fun _ => rfl) rfl rfl,
      two_retires aluAdds R hx hn (fun _ => rfl) rfl rfl, two_retires aluSubs R hx hn (fun _ => rfl) rfl rfl,
      two_retires aluAnd R hx hn (fun _ => rfl) rfl rfl, two_retires aluOr R hx hn (fun _ => rfl) rfl rfl,
      two_retires aluXor R hx hn (fun _ => rfl) rfl rfl, two_retires aluMin R hx hn (fun _ => rfl) rfl rfl,
      two_retires aluMax R hx hn (fun _ => rfl) rfl rfl⟩
  · intro f hx hn h2 a
    exact ⟨one_retires aluNeg R hx hn h2 (fun _ => rfl) rfl rfl, one_retires aluAbs R hx hn h2 (fun _ => rfl) rfl (aluAbs_eq _)⟩
  · intro g hi a n
    exact ⟨imm_retires aluAdd R hi (fun _ => rfl) rfl rfl, imm_retires aluAnd R hi (fun _ => rfl) rfl rfl,
      imm_retires aluOr R hi (fun _ => rfl) rfl rfl, imm_retires aluXor R hi (fun _ => rfl) rfl rfl⟩
  · intro f hx hn hd h1 h2 a b
    exact ⟨areg_ddd_retires R (opc := 0x30) (by omega) hx (fun _ => rfl) hn hd h1 h2 fun x s' ha => by simp [evalA, ha, a, b],
      areg_ddd_retires R (opc := 0x31) (by omega) hx (fun _ => rfl) hn hd h1 h2 fun x s' ha => by simp [evalA, ha, a, b]⟩
  · intro g hi hd h1 a d n
    exact ⟨areg_ddi_retires R (opc := 0x32) (by omega) hi (fun _ => rfl) hd h1 (by omega) fun x s' ha => by simp [evalA, ha, a, n],
      areg_ddi_retires R (opc := 0x33) (by omega) hi (fun _ => rfl) hd h1 (by omega) fun x s' ha => by
        simp [evalA, ha, a, d, n, aluCirc, s24, wrap]⟩
  · intro g hi hd h1
    exact areg_ddi_retires R (opc := 0x34) (by omega) hi (fun _ => rfl) hd (by simp [h1]) (fun _ => by simp [h1]) fun x s' _ => by simp [evalA]
  · intro f hx hn a b dst
    exact ⟨two_retires aluCeq R hx hn (fun _ => rfl) rfl rfl, two_retires aluCne R hx hn (fun _ => rfl) rfl (aluCne_eq _ _),
      two_retires aluClt R hx hn (fun _ => rfl) rfl rfl, two_retires aluCle R hx hn (fun _ => rfl) rfl rfl,
      two_retires aluCltu R hx hn (fun _ => rfl) rfl rfl, two_retires aluCleu R hx hn (fun _ => rfl) rfl rfl⟩
  · intro g hi a n dst
    exact ⟨imm_retires aluCeq R hi (fun _ => rfl) rfl rfl, imm_retires aluClt R hi (fun _ => rfl) rfl rfl,
      imm_retires aluCgt R hi (fun _ => rfl) rfl rfl⟩

end Sys2Proof.Operations

/-!
Sys2Proof/Proofs: the shifts, the bit fields, the counts and the byte permutes (R118, R119).
-/

namespace Sys2Proof.Operations

open Sys2Proof.Machine Sys2Proof.Safety

/-! ### Shifts -/

theorem aluShl_eq (a : W24) (n : Nat) : aluShl a n = a <<< n := by
  unfold aluShl
  split
  · next h => exact (BitVec.shiftLeft_eq_zero h).symm
  · rfl

theorem aluShrl_eq (a : W24) (n : Nat) : aluShrl a n = a >>> n := by
  unfold aluShrl
  split
  · next h => exact (BitVec.ushiftRight_eq_zero h).symm
  · rfl

/-- A shift by more than 23 gives what one by 23 does: the sign in every bit. -/
theorem aluShra_eq (a : W24) (n : Nat) : aluShra a n = a.sshiftRight n := by
  by_cases h : n ≤ 23
  · rw [aluShra, Nat.min_eq_left h]
  · refine BitVec.eq_of_getLsbD_eq fun k hk => ?_
    rw [aluShra, Nat.min_eq_right (by omega), BitVec.getLsbD_sshiftRight, BitVec.getLsbD_sshiftRight, if_neg (by omega : ¬ n + k < 24)]
    split
    · have : k = 0 := by omega
      rw [this, BitVec.msb_eq_getLsbD_last]
    · rfl

section
variable {i : Issue} {s : State} {c : Instr} {opc : Nat}

/-- A shift by a register's count, which is not poisoned. -/
theorem shift_retires (op : W24 → Nat → W24) (R : Ready i s) (hx : i.ext = none) {f : FDdd} (hn : f.fn = 0)
    (clean : ((s.thread i.hart).dReg f.ds2.toNat).poison = false) (hc : Issues c i 1 opc (packDdd f)) (h : aluOp opc = some (.shift op))
    {v : W24} (hv : op ((s.thread i.hart).dReg f.ds1.toNat).bits ((s.thread i.hart).dReg f.ds2.toNat).bits.toNat = v) :
    Retires c i s [wrD f.dd.toNat ⟨v, ((s.thread i.hart).dReg f.ds1.toNat).poison⟩] :=
  ddd_retires R hx hc h (by simp [aluOperandOk, hn]) clean fun _ => by rw [← hv]; rfl

/-- A poisoned count raises POISON_USE (R95). -/
theorem shift_traps (op : W24 → Nat → W24) (R : Ready i s) (hp : vectorReady i.hart s) (hx : i.ext = none) {f : FDdd} (hn : f.fn = 0)
    (poison : ((s.thread i.hart).dReg f.ds2.toNat).poison = true) (hc : Issues c i 1 opc (packDdd f)) (h : aluOp opc = some (.shift op)) :
    Traps c i.hart s (causeWord 0x06 1 0) :=
  ddd_traps_poison R hx hc h hp (by simp [aluOperandOk, hn]) poison

/-- A shift by an immediate count. -/
theorem shiftI_retires (op : W24 → Nat → W24) (R : Ready i s) {g : FDdi} (hi : immediateOk i g.imm)
    (le : (immediate i g.imm false).toNat ≤ 23) (hc : Issues c i 1 opc (packDdi g)) (h : aluOp opc = some (.shiftI op))
    {v : W24} (hv : op ((s.thread i.hart).dReg g.ds1.toNat).bits (immediate i g.imm false).toNat = v) :
    Retires c i s [wrD g.dd.toNat ⟨v, ((s.thread i.hart).dReg g.ds1.toNat).poison⟩] :=
  ddi_retires R hi hc h rfl (by simp [aluOperandOk, AluOp.immBad, le]) (fun _ => rfl) fun _ => by rw [← hv]; rfl

theorem shiftI_traps (op : W24 → Nat → W24) (R : Ready i s) (hp : vectorReady i.hart s) {g : FDdi} (hi : immediateOk i g.imm)
    (gt : 23 < (immediate i g.imm false).toNat) (hc : Issues c i 1 opc (packDdi g)) (h : aluOp opc = some (.shiftI op)) :
    Traps c i.hart s (causeWord 0x04 1 0) :=
  ddi_traps_operand R hi hc h rfl hp (by simp [aluOperandOk, AluOp.immBad, gt])

end

/-! ### Bit fields -/

theorem aluField_eq (a : W24) (w p : Nat) : aluField a w p = ((a >>> p).setWidth w).toNat := by
  simp [aluField, Nat.shiftRight_eq_div_pow]

theorem aluBfext_eq (a : W24) (w p : Nat) : aluBfext a w p = ((a >>> p).setWidth w).setWidth 24 := by
  rw [aluBfext, aluField_eq, BitVec.ofNat_toNat]

theorem aluBfexts_eq (a : W24) {w : Nat} (p : Nat) (hw : w ≠ 0) : aluBfexts a w p = ((a >>> p).setWidth w).signExtend 24 := by
  rw [aluBfexts, aluField_eq]
  exact wrap_eq_signExtend _ (by omega)

/-- An insertion takes the bits of the field from the source and the others from Dd. -/
theorem getLsbD_aluBfins (d a : W24) (w p : Nat) {k : Nat} (hk : k < 24) :
    (aluBfins d a w p).getLsbD k = if p ≤ k ∧ k < p + w then a.getLsbD (k - p) else d.getLsbD k := by
  have mask : (BitVec.ofNat 24 ((2 ^ w - 1) * 2 ^ p)).getLsbD k = decide (p ≤ k ∧ k < p + w) := by
    simp only [BitVec.getLsbD_ofNat, hk, Nat.testBit_mul_two_pow, Nat.testBit_two_pow_sub_one, decide_true, Bool.true_and,
      ← Bool.decide_and]
    exact decide_eq_decide.mpr (by omega)
  have field : (BitVec.ofNat 24 (a.toNat % 2 ^ w * 2 ^ p)).getLsbD k = (decide (p ≤ k) && (decide (k - p < w) && a.getLsbD (k - p))) := by
    simp only [BitVec.getLsbD_ofNat, hk, Nat.testBit_mul_two_pow, Nat.testBit_mod_two_pow, BitVec.testBit_toNat, decide_true, Bool.true_and]
  rw [aluBfins, BitVec.getLsbD_or, BitVec.getLsbD_and, BitVec.getLsbD_and, BitVec.getLsbD_not, mask, field]
  split
  case isTrue h =>
    have : k - p < w := by omega
    simp only [h, this, hk, decide_true, Bool.not_true, Bool.and_false, Bool.false_or, Bool.true_and, Bool.and_true, and_self]
  case isFalse h =>
    simp only [h, hk, decide_true, decide_false, Bool.not_false, Bool.and_true, Bool.and_false, Bool.or_false]

/-- The place of a field: width in bits 11:6, position in bits 5:0 (R118). -/
theorem fld_place (m : W24) : fld m 6 6 = m.toNat / 64 % 64 ∧ fld m 0 6 = m.toNat % 64 := by
  simp [fld_eq]

section
variable {i : Issue} {s : State} {c : Instr} {opc : Nat}

/-- An immediate gives a field that lies within a word (R118). -/
def placesField (m : W24) : Prop := m.toNat < 4096 ∧ m.toNat / 64 % 64 ≠ 0 ∧ m.toNat % 64 + m.toNat / 64 % 64 ≤ 24

theorem immBad_fieldIns (m : W24) : AluOp.fieldIns.immBad m = false ↔ placesField m := by
  simp [AluOp.immBad, placesField, fld_place, and_assoc]

/-- BFEXT and BFEXTS of a field within the word. -/
theorem field_retires (op : W24 → Nat → Nat → W24) (R : Ready i s) {g : FDdi} (hi : immediateOk i g.imm)
    (place : placesField (immediate i g.imm false)) (hc : Issues c i 1 opc (packDdi g)) (h : aluOp opc = some (.field op))
    {v : W24} (hv : op ((s.thread i.hart).dReg g.ds1.toNat).bits ((immediate i g.imm false).toNat / 64 % 64)
      ((immediate i g.imm false).toNat % 64) = v) :
    Retires c i s [wrD g.dd.toNat ⟨v, ((s.thread i.hart).dReg g.ds1.toNat).poison⟩] := by
  have ok := (immBad_fieldIns _).mpr place
  refine ddi_retires R hi hc h rfl ?_ (fun _ => rfl) fun _ => ?_
  · show (!AluOp.fieldIns.immBad _) = true
    simp [ok]
  · simp [AluOp.eval, AluOp.signedImm, fld_place, hv]

/-- BFINS of a field within the word. -/
theorem fieldIns_retires (R : Ready i s) {g : FDdi} (hi : immediateOk i g.imm) (place : placesField (immediate i g.imm false))
    (hc : Issues c i 1 opc (packDdi g)) (h : aluOp opc = some .fieldIns) :
    Retires c i s [wrD g.dd.toNat ⟨aluBfins ((s.thread i.hart).dReg g.dd.toNat).bits ((s.thread i.hart).dReg g.ds1.toNat).bits
      ((immediate i g.imm false).toNat / 64 % 64) ((immediate i g.imm false).toNat % 64),
      ((s.thread i.hart).dReg g.ds1.toNat).poison || ((s.thread i.hart).dReg g.dd.toNat).poison⟩] := by
  have ok := (immBad_fieldIns _).mpr place
  refine ddi_retires R hi hc h rfl ?_ (fun _ => rfl) fun _ => ?_
  · simp [aluOperandOk, ok]
  · simp [AluOp.eval, AluOp.signedImm, fld_place]

/-- A field that does not lie within the word is an illegal operand of BFEXT, BFEXTS and BFINS. -/
theorem field_traps (R : Ready i s) (hp : vectorReady i.hart s) {g : FDdi} (hi : immediateOk i g.imm)
    (out : ¬placesField (immediate i g.imm false)) (hc : Issues c i 1 opc (packDdi g)) {op : AluOp} (h : aluOp opc = some op)
    (hop : op = .fieldIns ∨ ∃ f, op = .field f) : Traps c i.hart s (causeWord 0x04 1 0) := by
  have bad := (Bool.not_eq_false _).mp (mt (immBad_fieldIns _).mp out)
  have ok : aluOperandOk .fieldIns (sylOf i 1 opc (packDdi g)) = false := by simp [aluOperandOk, bad]
  rcases hop with rfl | ⟨f, rfl⟩
  · exact ddi_traps_operand R hi hc h rfl hp ok
  · exact ddi_traps_operand R hi hc h rfl hp ok

end

/-- BFEXTR: a field of width 0, or wholly outside the word, reads 0 (R118). -/
theorem eval_fieldR (a a1 b d : Val 24) (m : W24) : AluOp.fieldR.eval a a1 b d m
    = if b.bits.toNat / 64 % 64 = 0 ∨ 24 ≤ b.bits.toNat % 64 then ⟨0, false⟩
      else ⟨aluBfext a.bits (b.bits.toNat / 64 % 64) (b.bits.toNat % 64), a.poison⟩ := by
  simp only [AluOp.eval, fld_place]

/-- BFINSR: a field of width 0, or wholly outside the word, leaves Dd as it is (R118). -/
theorem eval_fieldInsR (a a1 b d : Val 24) (m : W24) : AluOp.fieldInsR.eval a a1 b d m
    = if b.bits.toNat / 64 % 64 = 0 ∨ 24 ≤ b.bits.toNat % 64 then d
      else ⟨aluBfins d.bits a.bits (b.bits.toNat / 64 % 64) (b.bits.toNat % 64), a.poison || d.poison⟩ := by
  simp only [AluOp.eval, fld_place]

/-! ### Leading bits -/

theorem leading_le (a : W24) (b : Bool) (n : Nat) : leading a b n ≤ n := by
  induction n with
  | zero => exact Nat.le_refl 0
  | succ n ih => unfold leading; split <;> omega

/-- The bits that are counted equal `b`. -/
theorem getLsbD_of_lt_leading (a : W24) (b : Bool) (n k : Nat) (h : k < leading a b n) : a.getLsbD (n - 1 - k) = b := by
  induction n generalizing k with
  | zero => exact absurd h (Nat.not_lt_zero k)
  | succ n ih =>
    unfold leading at h
    split at h
    case isTrue hb =>
      cases k with
      | zero => exact hb
      | succ k =>
        have := ih k (by omega)
        rwa [show n + 1 - 1 - (k + 1) = n - 1 - k by omega]
    case isFalse => exact absurd h (Nat.not_lt_zero k)

/-- The bit at which the count ends differs from `b`. -/
theorem getLsbD_leading_ne (a : W24) (b : Bool) (n : Nat) (h : leading a b n < n) : a.getLsbD (n - 1 - leading a b n) ≠ b := by
  induction n with
  | zero => exact absurd h (Nat.not_lt_zero _)
  | succ n ih =>
    unfold leading at h ⊢
    split
    case isTrue hb =>
      rw [if_pos hb] at h
      have := ih (by omega)
      rwa [show n + 1 - 1 - (1 + leading a b n) = n - 1 - leading a b n by omega]
    case isFalse hb => exact hb

/-! ### Byte permutes -/

theorem permByte_lt (a b : W24) (k : Nat) : permByte a b k < 256 := by
  unfold permByte
  split
  · exact fld_lt a _ 8
  · split
    · exact fld_lt b _ 8
    · omega

theorem ofNat_fld_eq (a : W24) (lo : Nat) : BitVec.ofNat 8 (fld a lo 8) = (a >>> lo).setWidth 8 := by
  refine BitVec.eq_of_toNat_eq ?_
  simp [fld]

/-- The result of a permute is the byte permute of R119. -/
theorem permuted_aluPerm (a b : Val 24) (sel : W24) : permuted a b sel (aluPerm a b sel.toNat) := by
  constructor
  · intro j hj
    have l0 := permByte_lt a.bits b.bits (sel.toNat / 8 ^ 0 % 8)
    have l1 := permByte_lt a.bits b.bits (sel.toNat / 8 ^ 1 % 8)
    have l2 := permByte_lt a.bits b.bits (sel.toNat / 8 ^ 2 % 8)
    have byte : ((aluPerm a b sel.toNat).bits >>> (8 * j)).setWidth 8 = BitVec.ofNat 8 (permByte a.bits b.bits (sel.toNat / 8 ^ j % 8)) := by
      refine BitVec.eq_of_toNat_eq ?_
      interval_cases j <;> simp only [aluPerm, BitVec.toNat_setWidth, BitVec.toNat_ushiftRight, BitVec.toNat_ofNat, Nat.shiftRight_eq_div_pow] <;> omega
    rw [byte]
    unfold permByte
    split_ifs <;> [exact ofNat_fld_eq _ _; exact ofNat_fld_eq _ _; rfl]
  · simp [aluPerm]

/-- Settles O2: each operation retires with the value of its table's entry, or traps where its count, place or pair is out of order (R118, R119). -/
theorem shiftsFieldsAndPermutes : Obligations.ShiftsFieldsAndPermutes := by
  unfold Obligations.ShiftsFieldsAndPermutes
  refine ⟨fun i s R => ⟨?_, ?_⟩, fun i s R => ⟨?_, ?_, ?_⟩, fun i s R => ⟨?_, ?_⟩⟩
  · intro f hx hn a b dst
    refine ⟨fun clean => ⟨shift_retires aluShl R hx hn clean (fun _ => rfl) rfl (aluShl_eq _ _),
      shift_retires aluShra R hx hn clean (fun _ => rfl) rfl (aluShra_eq _ _),
      shift_retires aluShrl R hx hn clean (fun _ => rfl) rfl (aluShrl_eq _ _)⟩, fun poison hp => ?_⟩
    simp only [List.forall_mem_cons, List.not_mem_nil, false_implies, implies_true, and_true]
    exact ⟨shift_traps aluShl R hp hx hn poison (fun _ => rfl) rfl,
      shift_traps aluShra R hp hx hn poison (fun _ => rfl) rfl,
      shift_traps aluShrl R hp hx hn poison (fun _ => rfl) rfl⟩
  · intro g hi a n dst
    refine ⟨fun le => ⟨shiftI_retires aluShl R hi le (fun _ => rfl) rfl (aluShl_eq _ _),
      shiftI_retires aluShra R hi le (fun _ => rfl) rfl (aluShra_eq _ _),
      shiftI_retires aluShrl R hi le (fun _ => rfl) rfl (aluShrl_eq _ _)⟩, fun gt hp => ?_⟩
    simp only [List.forall_mem_cons, List.not_mem_nil, false_implies, implies_true, and_true]
    exact ⟨shiftI_traps aluShl R hp hi gt (fun _ => rfl) rfl, shiftI_traps aluShra R hp hi gt (fun _ => rfl) rfl,
      shiftI_traps aluShrl R hp hi gt (fun _ => rfl) rfl⟩
  · intro g hi a d m w p
    refine ⟨fun lt hw hpw => ⟨field_retires aluBfext R hi ⟨lt, hw, hpw⟩ (fun _ => rfl) rfl (aluBfext_eq _ _ _),
      field_retires aluBfexts R hi ⟨lt, hw, hpw⟩ (fun _ => rfl) rfl (aluBfexts_eq _ _ hw),
      _, fieldIns_retires R hi ⟨lt, hw, hpw⟩ (fun _ => rfl) rfl, fun k => getLsbD_aluBfins _ _ _ _⟩, fun lt out hp => ?_⟩
    have bad : ¬placesField m := fun ⟨_, hw, hpw⟩ => out.elim hw (by omega)
    simp only [List.forall_mem_cons, List.not_mem_nil, false_implies, implies_true, and_true]
    exact ⟨field_traps R hp hi bad (fun _ => rfl) rfl (.inr ⟨_, rfl⟩), field_traps R hp hi bad (fun _ => rfl) rfl (.inr ⟨_, rfl⟩),
      field_traps R hp hi bad (fun _ => rfl) rfl (.inl rfl)⟩
  · intro f hx hn a b d w p
    have ok (opc : Nat) : aluOperandOk .fieldR (sylOf i 1 opc (packDdd f)) = true := by simp [aluOperandOk, hn]
    refine ⟨fun clean out => ⟨ddd_retires (op := .fieldR) R hx (fun _ => rfl) rfl (ok _) clean fun _ => (eval_fieldR ..).trans (if_pos out),
        ddd_retires (op := .fieldInsR) R hx (fun _ => rfl) rfl (ok _) clean fun _ => (eval_fieldInsR ..).trans (if_pos out)⟩,
      fun clean hw hp => ?_, fun poison hp => ?_⟩
    · have within : ¬(w = 0 ∨ 24 ≤ p) := by omega
      refine ⟨ddd_retires (op := .fieldR) R hx (fun _ => rfl) rfl (ok _) clean fun _ => ?_, _,
        ddd_retires (op := .fieldInsR) R hx (fun _ => rfl) rfl (ok _) clean fun _ => (eval_fieldInsR ..).trans (if_neg within),
        fun k => getLsbD_aluBfins _ _ _ _⟩
      rw [← aluBfext_eq]
      exact (eval_fieldR ..).trans (if_neg within)
    · simp only [List.forall_mem_cons, List.not_mem_nil, false_implies, implies_true, and_true]
      exact ⟨ddd_traps_poison (op := .fieldR) R hx (fun _ => rfl) rfl hp (ok _) poison,
        ddd_traps_poison (op := .fieldInsR) R hx (fun _ => rfl) rfl hp (ok _) poison⟩
  · intro f hx hn h2 a
    exact ⟨⟨_, leading_le _ _ 24, one_retires aluClz R hx hn h2 (fun _ => rfl) rfl rfl, getLsbD_of_lt_leading _ _ 24, fun lt =>
        (Bool.not_eq_false _).mp (getLsbD_leading_ne _ _ 24 lt)⟩,
      ⟨_, leading_le _ _ 23, one_retires aluCls R hx hn h2 (fun _ => rfl) rfl rfl, getLsbD_of_lt_leading _ _ 23, getLsbD_leading_ne _ _ 23⟩,
      one_retires aluSclamp R hx hn h2 (fun _ => rfl) rfl rfl⟩
  · intro f hx hn a a' b
    refine ⟨fun clean even => ⟨_, ddd_retires (op := .perm) R hx (fun _ => rfl) rfl ?_ clean fun _ => rfl, permuted_aluPerm _ _ _⟩,
      fun poison even hp => ddd_traps_poison (op := .perm) R hx (fun _ => rfl) rfl hp ?_ poison,
      fun odd hp => ddd_traps_operand (op := .perm) R hx (fun _ => rfl) rfl hp ?_⟩
    · simp [aluOperandOk, hn, even]
    · simp [aluOperandOk, hn, even]
    · simp [aluOperandOk, odd]
  · intro g hi a a' m
    have ok : aluOperandOk .permI (sylOf i 1 0x5E (packDdi g)) = (decide (g.ds1.toNat % 2 = 0) && !decide (512 ≤ m.toNat)) := by
      simp [aluOperandOk, AluOp.immBad, m]
    refine ⟨fun even lt => ⟨_, ddi_retires R hi (fun _ => rfl) rfl rfl (ok.trans ?_) (fun _ => rfl) fun _ => rfl, permuted_aluPerm _ _ _⟩,
      fun out hp => ddi_traps_operand R hi (fun _ => rfl) rfl rfl hp (ok.trans ?_)⟩
    · simp [even, lt]
    · rcases out with odd | ge
      · simp [odd]
      · simp [ge]

end Sys2Proof.Operations

/-!
Sys2Proof/Proofs: extractions and the vector operations of slot X (R122, R123).
-/

namespace Sys2Proof.Operations

open Sys2Proof.Machine Sys2Proof.Safety

/-! ### Operand fields of VEC (R100) -/

/-- The fields of a VEC syllable; `fld _ 13 7` is G2 and DS together. -/
theorem fields_vec (f : FVec) :
    fld (BitVec.ofNat 22 (packVec f)) 20 2 = f.g1.toNat ∧ fld (BitVec.ofNat 22 (packVec f)) 18 2 = f.g2.toNat
      ∧ fld (BitVec.ofNat 22 (packVec f)) 13 5 = f.ds.toNat ∧ fld (BitVec.ofNat 22 (packVec f)) 0 13 = f.fn.toNat
      ∧ fld (BitVec.ofNat 22 (packVec f)) 13 7 = 32 * f.g2.toNat + f.ds.toNat := by
  have h := packVec_lt f
  have := f.g1.isLt; have := f.g2.isLt; have := f.ds.isLt; have := f.fn.isLt
  simp only [fld_eq, BitVec.toNat_ofNat, Nat.mod_eq_of_lt h]
  unfold packVec
  refine ⟨?_, ?_, ?_, ?_, ?_⟩ <;> omega

@[simp] theorem sylOf_f (i : Issue) (slot opc opnd : Nat) : (sylOf i slot opc opnd).f = BitVec.ofNat 22 opnd := rfl

/-! ### A syllable of slot X as a bundle -/

/-- The command issues an assigned operation of slot X, which takes no extension. -/
theorem lone_mac {c : Instr} {i : Issue} {opc opnd : Nat} (hx : i.ext = none) (hc : Issues c i 2 opc opnd) (h2 : opc < 128) (h3 : opnd < 0x400000)
    (hm : (fmtOf 2 opc).isSome = true) (ht : twice (writesOf ⟨2, opc, BitVec.ofNat 22 opnd, none⟩) [] = false) : Lone c i 2 opc opnd :=
  ⟨hc, .inr rfl, h2, h3, hm, rfl, by simp [hx], ht⟩

section
variable {i : Issue} {s : State} (R : Ready i s) {c : Instr} {opc opnd : Nat} (hx : i.ext = none) (L : Lone c i 2 opc opnd)
include R hx L

/-- An operation of slot X that starts no product retires with its writes. -/
theorem mac_retires (ok : macOperandOk (sylOf i 2 opc opnd) = true) {ws : List RegWrite}
    (hw : macWrites (sylOf i 2 opc opnd) (s.thread i.hart) = (ws, none)) : Retires c i s ws := by
  refine L.retires R ?_ fun ww l s' => ?_
  · rw [operandOk, extOk_of_none hx]
    exact ok
  · have same : macWrites (sylOf i 2 opc opnd) (atWork (s.thread i.hart) ww l) = (ws, none) := hw
    show evalX _ _ = _
    simp only [evalX, ctxOf, same]
    rfl

theorem mac_traps (hp : vectorReady i.hart s) (bad : macOperandOk (sylOf i 2 opc opnd) = false) : Traps c i.hart s (causeWord 0x04 2 0) := by
  refine L.traps_operand R hp ?_
  rw [operandOk, extOk_of_none hx]
  exact bad

end

/-! ### Values -/

theorem toInt_eq_min_iff (a : W24) : a.toInt = -0x800000 ↔ a = 0x800000 := by
  rw [← BitVec.toInt_inj]
  rfl

theorem s24_eq (a : W24) : s24 a = a.toInt := rfl
theorem sat24_eq (x : Int) : sat24 x = saturated x := rfl

/-- The product of the model is that of R121: both saturate where FRAC is set, both operands are signed and both are the least. -/
theorem product_eq (a b : W24) (fn : Nat) : product a b fn = productOf fn a b := by
  have b0 : fn.testBit 0 = decide (fn % 2 = 1) := Nat.testBit_zero fn
  have b1 : fn.testBit 1 = decide (fn / 2 % 2 = 1) := Nat.testBit_eq_decide_div_mod_eq
  have b2 : fn.testBit 2 = decide (fn / 4 % 2 = 1) := Nat.testBit_eq_decide_div_mod_eq
  by_cases signed : ¬fn % 2 = 1 ∧ ¬fn / 2 % 2 = 1
  · have low : fn % 4 = 0 := by omega
    by_cases frac : fn / 4 % 2 = 1
    · simp [product, productOf, b0, b1, b2, low, signed, frac, s24_eq, toInt_eq_min_iff]
    · simp [product, productOf, b0, b1, b2, signed, frac, s24_eq]
  · have low : fn % 4 ≠ 0 := by omega
    have notBoth : ¬(fn.testBit 0 = false ∧ fn.testBit 1 = false ∧ a = 0x800000 ∧ b = 0x800000) := by
      rintro ⟨h0, h1, -⟩
      exact signed ⟨of_decide_eq_false (b0 ▸ h0), of_decide_eq_false (b1 ▸ h1)⟩
    by_cases frac : fn / 4 % 2 = 1
    · simp only [product, productOf, low, notBoth]
      simp [b0, b1, b2, frac, s24_eq]
    · simp [product, productOf, b0, b1, b2, frac, s24_eq]

/-- An extraction by FN: its shift in bits 3:0, TRUNC in bit 4 (R122). -/
theorem accExtract_eq (x : Val 56) {n : Nat} (fn : BitVec n) :
    accExtract x (fn.toNat % 16) (decide (fn.toNat / 16 % 2 = 1)) = ⟨extracted x.bits (fn.toNat % 16) (fn.getLsbD 4), x.poison⟩ := by
  have trunc : fn.getLsbD 4 = decide (fn.toNat / 16 % 2 = 1) := Nat.testBit_eq_decide_div_mod_eq
  rw [trunc]
  by_cases h : fn.toNat / 16 % 2 = 1 <;> simp [accExtract, extracted, h, s56, sat24_eq]

theorem mulLane_eq (a b : Val 24) (fn : Nat) : mulLane a b fn = ⟨BitVec.ofInt 56 (productOf fn a.bits b.bits), a.poison || b.poison⟩ := by
  rw [mulLane, product_eq]
  rfl

theorem mulAcc_add_eq (x : Val 56) (a b : Val 24) (fn : Nat) :
    mulAcc x a b fn 1 = ⟨BitVec.ofInt 56 (x.bits.toInt + productOf fn a.bits b.bits), x.poison || a.poison || b.poison⟩ := by
  rw [mulAcc, product_eq, one_mul]
  rfl

theorem mulAcc_sub_eq (x : Val 56) (a b : Val 24) (fn : Nat) :
    mulAcc x a b fn (-1) = ⟨BitVec.ofInt 56 (x.bits.toInt - productOf fn a.bits b.bits), x.poison || a.poison || b.poison⟩ := by
  rw [mulAcc, product_eq, neg_one_mul, ← sub_eq_add_neg]
  rfl

/-! ### Extractions -/

theorem extractFnOk_iff {fn : Nat} (h : fn < 32) : extractFnOk fn = decide (fn % 16 ≤ 8) := by
  simp [extractFnOk, h]

section
variable {i : Issue} {s : State}

theorem lone_xtr (hx : i.ext = none) (f : FDdd) : Lone (.xtr i f) i 2 0x48 (packDdd f) :=
  lone_mac hx (fun _ => rfl) (by omega) (packDdd_lt f) rfl (twice_one _)

/-- The eight D registers of a group are distinct. -/
theorem twice_group : ∀ g : BitVec 2, twice (dRange (8 * g.toNat) 8) [] = false := by decide

theorem lone_xtrv (hx : i.ext = none) (f : FVec) : Lone (.xtrv i f) i 2 0x49 (packVec f) := by
  refine lone_mac hx (fun _ => rfl) (by omega) (packVec_lt f) rfl ?_
  show twice (dRange (8 * fld (BitVec.ofNat 22 (packVec f)) 20 2) 8) [] = false
  rw [(fields_vec f).1]
  exact twice_group f.g1

theorem macOperandOk_xtr {f : FDdd} (h1 : f.ds1.toNat < 8) (h2 : f.ds2 = 0) (hn : f.fn.toNat < 32) :
    macOperandOk (sylOf i 2 0x48 (packDdd f)) = decide (f.fn.toNat % 16 ≤ 8) := by
  simp [macOperandOk, h1, h2, extractFnOk_iff hn]

theorem macOperandOk_xtrv {f : FVec} (h2 : f.g2 = 0) (hd : f.ds = 0) (hn : f.fn.toNat < 32) :
    macOperandOk (sylOf i 2 0x49 (packVec f)) = decide (f.fn.toNat % 16 ≤ 8) := by
  simp [macOperandOk, fields_vec, h2, hd, extractFnOk_iff hn]

end

/-! ### Vector operations -/

section
variable {i : Issue} {s : State} {c : Instr} {opc : Nat}

theorem twice_accumulators : twice ((List.range 8).map rX) [] = false := by decide

theorem lone_vec (hx : i.ext = none) {f : FVec} (ho : 0x20 ≤ opc ∧ opc ≤ 0x24) (hc : Issues c i 2 opc (packVec f)) :
    Lone c i 2 opc (packVec f) := by
  obtain ⟨lo, hi⟩ := ho
  refine lone_mac hx hc (by omega) (packVec_lt f) ?_ ?_
  · interval_cases opc <;> rfl
  · interval_cases opc <;> exact twice_accumulators

theorem macOperandOk_vec {f : FVec} (ho : 0x20 ≤ opc ∧ opc ≤ 0x24) (hn : f.fn.toNat < 8) (unused : if opc ≤ 0x22 then f.ds = 0 else f.g2 = 0) :
    macOperandOk (sylOf i 2 opc (packVec f)) = true := by
  obtain ⟨lo, hi⟩ := ho
  interval_cases opc <;> simp at unused <;> simp [macOperandOk, fields_vec, hn, unused]

/-- What a vector operation gives in lane `k`: the operations that S ends the name of take DS as their second operand (R123). -/
def vecLane (opc : Nat) (f : FVec) (t : Thread) (k : Nat) : Val 56 :=
  let a := t.dReg (8 * f.g1.toNat + k)
  let b := if opc ≤ 0x22 then t.dReg (8 * f.g2.toNat + k) else t.dReg f.ds.toNat
  if opc = 0x20 then mulLane a b f.fn.toNat
  else if opc = 0x21 ∨ opc = 0x23 then mulAcc (t.xReg k) a b f.fn.toNat 1 else mulAcc (t.xReg k) a b f.fn.toNat (-1)

theorem macWrites_vec (f : FVec) (t : Thread) (ho : 0x20 ≤ opc ∧ opc ≤ 0x24) :
    macWrites (sylOf i 2 opc (packVec f)) t = ((List.range 8).map fun k => wrX k (vecLane opc f t k), none) := by
  have vector : macWrites (sylOf i 2 opc (packVec f)) t = (vectorWrites (sylOf i 2 opc (packVec f)) t, none) := by
    obtain ⟨lo, hi⟩ := ho
    interval_cases opc <;> rfl
  rw [vector]
  simp only [vectorWrites, vecLane, sylOf_opc, sylOf_f, fields_vec]

/-- A vector operation writes every accumulator with what its lane gives (R123). -/
theorem vec_retires (R : Ready i s) (hx : i.ext = none) {f : FVec} (ho : 0x20 ≤ opc ∧ opc ≤ 0x24) (hc : Issues c i 2 opc (packVec f))
    (hn : f.fn.toNat < 8) (unused : if opc ≤ 0x22 then f.ds = 0 else f.g2 = 0) {lane : Nat → Val 56}
    (hl : ∀ k, vecLane opc f (s.thread i.hart) k = lane k) : Retires c i s ((List.range 8).map fun k => wrX k (lane k)) := by
  obtain rfl : vecLane opc f (s.thread i.hart) = lane := funext hl
  exact mac_retires R hx (lone_vec hx ho hc) (macOperandOk_vec ho hn unused) (macWrites_vec f _ ho)

end

/-- Settles O6: extractions round and saturate, and every lane goes to its accumulator (R122, R123). -/
theorem extractionsAndVectorLanes : Obligations.ExtractionsAndVectorLanes := by
  unfold Obligations.ExtractionsAndVectorLanes
  refine ⟨fun i s R hx => ⟨?_, ?_⟩, fun i f s R hx hn => ?_⟩
  · intro f h1 h2 hn x
    refine ⟨fun le => mac_retires R hx (lone_xtr hx f) ?_ ?_, fun gt hp => mac_traps R hx (lone_xtr hx f) hp ?_⟩
    · simp [macOperandOk_xtr h1 h2 hn, le]
    · simp only [macWrites, sylOf_opc, sylOf_ddd_dd, sylOf_ddd_ds1, sylOf_ddd_fn, accExtract_eq, x]
    · simp [macOperandOk_xtr h1 h2 hn, gt]
  · intro f h2 hd hn lane
    refine ⟨fun le => mac_retires R hx (lone_xtrv hx f) ?_ ?_, fun gt hp => mac_traps R hx (lone_xtrv hx f) hp ?_⟩
    · simp [macOperandOk_xtrv h2 hd hn, le]
    · simp only [macWrites, sylOf_opc, sylOf_f, fields_vec, accExtract_eq, lane]
    · simp [macOperandOk_xtrv h2 hd hn, gt]
  · intro t a b d x pair one lanes
    exact ⟨fun hd => ⟨vec_retires (opc := 0x20) R hx (by omega) (fun _ => rfl) hn hd fun k => mulLane_eq _ _ _,
        vec_retires (opc := 0x21) R hx (by omega) (fun _ => rfl) hn hd fun k => mulAcc_add_eq _ _ _ _,
        vec_retires (opc := 0x22) R hx (by omega) (fun _ => rfl) hn hd fun k => mulAcc_sub_eq _ _ _ _⟩,
      fun hg => ⟨vec_retires (opc := 0x23) R hx (by omega) (fun _ => rfl) hn hg fun k => mulAcc_add_eq _ _ _ _,
        vec_retires (opc := 0x24) R hx (by omega) (fun _ => rfl) hn hg fun k => mulAcc_sub_eq _ _ _ _⟩⟩

end Sys2Proof.Operations
